-- ==== Sys2Proof/Word.lean ====
section
/-! DEFINITION. The words of the Esfadon HS440 Hut Supervision Concentrator: the byte of a frame, the 16-bit word of a
module register, and the 32-bit word of a tag, a stamp and the uptime (11_frame_and_record_formats.md R182, R183). -/

namespace Sys2Proof

/-- One byte of a frame (R182). -/
abbrev Byte := BitVec 8

/-- One 16-bit word: a raw word, a module register, the cycle number, the CRC register. -/
abbrev Word16 := BitVec 16

/-- One 32-bit word: a tag, a stamp, the uptime, the making order. -/
abbrev Word32 := BitVec 32

end Sys2Proof
end

