-- ==== Sys2Proof/Syntax.lean ====
section
/-! DEFINITION. The commands of the part: one constructor per row of spec/opcode_table.json, in the table's order.
A request row's operand is the port whose executor takes the request; the fields of the request stand in the frame at the head
of that port's request queue (notes/assumptions/2.md). A row that one port alone may send has no port operand. -/

namespace Sys2Proof

/-- The three master ports. -/
inductive Port where
  | east
  | west
  | hut
  deriving DecidableEq, Repr

/-- The two route ports. -/
inductive RoutePort where
  | east
  | west
  deriving DecidableEq, Repr

/-- The commands: the operations and events of the part. -/
inductive Instr where
  /-- POWER_ON_RESET (R20). Assertion of POR sets every piece of state in the part to its initial value. -/
  | powerOnReset
  /-- POR_RELEASE (R170). Release of POR reads the BAUD0 and BAUD1 straps, which set the rate of both route ports until the next power-on reset. The operands are the levels of the two straps (high is true). -/
  | porRelease (baud0 baud1 : Bool)
  /-- ROUTE_FRAME_COMPLETE (R172). A route port receiver completes a frame at its last CRC byte and checks it in the order of R172. `last` is that byte. -/
  | routeFrameComplete (r : RoutePort) (last : Byte)
  /-- INTER_BYTE_TIMEOUT (R170). More than 20 ms pass between two bytes of a frame in progress, so the frame is abandoned and the receiver returns to HUNT. -/
  | interByteTimeout (r : RoutePort)
  /-- FRAMING_ERROR (R170). A byte arrives with its stop bit low; the byte is discarded, the frame in progress is abandoned and the receiver returns to HUNT. -/
  | framingError (r : RoutePort)
  /-- CHIP_SELECT_RELEASE (R171). Release of the Hut Port chip select ends an assertion; its bytes are judged as a read transfer, a frame or a length mismatch, and a frame is checked. `mosi` holds the bytes of the assertion in order; as many have gone out on MISO (R176), of which `fill` bytes 0x00 before the last frame that began in it (notes/assumptions/7.md). -/
  | chipSelectRelease (mosi : List Byte) (fill : Nat)
  /-- LINK_TIMEOUT (R177). Expiry of the link timer turns the link DOWN, reports the start of LINK_LOSS and ends that port's claims. -/
  | linkTimeout (r : RoutePort)
  /-- FRAME_SENT (R176). A frame leaves the output queue for transmission; a freed place goes first to an owed ATTENTION, then to a waiting response, then to held referral answers. -/
  | frameSent (p : Port)
  /-- DEFINE_POINT (R11). Defines or redefines a point entry with a whole descriptor, removes its notices and resets its live record. -/
  | definePoint (p : Port)
  /-- SET_LIMITS (R13). Replaces the limit fields of a defined point and restarts its persistence. -/
  | setLimits (p : Port)
  /-- UNDEFINE_POINT (R15). Removes a defined, unreferenced point, its notices and its tag. -/
  | undefinePoint (p : Port)
  /-- READ_POINT (R16). Returns the point state, descriptor and live record of one entry. -/
  | readPoint (p : Port)
  /-- READ_POINTS (R17). Returns short records of 1..16 consecutive entries taken at one instant. -/
  | readPoints (p : Port)
  /-- FIND_TAG (R7). Returns the index and state of the defined point holding a tag, or NOT_FOUND. -/
  | findTag (p : Port)
  /-- FORCE_POINT (R18). Sets a forced value on a point, which is evaluated at once without persistence. -/
  | forcePoint (p : Port)
  /-- UNFORCE_POINT (R19). Removes a forced value, leaving the point STALE or FAILED with its held record. -/
  | unforcePoint (p : Port)
  /-- CLEAR_ASSERTED (R31). Clears the asserted flag of a STICKY discrete point. -/
  | clearAsserted (p : Port)
  /-- START_SCAN (R44). Sets the scan state RUNNING and starts a cycle, or holds the start behind a cycle still walking. -/
  | startScan
  /-- STOP_SCAN (R45). Sets the scan state STOPPED, stops the period timer and clears a held start. -/
  | stopScan
  /-- SET_SCAN_PERIOD (R47). Stores a clamped configured scan period that applies from the next start. -/
  | setScanPeriod (p : Port)
  /-- SCAN_ADD (R56). Appends a defined point to the scan list, makes it SCANNED and sets its scan-entry mark. -/
  | scanAdd (p : Port)
  /-- SCAN_REMOVE (R57). Takes a point out of the scan list, making it DEFINED and a GOOD record STALE. -/
  | scanRemove (p : Port)
  /-- READ_SCAN_LIST (R58). Returns the scanner state and up to 120 list indices from a start position. -/
  | readScanList (p : Port)
  /-- SET_MODULE_CLASS (R75). Replaces the record of one module class in the class table. -/
  | setModuleClass (p : Port)
  /-- ASSIGN_MODULE_CLASS (R76). Sets the class of one module address in the module class map. -/
  | assignModuleClass (p : Port)
  /-- READ_MODULE_CLASSES (R77). Returns the class table, the map, the bus state and the clock state. -/
  | readModuleClasses (p : Port)
  /-- READ_MODULE (R79). Checks a direct read of a byte, word or line of a module and places the port's direct bus request. -/
  | readModule (p : Port)
  /-- WRITE_MODULE (R80). Checks a direct write of a byte or word to a module and places the port's direct bus request. -/
  | writeModule (p : Port)
  /-- SET_ECONOMY (R96). Sets the economy mode and re-evaluates the wanted clock state. -/
  | setEconomy
  /-- ACK_NOTICE (R109). Acknowledges a notice entry, making a RAISED entry ACKED or removing a RETURNED one. -/
  | ackNotice (p : Port)
  /-- POST (R118). Posts or updates a posted slot and raises or re-raises its entry. -/
  | post (p : Port)
  /-- UNPOST (R119). Frees the poster's slot and ends its condition. -/
  | unpost (p : Port)
  /-- SET_GROUP_THRESHOLD (R115). Sets the suppression threshold of a group 1..7. -/
  | setGroupThreshold (p : Port)
  /-- FETCH_NOTICE (R131). Without an identity, returns the most urgent entry offerable to the port and marks it delivered to that port. -/
  | fetchNotice (p : Port)
  /-- FETCH_NOTICE_IDENTITY (R133). With an identity, returns the named entry whatever its offerability and changes no state. -/
  | fetchNoticeIdentity (p : Port)
  /-- SET_LEVEL (R130). Sets the port's clamped service level and recomputes its summary. -/
  | setLevel (p : Port)
  /-- READ_SUMMARY (R134). Returns the summary record and clears the requesting port's lost flag. -/
  | readSummary (p : Port)
  /-- DEFINE_ACTUATOR (R140). Defines an actuator, resets its live fields and, for a HELD actuator, starts its refresh timer and queues a policy write. -/
  | defineActuator (p : Port)
  /-- UNDEFINE_ACTUATOR (R141). Undefines an unclaimed idle actuator and removes its FAULT notice. -/
  | undefineActuator (p : Port)
  /-- READ_ACTUATOR (R142). Returns an actuator's descriptor and live fields. -/
  | readActuator (p : Port)
  /-- CLAIM (R144). Grants or renews a claim on an actuator for a clamped lease. -/
  | claim (p : Port)
  /-- RELEASE (R145). Ends the holder's claim on an actuator. -/
  | release (p : Port)
  /-- COMMAND (R149). Queues a write of a value to a held actuator, with the executor held until the write completes. -/
  | command (p : Port)
  /-- EXCHANGE (R151). Claims if needed and queues a write followed by a feedback read under a locked tenure. -/
  | exchange (p : Port)
  /-- TAKE_REFERRAL (R161). Gives the hut controller the oldest UNTAKEN referral and makes its slot TAKEN. -/
  | takeReferral
  /-- ANSWER_REFERRAL (R162). Forms the answer of a TAKEN referral for its origin port and places or holds it. -/
  | answerReferral
  /-- REFERRAL (R160). A route request of a referred kind is checked and fills a referral slot, or is answered MALFORMED, NO_ANSWER or BUSY. -/
  | referral (r : RoutePort)
  /-- RESTART_HUT_CONTROLLER (R165). Starts a 200 ms HCRST pulse and clears the hut path, or is answered BUSY during a pulse. -/
  | restartHutController (r : RoutePort)
  /-- SET_PERMISSIONS (R178). Replaces both route ports' configuration permission, direct window and supervision-restart permission. -/
  | setPermissions
  /-- SET_SITE_POINTS (R179). Sets the site-local and economy trigger point references. -/
  | setSitePoints
  /-- IDENTIFY (R180). Returns the vendor code, part code, revision, capacities, baud code and uptime. -/
  | identify (p : Port)
  /-- RESTART_SUPERVISION (R181). Answers OK; the restart begins once the OK has been placed. -/
  | restartSupervision (p : Port)
  /-- SUPERVISION_RESTART (R181). Once the OK is placed, the restart withdraws bus requests, empties the work list and waits for any transaction in flight to end. -/
  | supervisionRestart
  /-- SUPERVISION_RESTART_STEPS (R181). After the transaction in flight ends, or at once if none is in flight, restart steps 2 to 8 run and the executors resume. -/
  | supervisionRestartSteps
  /-- FREE_GRANT (R86). When the grant conditions hold, the arbiter grants the bus to one waiting requester and that requester composes its transaction. -/
  | freeGrant
  /-- RESERVED_GRANT (R88). After the exchange write's recovery, the Actuator Unit is given the reserved grant for the feedback read. -/
  | reservedGrant
  /-- BEAT_END (R66). A beat ends on ANSWER, ERROR or timeout, and the next beat follows or the transaction ends. `clock` is the number of the bus clock at which the lines are sampled (the first clock of the beat is 1); then ANSWER, ERROR, BURST-INHIBIT and the data lines at that clock. -/
  | beatEnd (clock : Nat) (answer error burstInhibit : Bool) (data : Word16)
  /-- BUS_RECOVERY_END (R68). The recovery count reaches 0 and the bus state becomes IDLE. -/
  | busRecoveryEnd
  /-- READ_COMPLETION (R53). The Scanner's read in flight completes, its samples are handed over in list order and the walk continues. -/
  | readCompletion
  /-- PERIOD_TIMER_EXPIRY (R54). The period timer expires and starts a cycle, or holds the start and raises SCAN_OVERRUN if a cycle is walking. -/
  | periodTimerExpiry
  /-- HANDOVER_BEGIN (R93). A pending clock switch begins its 32 µs handover once the bus is idle with no tenure. -/
  | handoverBegin
  /-- HANDOVER_END (R93). The handover ends, the new clock state and frequency are entered and the grant hold is cleared. -/
  | handoverEnd
  /-- ACTUATOR_WRITE_COMPLETION (R149). A COMMAND, REFRESH, POLICY WRITE or exchange write completes and updates output value and fault count. -/
  | actuatorWriteCompletion
  /-- EXCHANGE_READ_COMPLETION (R152). The feedback read of an exchange completes, its sample is taken and the exchange response is placed. -/
  | exchangeReadCompletion
  /-- DIRECT_TRANSFER_COMPLETION (R79). A direct read or write transaction completes and its response is formed. -/
  | directTransferCompletion
  /-- SECOND_TICK (R180). Each tick of the second timebase increases the uptime and lowers every lease remaining. -/
  | secondTick
  /-- LEASE_EXPIRY (R146). A claim's lease remaining reaches 0 and the claim ends by expiry. -/
  | leaseExpiry (index : Nat)
  /-- REFRESH_TIMER_EXPIRY (R154). A HELD actuator's refresh timer expires, restarts and queues a REFRESH if nothing is pending. -/
  | refreshTimerExpiry (index : Nat)
  /-- REFERRAL_TIMEOUT (R163). A referral's age timer expires and NO_ANSWER is placed or held for its origin port. -/
  | referralTimeout (slot : Nat)
  /-- PULSE_TIMER_EXPIRY (R166). The restart pulse ends, HCRST is released and the silence timer restarts at 60 s. -/
  | pulseTimerExpiry
  /-- SILENCE_TIMER_EXPIRY (R167). No valid hut frame has arrived for 60 s, so the silence becomes active and HUT_SILENT starts. -/
  | silenceTimerExpiry
  /-- RXD_BYTE (R170). A route port receiver takes a byte from RXD: in HUNT a byte other than 0xC3 is discarded and 0xC3 starts a frame, and the next byte is taken as LEN, with a LEN below 2 or above 246 ending the frame as a length mismatch. -/
  | rxdByte (r : RoutePort) (b : Byte)
  deriving DecidableEq, Repr

end Sys2Proof
end

