-- ==== Sys2Proof/Config.lean ====
section
/-! DEFINITION. The fixed numbers of the part, each with the rule that gives it. The part leaves no value open, so there is
no opaque constant here. -/

namespace Sys2Proof.Config

/-- Entries of the Point Table (R1). -/
abbrev points : Nat := 256
/-- Module addresses on the point bus (R61). -/
abbrev modules : Nat := 128
/-- Module classes (R61). -/
abbrev classes : Nat := 8
/-- Actuator entries (R136). -/
abbrev actuators : Nat := 32
/-- Places of the Notice Table (R101). -/
abbrev notices : Nat := 64
/-- Posted slots (R117). -/
abbrev postedSlots : Nat := 8
/-- Referral slots (R158). -/
abbrev referralSlots : Nat := 4
/-- Places of a request queue (R169). -/
abbrev requestPlaces : Nat := 4
/-- Places of an output queue (R169). -/
abbrev outputPlaces : Nat := 8

/-- Highest priority and highest service level (R101, R121). -/
abbrev topLevel : Nat := 31
/-- Consecutive failed reads after which a point is FAILED (R34). -/
abbrev failLimit : Nat := 3
/-- Grants to others after which the Scanner goes first (R86). -/
abbrev scannerGuard : Nat := 4

/-- The link timer's full time, 30 s in milliseconds (R177). -/
abbrev linkTime : Nat := 30000
/-- The silence timer's full time, 60 s in milliseconds (R167). -/
abbrev silenceTime : Nat := 60000
/-- The restart pulse, 200 ms (R165). -/
abbrev pulseTime : Nat := 200
/-- The age timer of a referral, 10 s in milliseconds (R160). -/
abbrev ageTime : Nat := 10000
/-- The clock handover, 32 microseconds (R93). -/
abbrev handoverTime : Nat := 32
/-- The configured scan period after power-on reset, in milliseconds (R43). -/
abbrev defaultPeriod : Nat := 1000

/-- The SYNC byte (R182). -/
abbrev sync : Byte := 0xC3#8
/-- The ATTENTION kind (R184). -/
abbrev attentionKind : Byte := 0x80#8
/-- The first kind of the referred range 0xE0..0xFF (R184). -/
abbrev referredBase : Nat := 0xE0
/-- The kind RESTART SUPERVISION (R184). -/
abbrev restartSupervisionKind : Byte := 0x3B#8
/-- Largest body of a referred request (R160). -/
abbrev referralBodyMax : Nat := 238
/-- Highest result code value (R185). -/
abbrev lastResultCode : Nat := 0x16

end Sys2Proof.Config
end

