-- ==== Sys2Proof/Machine/State.lean ====
section
/-! DEFINITION. The state of the part as plain data, the reasons a step could stop (none), and the state after reset.
Rules are cited as R<n> of spec/. -/

namespace Sys2Proof.Machine

/-! ## Per-port data and timers -/

/-- One value for each of the three ports. -/
structure PerPort (α : Type) where
  east : α
  west : α
  hut : α
  deriving DecidableEq, Repr

/-- One value for each of the two route ports. -/
structure PerRoute (α : Type) where
  east : α
  west : α
  deriving DecidableEq, Repr

/-- A set of ports: a route mask, a port mask, delivered marks, lost flags (R2, R101, R112, R121). -/
abbrev PortSet := PerPort Bool

/-- The empty set of ports. -/
abbrev PortSet.empty : PortSet := ⟨false, false, false⟩

/-- All three ports. -/
abbrev PortSet.all : PortSet := ⟨true, true, true⟩

/-- A timer: stopped, or running with a time remaining (in milliseconds, but microseconds for the handover). -/
abbrev Timer := Option Nat

/-! ## The Point Table (R1 to R4, R21) -/

abbrev PointIx := Fin 256
abbrev ModIx := Fin 128
abbrev ClassIx := Fin 8
abbrev ActIx := Fin 32
abbrev SlotIx := Fin 8
abbrev ReferralIx := Fin 4

/-- Width of a point or an actuator register (R2, R136). -/
inductive Width where
  | byte
  | word
  deriving DecidableEq, Repr

inductive ByteOrder where
  | natural
  | swapped
  deriving DecidableEq, Repr

inductive ScanClass where
  | fast
  | normal
  | slow
  deriving DecidableEq, Repr

inductive Edge where
  | rising
  | falling
  | both
  deriving DecidableEq, Repr

inductive EdgeMode where
  | sticky
  | level
  deriving DecidableEq, Repr

inductive GateSense where
  | openWhileSet
  | openWhileClear
  deriving DecidableEq, Repr

/-- A present `gate` (R3): the gate point and its sense. -/
structure Gate where
  point : PointIx
  sense : GateSense
  deriving DecidableEq, Repr

/-- The ANALOG fields of a descriptor (R3). -/
structure AnalogPart where
  zero : Int
  slope : Int
  filterShift : Nat
  ll : Option Int
  l : Option Int
  h : Option Int
  hh : Option Int
  hysteresis : Nat
  deriving DecidableEq, Repr

/-- The DISCRETE fields of a descriptor (R3). -/
structure DiscretePart where
  bit : Nat
  edge : Edge
  mode : EdgeMode
  gate : Option Gate
  deriving DecidableEq, Repr

/-- A point is ANALOG or DISCRETE, and holds the fields of its kind alone (R3). -/
inductive KindPart where
  | analog (a : AnalogPart)
  | discrete (d : DiscretePart)
  deriving DecidableEq, Repr

/-- A point descriptor (R2, R3). -/
structure Descriptor where
  tag : Word32
  modAddr : ModIx
  offset : Byte
  width : Width
  order : ByteOrder
  signed : Bool
  scanClass : ScanClass
  persistence : Nat
  alarmPriority : Nat
  urgentPriority : Nat
  group : Nat
  routeMask : PortSet
  part : KindPart
  deriving DecidableEq, Repr

inductive Band where
  | lowlow
  | low
  | normal
  | high
  | highhigh
  deriving DecidableEq, Repr

inductive Quality where
  | unscanned
  | good
  | stale
  | failed
  | forced
  deriving DecidableEq, Repr

/-- What persistence counts toward: a band (analog) or a level (discrete) (R4, R27). -/
inductive Target where
  | band (b : Band)
  | level (l : Bool)
  deriving DecidableEq, Repr

/-- The live record of a point (R4). -/
structure LiveRecord where
  raw : Word16
  value : Int
  filtered : Int
  band : Band
  level : Bool
  asserted : Bool
  candidate : Option Target
  count : Nat
  failCount : Nat
  quality : Quality
  sat : Bool
  lastCycle : Word16
  forcedValue : Option Int
  deriving DecidableEq, Repr

/-- The initial live record: the last column of R4. -/
def LiveRecord.initial : LiveRecord where
  raw := 0
  value := 0
  filtered := 0
  band := .normal
  level := false
  asserted := false
  candidate := none
  count := 0
  failCount := 0
  quality := .unscanned
  sat := false
  lastCycle := 0
  forcedValue := none

/-- The point state (R1, R5); a DEFINED or SCANNED entry holds its descriptor, an UNDEFINED one holds none. -/
inductive PointState where
  | undefined
  | defined (d : Descriptor)
  | scanned (d : Descriptor)
  deriving DecidableEq, Repr

/-- An entry of the Point Table (R1), with the scan-entry mark and the reported ASSERTED activity of R21. -/
structure PointEntry where
  state : PointState
  live : LiveRecord
  scanMark : Bool
  reportedAsserted : Bool
  deriving DecidableEq, Repr

/-- An entry after power-on reset (R20, R21). -/
def PointEntry.initial : PointEntry where
  state := .undefined
  live := .initial
  scanMark := true
  reportedAsserted := false

/-! ## The Scanner (R43) -/

inductive ScanState where
  | stopped
  | running
  deriving DecidableEq, Repr

inductive CycleState where
  | idle
  | walking
  deriving DecidableEq, Repr

/-- A scan-list entry that the read in flight serves; `left` says that it has left the list since (R53). -/
structure ServedEntry where
  point : PointIx
  left : Bool
  deriving DecidableEq, Repr

/-- The Scanner's state (R43). The scan list is `passed ++ ahead`; the walk position is the first entry of `ahead`, and the end
of the list when `ahead` is empty. -/
structure Scanner where
  scanState : ScanState
  passed : List PointIx
  ahead : List PointIx
  period : Nat
  cycleNumber : Word16
  cycleState : CycleState
  periodTimer : Timer
  heldStart : Bool
  overrun : Bool
  inFlight : Option (List ServedEntry)
  deriving DecidableEq, Repr

/-! ## The Point Bus Controller (R61, R62) and the arbiter (R83) -/

inductive BusWidth where
  | w8
  | w16
  deriving DecidableEq, Repr

/-- A class record (R62); `timeout` is in units of 16 bus clocks. -/
structure ClassRecord where
  width : BusWidth
  settle : Nat
  timeout : Nat
  recovery : Nat
  lineReads : Bool
  deriving DecidableEq, Repr

/-- The defaults of R62. -/
def ClassRecord.default : ClassRecord where
  width := .w8
  settle := 2
  timeout := 8
  recovery := 1
  lineReads := false

inductive BusState where
  | idle
  | active
  | recovery
  deriving DecidableEq, Repr

/-- The five requesters of the arbiter (R83). -/
inductive Requester where
  | actuatorUnit
  | direct (p : Port)
  | scanner
  deriving DecidableEq, Repr

/-- The transaction kinds (R64). -/
inductive TxKind where
  | singleRead
  | singleWrite
  | doubleRead
  | doubleWrite
  | lineRead
  deriving DecidableEq, Repr

/-- A beat: the byte offset or word number on the offset lines, and the data of a write (R61, R65). -/
structure Beat where
  addr : Nat
  data : Option Word16
  deriving DecidableEq, Repr

/-- Why a bus read or write failed (R34, R66). ADDRESS is the reason of a read or write that no transaction could run. -/
inductive FailReason where
  | timeout
  | error
  | address
  deriving DecidableEq, Repr

/-- A transaction record (R61): requester, kind, module, class parameters, beat list, needed words, position and what has been
delivered so far; with the count of beats answered and the failure (R70), the burst-inhibit flag (R72, R79), the mark of an
exchange's write (R88), and whether the response is to be discarded (R81). -/
structure Transaction where
  requester : Requester
  kind : TxKind
  modAddr : ModIx
  clsNo : ClassIx
  cls : ClassRecord
  beats : List Beat
  needed : List Nat
  pos : Nat
  delivered : List (Nat × Word16)
  answered : Nat
  failure : Option FailReason
  inhibited : Bool
  exchangeWrite : Bool
  discarded : Bool
  deriving DecidableEq, Repr

/-- The Point Bus Controller (R61). `ended` holds the results of a transaction that has ended and whose requester has not yet
taken them (notes/assumptions/8.md). -/
structure Bus where
  classes : Vector ClassRecord 8
  map : Vector ClassIx 128
  busState : BusState
  inFlight : Option Transaction
  recovery : Nat
  ended : Option Transaction
  deriving DecidableEq, Repr

/-- The waiting set (R83): who has a bus request pending. -/
structure WaitingSet where
  actuatorUnit : Bool
  direct : PerPort Bool
  scanner : Bool
  deriving DecidableEq, Repr

inductive LockedTenure where
  | closed
  | first
  | second
  deriving DecidableEq, Repr

/-- The Point Bus Arbiter (R83). -/
structure Arbiter where
  waiting : WaitingSet
  tenure : Option Requester
  locked : LockedTenure
  rotation : List Port
  scannerWait : Nat
  grantHold : Bool
  deriving DecidableEq, Repr

/-! ## Clock Control (R90) -/

inductive ClockState where
  | full
  | toEconomy
  | economy
  | toFull
  deriving DecidableEq, Repr

inductive EconomyMode where
  | auto
  | forceFull
  | forceEconomy
  deriving DecidableEq, Repr

inductive WantedClock where
  | full
  | economy
  deriving DecidableEq, Repr

structure ClockControl where
  clockState : ClockState
  mode : EconomyMode
  wanted : WantedClock
  handover : Timer
  economyReported : Bool
  deriving DecidableEq, Repr

/-! ## The Notice Table (R99, R101, R112, R114, R117) -/

/-- The kinds of a POINT source (R99). -/
inductive PointCondition where
  | band
  | failed
  | asserted
  deriving DecidableEq, Repr

/-- The five internal sources (R116). -/
inductive InternalSource where
  | scanOverrun
  | linkLossEast
  | linkLossWest
  | hutSilent
  | economy
  deriving DecidableEq, Repr

/-- A condition identity: exactly the identities of R99. -/
inductive NoticeId where
  | point (i : PointIx) (k : PointCondition)
  | actuator (i : ActIx)
  | internal (k : InternalSource)
  | posted (slot : SlotIx)
  deriving DecidableEq, Repr

/-- The severity of a BAND condition (R99). -/
inductive Severity where
  | lowlow
  | low
  | high
  | highhigh
  deriving DecidableEq, Repr

inductive NoticeState where
  | raised
  | acked
  | returned
  deriving DecidableEq, Repr

/-- An entry of the Notice Table (R101) with its three delivered marks (R121). -/
structure Notice where
  id : NoticeId
  tag : Word32
  severity : Option Severity
  priority : Nat
  group : Nat
  state : NoticeState
  stamp : Word32
  value : Option Int
  ackedBy : Option Port
  code : Option Word16
  postedMask : Option PortSet
  delivered : PortSet
  deriving DecidableEq, Repr

/-- What a posted slot holds (R117). -/
structure Posting where
  poster : Port
  priority : Nat
  code : Word16
  mask : PortSet
  deriving DecidableEq, Repr

/-- The Notice Table: its entries in their places, the lost flags, the thresholds of groups 1..7 (the k-th is group k + 1), and
the posted slots. -/
structure NoticeTable where
  entries : List Notice
  lost : PortSet
  thresholds : Vector Nat 7
  slots : Vector (Option Posting) 8
  deriving DecidableEq, Repr

/-! ## Ports (R169), frames (R182) and the restart (R181) -/

/-- A checked request frame (R173, R182). -/
structure Request where
  kind : Byte
  tag : Byte
  body : List Byte
  deriving DecidableEq, Repr

/-- The result codes (R175, R185). -/
inductive Result where
  | ok | busy | malformed | unknownKind | notPermitted | portProtected | outOfRange | notDefined
  | inUse | duplicateTag | badLimits | notFound | alreadyAcked | notPoster | heldBy | notHolder
  | siteLocal | noFeedback | busTimeout | busError | noAnswer | stale | noneOffered
  deriving DecidableEq, Repr

/-- A response before its summary is known: its result and what follows RESULT and SUMMARY (R125, R175). -/
structure Reply where
  result : Result
  body : List Byte
  deriving DecidableEq, Repr

/-- What a frame of an output queue is: a response, the ATTENTION frame that waits (R127), or the OK of a supervision restart
(R181). -/
inductive FrameMark where
  | response
  | attention
  | restartOk
  deriving DecidableEq, Repr

/-- A frame of an output queue; `body` holds the whole body, RESULT and SUMMARY included. Its CRC is a function of the rest
(R182). -/
structure OutFrame where
  kind : Byte
  tag : Byte
  body : List Byte
  mark : FrameMark
  deriving DecidableEq, Repr

/-- A receiver (R170): hunting, or receiving a frame with the bytes so far, SYNC first. -/
inductive Receiver where
  | hunt
  | receiving (bytes : List Byte)
  deriving DecidableEq, Repr

/-- An executor (R174). -/
inductive Executor where
  | idle
  | serving (r : Request)
  | waitingForRoom (r : Request) (reply : Reply)
  deriving DecidableEq, Repr

/-- A transmitter (R169, R176): idle, or sending a frame's bytes, of which `pos` have been sent. -/
inductive Transmitter where
  | idle
  | sending (bytes : List Byte) (pos : Nat)
  deriving DecidableEq, Repr

/-- What every port holds (R169), with its service level and its summary (R121). `clocked` is the model's own: on the Hut Port,
how many bytes of the chip-select assertion in progress the transmitter has taken account of (notes/assumptions/7.md). -/
structure PortState where
  receiver : Receiver
  requests : List Request
  executor : Executor
  output : List OutFrame
  transmitter : Transmitter
  clocked : Nat
  level : Nat
  summary : Nat
  deriving DecidableEq, Repr

/-- A port after power-on reset (R169, R121). -/
def PortState.initial : PortState where
  receiver := .hunt
  requests := []
  executor := .idle
  output := []
  transmitter := .idle
  clocked := 0
  level := 0
  summary := 0

/-- What a route port holds besides (R121, R169, R178). `lineTime` is the model's own: the milliseconds since
the first byte of the port's last frame (notes/assumptions/7.md). -/
structure RouteState where
  linkUp : Bool
  linkTimer : Timer
  lineTime : Nat
  config : Bool
  window : Option (ModIx × ModIx)
  mayRestart : Bool
  lastReported : Nat
  attentionOwed : Bool
  deriving DecidableEq, Repr

/-- A route port after power-on reset (R121, R169). -/
def RouteState.initial : RouteState where
  linkUp := false
  linkTimer := none
  lineTime := 0
  config := false
  window := none
  mayRestart := false
  lastReported := 0
  attentionOwed := false

/-- Supervision restart (R181): none; due, its OK having been placed on the port; or running, waiting for the transaction in
flight to end. -/
inductive RestartState where
  | idle
  | due (p : Port)
  | running (p : Port)
  deriving DecidableEq, Repr

/-- The strapped rate of the route ports (R170). -/
inductive Baud where
  | b9600
  | b38400
  | b115200
  deriving DecidableEq, Repr

/-! ## The Actuator Unit (R136 to R138) -/

inductive ActKind where
  | latched
  | held
  deriving DecidableEq, Repr

inductive ReleasePolicy where
  | keep
  | safe
  deriving DecidableEq, Repr

/-- An actuator descriptor (R136); `interval` is in milliseconds. -/
structure ActDescriptor where
  modAddr : ModIx
  offset : Byte
  width : Width
  kind : ActKind
  interval : Nat
  safeValue : Word16
  maxValue : Word16
  policy : ReleasePolicy
  portMask : PortSet
  feedback : Option PointIx
  faultPriority : Nat
  deriving DecidableEq, Repr

inductive InFlight where
  | no
  | write
  | exchange
  deriving DecidableEq, Repr

/-- An actuator entry: its descriptor while DEFINED (R136), its live fields (R137) and its refresh timer (R138). The pending
item is read from the work list. -/
structure ActuatorEntry where
  desc : Option ActDescriptor
  holder : Option Port
  lease : Nat
  requested : Option Word16
  output : Option Word16
  faultCount : Nat
  fault : Bool
  inFlight : InFlight
  refreshTimer : Timer
  deriving DecidableEq, Repr

/-- An UNDEFINED entry with the initial live fields (R137). -/
def ActuatorEntry.initial : ActuatorEntry where
  desc := none
  holder := none
  lease := 0
  requested := none
  output := none
  faultCount := 0
  fault := false
  inFlight := .no
  refreshTimer := none

/-- The items of the work list (R138). -/
inductive WorkItem where
  | policy (i : ActIx)
  | refresh (i : ActIx)
  | command (p : Port) (i : ActIx) (v : Word16)
  | exchange (p : Port) (i : ActIx) (v : Word16)
  deriving DecidableEq, Repr

/-- The outcome of a write: none yet, or success or failure with the count of beats answered (R149). -/
structure WriteOutcome where
  failure : Option FailReason
  beats : Nat
  deriving DecidableEq, Repr

/-- The item of the unit's tenure: the value its write carries, whether its response is still wanted (R148), and, between the
two parts of an exchange, the outcome of the write (R152). -/
structure RunningItem where
  item : WorkItem
  value : Word16
  answer : Bool
  outcome : Option WriteOutcome
  deriving DecidableEq, Repr

/-- The moments of queuing (R138, R153), as the model counts them (notes/assumptions/10.md): the moment that it is, the moment of
the last second tick, and for each actuator the moment at which its latest POLICY WRITE or REFRESH was queued. -/
structure Moments where
  now : Nat
  ticked : Nat
  queuedAt : Vector Nat 32
  deriving DecidableEq, Repr

/-- The Actuator Unit (R138). The COMMANDs and EXCHANGEs of the work list are in order of acceptance; `moments` orders its POLICY
WRITEs and REFRESHes. -/
structure ActuatorUnit where
  entries : Vector ActuatorEntry 32
  workList : List WorkItem
  running : Option RunningItem
  moments : Moments
  deriving DecidableEq, Repr

/-! ## The Hut Link Unit (R158, R159) -/

/-- The record of an occupied slot (R159). -/
structure Referral where
  origin : RoutePort
  tag : Byte
  kind : Byte
  body : List Byte
  made : Word32
  deriving DecidableEq, Repr

/-- A held answer: the result code and what follows the summary (R162, R164). -/
structure HeldAnswer where
  result : Byte
  body : List Byte
  deriving DecidableEq, Repr

/-- A referral slot (R159). -/
inductive ReferralSlot where
  | free
  | untaken (r : Referral) (age : Timer)
  | taken (r : Referral) (age : Timer)
  | answered (r : Referral) (answer : HeldAnswer)
  deriving DecidableEq, Repr

structure HutLink where
  slots : Vector ReferralSlot 4
  pulse : Bool
  pulseTimer : Timer
  hcrst : Bool
  silenceTimer : Timer
  silence : Bool
  makingOrder : Word32
  deriving DecidableEq, Repr

/-! ## The state -/

/-- The whole state of the part, and the queue of waiting commands. -/
structure State where
  por : Bool
  strapsRead : Bool
  baud : Baud
  points : Vector PointEntry 256
  siteLocal : Option PointIx
  economyTrigger : Option PointIx
  scan : Scanner
  bus : Bus
  arb : Arbiter
  clock : ClockControl
  notices : NoticeTable
  ports : PerPort PortState
  routes : PerRoute RouteState
  hreq : Bool
  acts : ActuatorUnit
  link : HutLink
  restart : RestartState
  uptime : Word32
  pending : List Instr
  deriving DecidableEq, Repr

/-- The reasons the part stops: none. A failed beat, a refused request and an actuator's FAULT are results and state of the
part, not stops. -/
inductive Fault where
  deriving DecidableEq, Repr

/-- The reasons a command has no meaning. -/
inductive Refusal where
  /-- Raised by an arm of exec for a command that has no meaning yet; no arm raises it. Safe: the model stops. -/
  | notModelled (mnemonic : String)
  deriving DecidableEq, Repr

/-! ## Reset -/

/-- The Scanner after power-on reset: the last column of R43. -/
def Scanner.initial : Scanner where
  scanState := .stopped
  passed := []
  ahead := []
  period := Config.defaultPeriod
  cycleNumber := 0
  cycleState := .idle
  periodTimer := none
  heldStart := false
  overrun := false
  inFlight := none

/-- The Point Bus Controller after power-on reset (R82). -/
def Bus.initial : Bus where
  classes := Vector.replicate 8 .default
  map := Vector.replicate 128 0
  busState := .idle
  inFlight := none
  recovery := 0
  ended := none

/-- The arbiter after power-on reset: the last column of R83. -/
def Arbiter.initial : Arbiter where
  waiting := ⟨false, ⟨false, false, false⟩, false⟩
  tenure := none
  locked := .closed
  rotation := [.east, .west, .hut]
  scannerWait := 0
  grantHold := false

/-- Clock Control after power-on reset: the last column of R90. -/
def ClockControl.initial : ClockControl where
  clockState := .full
  mode := .auto
  wanted := .full
  handover := none
  economyReported := false

/-- The Notice Table after power-on reset (R120). -/
def NoticeTable.initial : NoticeTable where
  entries := []
  lost := .empty
  thresholds := Vector.replicate 7 0
  slots := Vector.replicate 8 none

/-- The model's count of moments after power-on reset. -/
def Moments.initial : Moments where
  now := 0
  ticked := 0
  queuedAt := Vector.replicate 32 0

/-- The Actuator Unit after power-on reset (R157). -/
def ActuatorUnit.initial : ActuatorUnit where
  entries := Vector.replicate 32 .initial
  workList := []
  running := none
  moments := .initial

/-- The Hut Link Unit after power-on reset (R168). -/
def HutLink.initial : HutLink where
  slots := Vector.replicate 4 .free
  pulse := false
  pulseTimer := none
  hcrst := false
  silenceTimer := some Config.silenceTime
  silence := false
  makingOrder := 0

/-- The machine right after power-on reset, at the release of POR and before the straps are read. Every value is the one its
chapter states (R20, R43, R82, R83, R90, R120, R121, R157, R158, R169, R179, R180); the baud code before the straps are read,
and the released POR line, are DESIGN CHOICE (notes/assumptions/3.md). -/
def State.reset : State where
  por := false
  strapsRead := false
  baud := .b9600
  points := Vector.replicate 256 .initial
  siteLocal := none
  economyTrigger := none
  scan := .initial
  bus := .initial
  arb := .initial
  clock := .initial
  notices := .initial
  ports := ⟨.initial, .initial, .initial⟩
  routes := ⟨.initial, .initial⟩
  hreq := false
  acts := .initial
  link := .initial
  restart := .idle
  uptime := 0
  pending := []

end Sys2Proof.Machine
end

