-- ==== Sys2Proof/Machine/Access.lean ====
section
/-! DEFINITION. The one place where each piece of state is read and written: per-port data, tables and blocks. -/

namespace Sys2Proof.Machine

variable {α : Type}

/-! ## Ports -/

/-- A route port as a port. -/
def toPort : RoutePort → Port
  | .east => .east
  | .west => .west

/-- A port as a route port; the Hut Port is none. -/
def routeOf : Port → Option RoutePort
  | .east => some .east
  | .west => some .west
  | .hut => none

def PerPort.get (x : PerPort α) : Port → α
  | .east => x.east
  | .west => x.west
  | .hut => x.hut

def PerPort.set (x : PerPort α) (p : Port) (a : α) : PerPort α :=
  match p with
  | .east => { x with east := a }
  | .west => { x with west := a }
  | .hut => { x with hut := a }

def PerRoute.get (x : PerRoute α) : RoutePort → α
  | .east => x.east
  | .west => x.west

def PerRoute.set (x : PerRoute α) (r : RoutePort) (a : α) : PerRoute α :=
  match r with
  | .east => { x with east := a }
  | .west => { x with west := a }

/-- The set of one port. -/
def PortSet.single (p : Port) : PortSet := PortSet.empty.set p true

/-- Whether a set of ports is empty (R118). -/
def PortSet.isEmpty (m : PortSet) : Bool := !m.east && !m.west && !m.hut

/-! ## Blocks of the state -/

def State.port (s : State) (p : Port) : PortState := s.ports.get p
def State.setPort (s : State) (p : Port) (x : PortState) : State := { s with ports := s.ports.set p x }
def State.route (s : State) (r : RoutePort) : RouteState := s.routes.get r
def State.setRoute (s : State) (r : RoutePort) (x : RouteState) : State := { s with routes := s.routes.set r x }

def State.point (s : State) (i : PointIx) : PointEntry := s.points.get i
def State.setPoint (s : State) (i : PointIx) (e : PointEntry) : State :=
  { s with points := s.points.set i.val e i.isLt }

def State.actuator (s : State) (i : ActIx) : ActuatorEntry := s.acts.entries.get i
def State.setActuator (s : State) (i : ActIx) (e : ActuatorEntry) : State :=
  { s with acts := { s.acts with entries := s.acts.entries.set i.val e i.isLt } }

def State.slot (s : State) (k : ReferralIx) : ReferralSlot := s.link.slots.get k
def State.setSlot (s : State) (k : ReferralIx) (x : ReferralSlot) : State :=
  { s with link := { s.link with slots := s.link.slots.set k.val x k.isLt } }

def State.setScan (s : State) (x : Scanner) : State := { s with scan := x }
def State.setBus (s : State) (x : Bus) : State := { s with bus := x }
def State.setArb (s : State) (x : Arbiter) : State := { s with arb := x }
def State.setClock (s : State) (x : ClockControl) : State := { s with clock := x }
def State.setNotices (s : State) (x : NoticeTable) : State := { s with notices := x }
def State.setEntries (s : State) (x : List Notice) : State := { s with notices := { s.notices with entries := x } }
def State.setWorkList (s : State) (x : List WorkItem) : State := { s with acts := { s.acts with workList := x } }
def State.setRunning (s : State) (x : Option RunningItem) : State := { s with acts := { s.acts with running := x } }
def State.setMoments (s : State) (x : Moments) : State := { s with acts := { s.acts with moments := x } }
def State.setLink (s : State) (x : HutLink) : State := { s with link := x }
def State.setRestart (s : State) (x : RestartState) : State := { s with restart := x }
def State.setHreq (s : State) (x : Bool) : State := { s with hreq := x }

/-- The executor of a port, set. -/
def State.setExecutor (s : State) (p : Port) (x : Executor) : State := s.setPort p { s.port p with executor := x }

/-! ## Points -/

/-- The descriptor of a DEFINED or SCANNED entry; none for an UNDEFINED one (R1). -/
def PointEntry.desc (e : PointEntry) : Option Descriptor :=
  match e.state with
  | .undefined => none
  | .defined d => some d
  | .scanned d => some d

/-- Whether the entry is SCANNED (R5). -/
def PointEntry.isScanned (e : PointEntry) : Bool :=
  match e.state with
  | .scanned _ => true
  | _ => false

/-- The descriptor at an index. -/
def State.descOf (s : State) (i : PointIx) : Option Descriptor := (s.point i).desc

/-- The same point state with another descriptor (R13). -/
def PointState.withDesc (p : PointState) (d : Descriptor) : PointState :=
  match p with
  | .undefined => .undefined
  | .defined _ => .defined d
  | .scanned _ => .scanned d

/-- The live record of an entry, set. -/
def State.setLive (s : State) (i : PointIx) (l : LiveRecord) : State := s.setPoint i { s.point i with live := l }

/-- An entry whose live record becomes the initial live record: the scan-entry mark is set and the reported ASSERTED activity
becomes inactive (R4, R21). -/
def PointEntry.resetRecord (e : PointEntry) (st : PointState) : PointEntry :=
  { e with state := st, live := .initial, scanMark := true, reportedAsserted := false }

/-- The discrete fields of a descriptor. -/
def Descriptor.discrete? (d : Descriptor) : Option DiscretePart :=
  match d.part with
  | .discrete x => some x
  | .analog _ => none

/-- Whether a descriptor is of kind DISCRETE. -/
def Descriptor.isDiscrete (d : Descriptor) : Bool := d.discrete?.isSome

/-- The gate of a descriptor (R3). -/
def Descriptor.gate (d : Descriptor) : Option Gate := d.discrete?.bind (·.gate)

/-- The indices of the Point Table in ascending order. -/
def pointIndices : List PointIx := List.finRange 256

/-- The indices of the actuator entries in ascending order. -/
def actIndices : List ActIx := List.finRange 32

/-- The referral slots in ascending order. -/
def slotIndices : List ReferralIx := List.finRange 4

/-! ## The scan list -/

/-- The scan list in list order (R43). -/
def Scanner.list (x : Scanner) : List PointIx := x.passed ++ x.ahead

/-! ## The class of a module -/

/-- The class number of a module (R63). -/
def State.classNoOf (s : State) (m : ModIx) : ClassIx := s.bus.map.get m

/-- The class record of a module as it stands (R63, R74). -/
def State.classOf (s : State) (m : ModIx) : ClassRecord := s.bus.classes.get (s.classNoOf m)

end Sys2Proof.Machine
end

