-- ==== Sys2Proof/Machine/Operands.lean ====
section
/-! DEFINITION. The layouts of frames, bodies and records: how a field is read from a body and how a record is written
(11_frame_and_record_formats.md, R182 to R187). -/

namespace Sys2Proof.Machine

/-! ## Bytes and fields (R183) -/

/-- Byte k of a body. -/
def byteAt (b : List Byte) (k : Nat) : Byte := b.getD k 0

/-- A two-byte field, most significant byte first (R183). -/
def word16At (b : List Byte) (k : Nat) : Word16 := (byteAt b k).append (byteAt b (k + 1))

/-- A four-byte field, most significant byte first (R183). -/
def word32At (b : List Byte) (k : Nat) : Word32 := (word16At b k).append (word16At b (k + 2))

/-- A signed two-byte field, two's complement (R183). -/
def int16At (b : List Byte) (k : Nat) : Int := (word16At b k).toInt

/-- A byte of a number. -/
def natByte (n : Nat) : Byte := BitVec.ofNat 8 n

def lowByte (w : Word16) : Byte := w.extractLsb' 0 8
def highByte (w : Word16) : Byte := w.extractLsb' 8 8

/-- A 16-bit field as sent: most significant byte first (R183). -/
def send16 (w : Word16) : List Byte := [highByte w, lowByte w]

def sendNat16 (n : Nat) : List Byte := send16 (BitVec.ofNat 16 n)
def sendInt16 (v : Int) : List Byte := send16 (BitVec.ofInt 16 v)

/-- A 32-bit field as sent (R183). -/
def send32 (w : Word32) : List Byte := send16 (w.extractLsb' 16 16) ++ send16 (w.extractLsb' 0 16)

/-- An optional field: an absent one is sent as 0 (R183). -/
def sendOpt {α : Type} (f : α → List Byte) (zeros : List Byte) : Option α → List Byte
  | none => zeros
  | some a => f a

/-- A flags byte, bit 0 first; bits not named are 0 (R183). -/
def flagsByte (bits : List Bool) : Byte :=
  natByte (bits.foldr (fun b n => 2 * n + b.toNat) 0)

/-- A bit of a flags byte. -/
def flagAt (b : List Byte) (k bit : Nat) : Bool := (byteAt b k).getLsbD bit

def boolByte (b : Bool) : Byte := if b then 1 else 0

/-! ## Indices -/

/-- Every byte names a point (R1). -/
def pointIxOf (b : Byte) : PointIx := ⟨b.toNat, b.isLt⟩

def modIxOf (b : Byte) : Option ModIx := if h : b.toNat < 128 then some ⟨b.toNat, h⟩ else none
def classIxOf (b : Byte) : Option ClassIx := if h : b.toNat < 8 then some ⟨b.toNat, h⟩ else none
def actIxOf (b : Byte) : Option ActIx := if h : b.toNat < 32 then some ⟨b.toNat, h⟩ else none
def slotIxOf (b : Byte) : Option SlotIx := if h : b.toNat < 8 then some ⟨b.toNat, h⟩ else none
def referralIxOf (b : Byte) : Option ReferralIx := if h : b.toNat < 4 then some ⟨b.toNat, h⟩ else none

/-! ## Enumerations (R183) -/

def Port.code : Port → Byte
  | .east => 0
  | .west => 1
  | .hut => 2

/-- `holder`: a port, or 3 NONE. -/
def holderCode : Option Port → Byte
  | some p => Port.code p
  | none => 3

def maskByte (m : PortSet) : Byte := flagsByte [m.east, m.west, m.hut]

/-- A mask that names a port beyond EAST, WEST and HUT is no mask (R8, R183). -/
def maskOf (b : Byte) : Option PortSet :=
  if b.toNat < 8 then some ⟨b.getLsbD 0, b.getLsbD 1, b.getLsbD 2⟩ else none

def Band.code : Band → Byte
  | .lowlow => 0
  | .low => 1
  | .normal => 2
  | .high => 3
  | .highhigh => 4

def Severity.code : Severity → Byte
  | .lowlow => 0
  | .low => 1
  | .high => 3
  | .highhigh => 4

def Quality.code : Quality → Byte
  | .unscanned => 0
  | .good => 1
  | .stale => 2
  | .failed => 3
  | .forced => 4

def PointState.code : PointState → Byte
  | .undefined => 0
  | .defined _ => 1
  | .scanned _ => 2

def ScanClass.code : ScanClass → Byte
  | .fast => 0
  | .normal => 1
  | .slow => 2

def scanClassOf (n : Nat) : Option ScanClass :=
  match n with
  | 0 => some .fast
  | 1 => some .normal
  | 2 => some .slow
  | _ => none

def Edge.code : Edge → Byte
  | .rising => 0
  | .falling => 1
  | .both => 2

def edgeOf (b : Byte) : Option Edge :=
  match b.toNat with
  | 0 => some .rising
  | 1 => some .falling
  | 2 => some .both
  | _ => none

def EdgeMode.code : EdgeMode → Byte
  | .sticky => 0
  | .level => 1

def edgeModeOf (b : Byte) : Option EdgeMode :=
  match b.toNat with
  | 0 => some .sticky
  | 1 => some .level
  | _ => none

/-- The gate code and index (R183, R186); the outer none is a code outside its list. -/
def gateOf (code index : Byte) : Option (Option Gate) :=
  match code.toNat with
  | 0 => some none
  | 1 => some (some ⟨pointIxOf index, .openWhileSet⟩)
  | 2 => some (some ⟨pointIxOf index, .openWhileClear⟩)
  | _ => none

def gateCode : Option Gate → Byte
  | none => 0
  | some ⟨_, .openWhileSet⟩ => 1
  | some ⟨_, .openWhileClear⟩ => 2

def pointByte (i : PointIx) : Byte := natByte i.val

def gateIndex : Option Gate → Byte
  | none => 0
  | some g => pointByte g.point

def PointCondition.code : PointCondition → Byte
  | .band => 0
  | .failed => 1
  | .asserted => 2

def InternalSource.index : InternalSource → Nat
  | .scanOverrun => 0
  | .linkLossEast => 1
  | .linkLossWest => 2
  | .hutSilent => 3
  | .economy => 4

def internalOf (n : Nat) : Option InternalSource :=
  match n with
  | 0 => some .scanOverrun
  | 1 => some .linkLossEast
  | 2 => some .linkLossWest
  | 3 => some .hutSilent
  | 4 => some .economy
  | _ => none

/-- Source class, source index and kind of an identity (R99, R183). -/
def NoticeId.bytes : NoticeId → List Byte
  | .point i k => [0, pointByte i, k.code]
  | .actuator i => [1, natByte i.val, 3]
  | .internal k => [2, natByte k.index, 4]
  | .posted k => [3, natByte k.val, 5]

/-- The identity that a source class, index and kind name; none outside R99. -/
def noticeIdOf (cls index kind : Byte) : Option NoticeId :=
  match cls.toNat, kind.toNat with
  | 0, 0 => some (.point (pointIxOf index) .band)
  | 0, 1 => some (.point (pointIxOf index) .failed)
  | 0, 2 => some (.point (pointIxOf index) .asserted)
  | 1, 3 => (actIxOf index).map .actuator
  | 2, 4 => (internalOf index.toNat).map .internal
  | 3, 5 => (slotIxOf index).map .posted
  | _, _ => none

def NoticeState.code : NoticeState → Byte
  | .raised => 1
  | .acked => 2
  | .returned => 3

/-- The entry outcome byte: the state, or 0 for absent, removed or not entered (R183). -/
def outcomeByte : Option NoticeState → Byte
  | some st => st.code
  | none => 0

def ScanState.code : ScanState → Byte
  | .stopped => 0
  | .running => 1

def CycleState.code : CycleState → Byte
  | .idle => 0
  | .walking => 1

def ClockState.code : ClockState → Byte
  | .full => 0
  | .toEconomy => 1
  | .economy => 2
  | .toFull => 3

def WantedClock.code : WantedClock → Byte
  | .full => 0
  | .economy => 2

def EconomyMode.code : EconomyMode → Byte
  | .auto => 0
  | .forceFull => 1
  | .forceEconomy => 2

def economyModeOf (b : Byte) : Option EconomyMode :=
  match b.toNat with
  | 0 => some .auto
  | 1 => some .forceFull
  | 2 => some .forceEconomy
  | _ => none

def BusState.code : BusState → Byte
  | .idle => 0
  | .active => 1
  | .recovery => 2

def BusWidth.code : BusWidth → Byte
  | .w8 => 8
  | .w16 => 16

def busWidthOf (b : Byte) : Option BusWidth :=
  match b.toNat with
  | 8 => some .w8
  | 16 => some .w16
  | _ => none

def lineReadsOf (b : Byte) : Option Bool :=
  match b.toNat with
  | 0 => some false
  | 1 => some true
  | _ => none

/-- The width of a direct transfer (R79, R183). -/
inductive DirectWidth where
  | byte
  | word
  | line
  deriving DecidableEq, Repr

def DirectWidth.code : DirectWidth → Byte
  | .byte => 0
  | .word => 1
  | .line => 2

def directWidthOf (b : Byte) : Option DirectWidth :=
  match b.toNat with
  | 0 => some .byte
  | 1 => some .word
  | 2 => some .line
  | _ => none

def InFlight.code : InFlight → Byte
  | .no => 0
  | .write => 1
  | .exchange => 2

/-- The feedback read outcome: 0 good, else the reason (R183). -/
def readOutcomeCode : Option FailReason → Byte
  | none => 0
  | some .timeout => 1
  | some .error => 2
  | some .address => 3

def Baud.code : Baud → Byte
  | .b9600 => 0
  | .b38400 => 1
  | .b115200 => 2

/-- The rate the straps give (R170): BAUD1 high is 115,200 whatever BAUD0. -/
def baudOf (baud0 baud1 : Bool) : Baud :=
  if baud1 then .b115200 else if baud0 then .b38400 else .b9600

/-- The result code values of R185. -/
def Result.code : Result → Byte
  | .ok => 0x00
  | .busy => 0x01
  | .malformed => 0x02
  | .unknownKind => 0x03
  | .notPermitted => 0x04
  | .portProtected => 0x05
  | .outOfRange => 0x06
  | .notDefined => 0x07
  | .inUse => 0x08
  | .duplicateTag => 0x09
  | .badLimits => 0x0A
  | .notFound => 0x0B
  | .alreadyAcked => 0x0C
  | .notPoster => 0x0D
  | .heldBy => 0x0E
  | .notHolder => 0x0F
  | .siteLocal => 0x10
  | .noFeedback => 0x11
  | .busTimeout => 0x12
  | .busError => 0x13
  | .noAnswer => 0x14
  | .stale => 0x15
  | .noneOffered => 0x16

/-- The result of a failed bus transaction, by its reason (R79, R149, R152). -/
def FailReason.result : FailReason → Result
  | .timeout => .busTimeout
  | .error => .busError
  | .address => .outOfRange

/-- A response with nothing after the summary. -/
def bare (r : Result) : Reply := ⟨r, []⟩

/-! ## Kinds (R184) -/

/-- The served kinds. -/
inductive Kind where
  | definePoint | setLimits | undefinePoint | readPoint | readPoints | findTag | forcePoint | unforcePoint | clearAsserted
  | startScan | stopScan | setScanPeriod | scanAdd | scanRemove | readScanList
  | setModuleClass | assignModuleClass | readModuleClasses | readModule | writeModule | setEconomy
  | ackNotice | post | unpost | setGroupThreshold | fetchNotice | setLevel | readSummary
  | defineActuator | undefineActuator | readActuator | claim | release | command | exchange
  | takeReferral | answerReferral | restartHutController
  | setPermissions | setSitePoints | identify | restartSupervision
  deriving DecidableEq, Repr

/-- The served kind of a code; none outside the served range (R184). -/
def kindOf (b : Byte) : Option Kind :=
  match b.toNat with
  | 0x01 => some .definePoint
  | 0x02 => some .setLimits
  | 0x03 => some .undefinePoint
  | 0x04 => some .readPoint
  | 0x05 => some .readPoints
  | 0x06 => some .findTag
  | 0x07 => some .forcePoint
  | 0x08 => some .unforcePoint
  | 0x09 => some .clearAsserted
  | 0x10 => some .startScan
  | 0x11 => some .stopScan
  | 0x12 => some .setScanPeriod
  | 0x13 => some .scanAdd
  | 0x14 => some .scanRemove
  | 0x15 => some .readScanList
  | 0x18 => some .setModuleClass
  | 0x19 => some .assignModuleClass
  | 0x1A => some .readModuleClasses
  | 0x1B => some .readModule
  | 0x1C => some .writeModule
  | 0x1D => some .setEconomy
  | 0x20 => some .ackNotice
  | 0x21 => some .post
  | 0x22 => some .unpost
  | 0x23 => some .setGroupThreshold
  | 0x24 => some .fetchNotice
  | 0x25 => some .setLevel
  | 0x26 => some .readSummary
  | 0x28 => some .defineActuator
  | 0x29 => some .undefineActuator
  | 0x2A => some .readActuator
  | 0x2B => some .claim
  | 0x2C => some .release
  | 0x2D => some .command
  | 0x2E => some .exchange
  | 0x30 => some .takeReferral
  | 0x31 => some .answerReferral
  | 0x32 => some .restartHutController
  | 0x38 => some .setPermissions
  | 0x39 => some .setSitePoints
  | 0x3A => some .identify
  | 0x3B => some .restartSupervision
  | _ => none

/-- Whether a code lies in the referred range 0xE0..0xFF (R184). -/
def isReferred (b : Byte) : Bool := decide (Config.referredBase ≤ b.toNat)

/-- The body lengths that a served kind takes (R184). -/
def Kind.fits (k : Kind) (n : Nat) : Bool :=
  match k with
  | .definePoint | .setLimits => n == 29
  | .undefinePoint | .readPoint | .unforcePoint | .clearAsserted | .scanAdd | .scanRemove | .readScanList | .setEconomy
  | .unpost | .setLevel | .undefineActuator | .readActuator | .release => n == 1
  | .readPoints | .setScanPeriod | .assignModuleClass | .setGroupThreshold => n == 2
  | .findTag | .setSitePoints => n == 4
  | .forcePoint | .readModule | .ackNotice | .claim | .command => n == 3
  | .startScan | .stopScan | .readModuleClasses | .readSummary | .takeReferral | .restartHutController | .identify
  | .restartSupervision => n == 0
  | .setModuleClass | .setPermissions => n == 6
  | .writeModule | .post | .exchange => n == 5
  | .fetchNotice => n == 0 || n == 3
  | .defineActuator => n == 13
  | .answerReferral => decide (2 ≤ n) && decide (n ≤ 244)

/-! ## Frames (R182) -/

/-- One bit of the frame check. -/
def crcBit (reg : Word16) (b : Bool) : Word16 :=
  if b != reg.msb then (reg <<< 1) ^^^ 0x1021#16 else reg <<< 1

/-- One byte of the frame check, most significant bit first. -/
def crcByte (reg : Word16) (b : Byte) : Word16 :=
  [7, 6, 5, 4, 3, 2, 1, 0].foldl (fun r k => crcBit r (b.getLsbD k)) reg

/-- The CRC over LEN, KIND, TAG and the body (R182). -/
def crc (bytes : List Byte) : Word16 := bytes.foldl crcByte 0xFFFF#16

/-- LEN through the last body byte. -/
def coveredBytes (kind tag : Byte) (body : List Byte) : List Byte := natByte (body.length + 2) :: kind :: tag :: body

/-- A frame as its bytes (R182). -/
def frameBytes (kind tag : Byte) (body : List Byte) : List Byte :=
  Config.sync :: coveredBytes kind tag body ++ send16 (crc (coveredBytes kind tag body))

/-- Whether the received bytes of a whole frame pass check 1's CRC (R172, R182). -/
def crcMatches (bytes : List Byte) : Bool :=
  let len := (byteAt bytes 1).toNat
  crc ((bytes.drop 1).take (len + 1)) == word16At bytes (len + 2)

/-- The request that the bytes of a whole frame carry (R182). -/
def requestOf (bytes : List Byte) : Request where
  kind := byteAt bytes 2
  tag := byteAt bytes 3
  body := (bytes.drop 4).take ((byteAt bytes 1).toNat - 2)

/-- The number of bytes of the frame whose LEN has been taken (R170): LEN + 4. -/
def frameLength (bytes : List Byte) : Nat := (byteAt bytes 1).toNat + 4

/-- Whether a LEN byte lies in 2..246 (R170). -/
def lenInRange (b : Byte) : Bool := decide (2 ≤ b.toNat) && decide (b.toNat ≤ 246)

/-! ## Point records (R186) -/

/-- A threshold's presence bit and value. -/
def thresholdAt (b : List Byte) (k : Nat) : Option Int :=
  if flagAt b 17 k then some (int16At b (18 + 2 * k)) else none

/-- The analog bytes 12..27 of a descriptor. -/
def analogOf (b : List Byte) : AnalogPart where
  zero := int16At b 12
  slope := int16At b 14
  filterShift := (byteAt b 16).toNat
  ll := thresholdAt b 0
  l := thresholdAt b 1
  h := thresholdAt b 2
  hh := thresholdAt b 3
  hysteresis := (word16At b 26).toNat

/-- The discrete bytes 12..16 of a descriptor; none for an enumerated field outside its list. -/
def discreteOf (b : List Byte) : Option DiscretePart := do
  let edge ← edgeOf (byteAt b 13)
  let mode ← edgeModeOf (byteAt b 14)
  let gate ← gateOf (byteAt b 15) (byteAt b 16)
  pure { bit := (byteAt b 12).toNat, edge := edge, mode := mode, gate := gate }

/-- Whether a descriptor's bytes name kind DISCRETE (byte 4 bit 0). -/
def namesDiscrete (b : List Byte) : Bool := flagAt b 4 0

/-- A whole descriptor from its 28 bytes; none where an enumerated field lies outside its list, a bit of byte 4 that must be 0
is 1, the mask names no port of the part, or the module is above 127 (R8, R186). -/
def descriptorOf (b : List Byte) : Option Descriptor := do
  let m ← modIxOf (byteAt b 5)
  let sc ← scanClassOf ((byteAt b 4).toNat / 16 % 4)
  let mask ← maskOf (byteAt b 11)
  let part ← if namesDiscrete b then (discreteOf b).map KindPart.discrete else some (.analog (analogOf b))
  if (byteAt b 4).toNat / 64 = 0 then
    some {
      tag := word32At b 0
      modAddr := m
      offset := byteAt b 6
      width := if flagAt b 4 1 then .word else .byte
      order := if flagAt b 4 2 then .swapped else .natural
      signed := flagAt b 4 3
      scanClass := sc
      persistence := (byteAt b 7).toNat
      alarmPriority := (byteAt b 8).toNat
      urgentPriority := (byteAt b 9).toNat
      group := (byteAt b 10).toNat
      routeMask := mask
      part := part }
  else none

/-- The descriptor that would stand after SET LIMITS: the old one with the limit fields of its kind read from the bytes (R13,
R186); none where an enumerated limit field lies outside its list. -/
def limitsOf (d : Descriptor) (b : List Byte) : Option Descriptor := do
  let mask ← maskOf (byteAt b 11)
  let part ← match d.part with
    | .analog a =>
      some (KindPart.analog { a with
        ll := thresholdAt b 0
        l := thresholdAt b 1
        h := thresholdAt b 2
        hh := thresholdAt b 3
        hysteresis := (word16At b 26).toNat })
    | .discrete x => (gateOf (byteAt b 15) (byteAt b 16)).map (fun g => KindPart.discrete { x with gate := g })
  pure { d with
    persistence := (byteAt b 7).toNat
    alarmPriority := (byteAt b 8).toNat
    urgentPriority := (byteAt b 9).toNat
    group := (byteAt b 10).toNat
    routeMask := mask
    part := part }

/-- Bytes 12..27 of a descriptor as sent (R186). -/
def partBytes : KindPart → List Byte
  | .analog a =>
    sendInt16 a.zero ++ sendInt16 a.slope ++ [natByte a.filterShift]
      ++ [flagsByte [a.ll.isSome, a.l.isSome, a.h.isSome, a.hh.isSome]]
      ++ sendOpt sendInt16 [0, 0] a.ll ++ sendOpt sendInt16 [0, 0] a.l ++ sendOpt sendInt16 [0, 0] a.h
      ++ sendOpt sendInt16 [0, 0] a.hh ++ sendNat16 a.hysteresis
  | .discrete d =>
    [natByte d.bit, d.edge.code, d.mode.code, gateCode d.gate, gateIndex d.gate] ++ List.replicate 11 0

/-- Byte 4 of a descriptor. -/
def descriptorFlags (d : Descriptor) : Byte :=
  natByte ((flagsByte [d.isDiscrete, decide (d.width = .word), decide (d.order = .swapped), d.signed]).toNat
    + 16 * d.scanClass.code.toNat)

/-- A point descriptor as sent: 28 bytes (R186). -/
def descriptorBytes (d : Descriptor) : List Byte :=
  send32 d.tag ++ [descriptorFlags d, natByte d.modAddr.val, d.offset, natByte d.persistence, natByte d.alarmPriority,
    natByte d.urgentPriority, natByte d.group, maskByte d.routeMask] ++ partBytes d.part

def targetByte : Option Target → Byte
  | none => 0
  | some (.band b) => b.code
  | some (.level l) => boolByte l

/-- `band`, or `level` for a discrete point. -/
def bandOrLevel (d : Descriptor) (l : LiveRecord) : Byte :=
  if d.isDiscrete then boolByte l.level else l.band.code

/-- A live record as sent: 16 bytes (R186). -/
def liveBytes (d : Descriptor) (l : LiveRecord) : List Byte :=
  send16 l.raw ++ sendInt16 l.value ++ sendInt16 l.filtered ++ [bandOrLevel d l,
    flagsByte [l.asserted, l.sat, l.candidate.isSome, l.forcedValue.isSome], targetByte l.candidate, natByte l.count,
    natByte l.failCount, l.quality.code] ++ send16 l.lastCycle ++ sendOpt sendInt16 [0, 0] l.forcedValue

/-- A short record of READ POINTS: 9 bytes, or 2 for an UNDEFINED entry (R186). -/
def shortRecord (i : PointIx) (e : PointEntry) : List Byte :=
  match e.desc with
  | none => [pointByte i, 0]
  | some d => [pointByte i, e.state.code, e.live.quality.code, bandOrLevel d e.live,
      flagsByte [e.live.asserted, e.live.sat]] ++ sendInt16 e.live.filtered ++ send16 e.live.lastCycle

/-! ## Notice records (R187) -/

/-- The 25 bytes of a notice record. -/
def noticeBytes (n : Notice) (mask : PortSet) (poster : Option Port) (delivered suppressed : Bool) (remaining : Nat) :
    List Byte :=
  n.id.bytes ++ [n.state.code] ++ send32 n.tag
    ++ [(n.severity.map Severity.code).getD 0, natByte n.priority, natByte n.group, maskByte mask] ++ send32 n.stamp
    ++ sendOpt sendInt16 [0, 0] n.value ++ sendOpt send16 [0, 0] n.code
    ++ [(n.postedMask.map maskByte).getD 0, (poster.map Port.code).getD 0, (n.ackedBy.map Port.code).getD 0]
    ++ [flagsByte [n.severity.isSome, n.value.isSome, n.code.isSome, poster.isSome, n.ackedBy.isSome, delivered, suppressed]]
    ++ [natByte remaining]

/-! ## Bus records (R184) -/

/-- A class record as sent: 5 bytes. -/
def classBytes (c : ClassRecord) : List Byte :=
  [c.width.code, natByte c.settle, natByte c.timeout, natByte c.recovery, boolByte c.lineReads]

/-- The class record that SET MODULE CLASS carries from byte 1 on; none where a field is refused (R75). -/
def classRecordOf (b : List Byte) : Option ClassRecord := do
  let w ← busWidthOf (byteAt b 1)
  let lr ← lineReadsOf (byteAt b 5)
  if (byteAt b 2).toNat ≤ 15 ∧ (byteAt b 3).toNat ≠ 0 ∧ (byteAt b 4).toNat ≤ 7 then
    some {
      width := w
      settle := (byteAt b 2).toNat
      timeout := (byteAt b 3).toNat
      recovery := (byteAt b 4).toNat
      lineReads := lr }
  else none

/-! ## Actuator records (R187) -/

/-- The refresh interval is clamped to 100..5,000 ms (R139). -/
def clampInterval (n : Nat) : Nat := min 5000 (max 100 n)

/-- The actuator descriptor of 12 bytes; none where R139's check 1 refuses a field. -/
def actDescriptorOf (b : List Byte) : Option ActDescriptor := do
  let m ← modIxOf (byteAt b 0)
  let mask ← maskOf (byteAt b 9)
  let w : Width := if flagAt b 2 0 then .word else .byte
  let safe := word16At b 5
  let top := word16At b 7
  if (w = .word ∨ top.toNat ≤ 255) ∧ safe.toNat ≤ top.toNat ∧ (byteAt b 11).toNat ≤ Config.topLevel then
    some {
      modAddr := m
      offset := byteAt b 1
      width := w
      kind := if flagAt b 2 1 then .held else .latched
      interval := clampInterval (word16At b 3).toNat
      safeValue := safe
      maxValue := top
      policy := if flagAt b 2 2 then .safe else .keep
      portMask := mask
      feedback := if flagAt b 2 3 then some (pointIxOf (byteAt b 10)) else none
      faultPriority := (byteAt b 11).toNat }
  else none

/-- An actuator descriptor as sent: 12 bytes. -/
def actDescriptorBytes (d : ActDescriptor) : List Byte :=
  [natByte d.modAddr.val, d.offset,
    flagsByte [decide (d.width = .word), decide (d.kind = .held), decide (d.policy = .safe), d.feedback.isSome]]
    ++ sendNat16 d.interval ++ send16 d.safeValue ++ send16 d.maxValue ++ [maskByte d.portMask, (d.feedback.map pointByte).getD 0,
      natByte d.faultPriority]

/-- The flags byte of the actuator live record. -/
def actFlags (e : ActuatorEntry) : Byte := flagsByte [e.requested.isSome, e.output.isSome, e.fault]

/-- The pending item of an actuator, read from the work list: 0 absent, 1 REFRESH, 2 POLICY WRITE (R137, R183). -/
def pendingCode (i : ActIx) (work : List WorkItem) : Byte :=
  if WorkItem.policy i ∈ work then 2 else if WorkItem.refresh i ∈ work then 1 else 0

/-- The actuator live record: 11 bytes. -/
def actLiveBytes (i : ActIx) (work : List WorkItem) (e : ActuatorEntry) : List Byte :=
  [holderCode e.holder] ++ sendNat16 e.lease ++ [actFlags e] ++ sendOpt send16 [0, 0] e.requested
    ++ sendOpt send16 [0, 0] e.output ++ [natByte e.faultCount, pendingCode i work, e.inFlight.code]

/-- The claim part: 4 bytes. -/
def claimPart (i : ActIx) (e : ActuatorEntry) : List Byte :=
  [natByte i.val, holderCode e.holder] ++ sendNat16 e.lease

/-- The command part: 11 bytes. -/
def commandPart (i : ActIx) (e : ActuatorEntry) (v : Word16) (beats : Nat) : List Byte :=
  claimPart i e ++ send16 v ++ [natByte beats, actFlags e] ++ sendOpt send16 [0, 0] e.output ++ [natByte e.faultCount]

/-- The exchange part: 16 bytes; a failed read has raw word and converted value 0. -/
def exchangePart (i : ActIx) (e : ActuatorEntry) (v : Word16) (beats : Nat) (read : Option FailReason) (raw : Word16)
    (converted : Int) : List Byte :=
  commandPart i e v beats ++ [readOutcomeCode read] ++ send16 raw ++ sendInt16 converted

/-! ## Settings and identity (R178 to R180, R184, R187) -/

/-- One 3-byte block of SET PERMISSIONS: configuration permission, supervision-restart permission and window; none where the
window is refused (R178). -/
def permissionOf (b : List Byte) (k : Nat) : Option (Bool × Bool × Option (ModIx × ModIx)) :=
  if flagAt b k 2 then
    match modIxOf (byteAt b (k + 1)), modIxOf (byteAt b (k + 2)) with
    | some f, some l => if f ≤ l then some (flagAt b k 0, flagAt b k 1, some (f, l)) else none
    | _, _ => none
  else some (flagAt b k 0, flagAt b k 1, none)

/-- The 3 bytes of a route port's permissions as applied. -/
def permissionBytes (r : RouteState) : List Byte :=
  [flagsByte [r.config, r.mayRestart, r.window.isSome], (r.window.map (fun w => natByte w.1.val)).getD 0,
    (r.window.map (fun w => natByte w.2.val)).getD 0]

/-- A presence byte and an index of SET SITE POINTS. -/
def sitePointOf (b : List Byte) (k : Nat) : Option PointIx :=
  if flagAt b k 0 then some (pointIxOf (byteAt b (k + 1))) else none

def sitePointBytes (x : Option PointIx) : List Byte := [boolByte x.isSome, (x.map pointByte).getD 0]

/-- The identity record: 23 bytes (R180, R187). -/
def identityBytes (baud : Baud) (uptime : Word32) : List Byte :=
  [0x4B, 0x57, 0x04, 0x40, 0x01] ++ sendNat16 Config.points ++ sendNat16 256
    ++ [natByte Config.modules, natByte Config.classes, natByte Config.actuators, natByte Config.notices,
      natByte Config.postedSlots, natByte Config.referralSlots, natByte Config.requestPlaces, natByte Config.outputPlaces,
      244] ++ [baud.code] ++ send32 uptime

/-! ## Referral records (R187) -/

def RoutePort.code : RoutePort → Byte
  | .east => 0
  | .west => 1

/-- The referral record of TAKE REFERRAL: 4 bytes and the body; `age` is in milliseconds, `untaken` the slots still UNTAKEN. -/
def referralBytes (k : ReferralIx) (r : Referral) (age untaken : Nat) : List Byte :=
  [natByte (k.val + 4 * (RoutePort.code r.origin).toNat + 8 * (r.kind.toNat - Config.referredBase)), r.tag]
    ++ sendNat16 (4 * age + untaken) ++ r.body

end Sys2Proof.Machine
end

