-- ==== Sys2Proof/Machine/Flags.lean ====
section
/-! DEFINITION. What the part decides from its state and changes nothing by: conversion and bands, edges and gates, validity,
due entries, what is offered to a port, permissions, the wanted clock, and the lines of the point bus. -/

namespace Sys2Proof.Machine

/-! ## From bus word to raw word (R22, R69) -/

/-- The word number of a byte offset on a 16-bit module: o ÷ 2 for an even o and (o − 1) ÷ 2 for an odd one (R62). -/
def wordNo (offset : Byte) : Nat := offset.toNat / 2

/-- Whether an offset is odd. -/
def isOdd (offset : Byte) : Bool := offset.toNat % 2 == 1

/-- Whether a register can be addressed under a class width: a WORD at offset 255 on an 8-bit class, or at an odd offset on a
16-bit class, cannot (R9, R22, R69). -/
def addressable (bw : BusWidth) (w : Width) (offset : Byte) : Bool :=
  match w, bw with
  | .byte, _ => true
  | .word, .w8 => offset.toNat != 255
  | .word, .w16 => !isOdd offset

/-- A word with its two bytes exchanged. -/
def swapBytes (w : Word16) : Word16 := (lowByte w).append (highByte w)

/-- What was delivered for an address, by the list of a transaction. -/
def deliveredAt (delivered : List (Nat × Word16)) (addr : Nat) : Option Word16 :=
  (delivered.find? (fun x => x.1 == addr)).map (·.2)

/-- The raw word of a register from what a transaction delivered, by the rows of R22; none where a byte or word it needs was not
delivered. -/
def rawWordOf (bw : BusWidth) (w : Width) (o : ByteOrder) (offset : Byte) (delivered : List (Nat × Word16)) : Option Word16 :=
  match bw, w with
  | .w8, .byte => (deliveredAt delivered offset.toNat).map (fun x => (lowByte x).setWidth 16)
  | .w8, .word =>
    match deliveredAt delivered offset.toNat, deliveredAt delivered (offset.toNat + 1) with
    | some a, some b =>
      match o with
      | .natural => some ((lowByte b).append (lowByte a))
      | .swapped => some ((lowByte a).append (lowByte b))
    | _, _ => none
  | .w16, .byte =>
    (deliveredAt delivered (wordNo offset)).map
      (fun x => if isOdd offset then (highByte x).setWidth 16 else (lowByte x).setWidth 16)
  | .w16, .word =>
    (deliveredAt delivered (wordNo offset)).map
      (fun x => match o with
        | .natural => x
        | .swapped => swapBytes x)

/-! ## Analog arithmetic (R23 to R25) -/

/-- The interpreted number r of a raw word (R23). -/
def interpret (w : Width) (signed : Bool) (raw : Word16) : Int :=
  match w, signed with
  | .word, false => raw.toNat
  | .word, true => if raw.toNat ≤ 32767 then raw.toNat else (raw.toNat : Int) - 65536
  | .byte, false => raw.toNat
  | .byte, true => if raw.toNat ≤ 127 then raw.toNat else (raw.toNat : Int) - 256

/-- p ÷ 256 rounded to nearest, halves away from zero (R24). -/
def roundDiv256 (p : Int) : Int := if 0 ≤ p then (p + 128) / 256 else -((-p + 128) / 256)

/-- Clamping to −32,768..32,767 (R24). -/
def clamp16 (v : Int) : Int := max (-32768) (min 32767 v)

/-- The rounded quotient of an analog sample (R24, steps 1 and 2). -/
def quotientOf (a : AnalogPart) (r : Int) : Int := roundDiv256 ((r - a.zero) * a.slope)

/-- The scaled value v and `sat` (R24). -/
def scaled (a : AnalogPart) (r : Int) : Int × Bool :=
  (clamp16 (quotientOf a r), decide (clamp16 (quotientOf a r) ≠ quotientOf a r))

/-- The new filtered value when the sample is not a seeding sample (R25). -/
def filterStep (k : Nat) (old v : Int) : Int := if k = 0 then v else old + Int.tdiv (v - old) (2 ^ k)

/-- Whether a good analog sample is a seeding sample (R25). -/
def isSeeding (mark : Bool) (q : Quality) : Bool :=
  mark || decide (q = .unscanned) || decide (q = .stale) || decide (q = .failed)

/-! ## Band decision and persistence (R26, R27) -/

/-- f has reached the high threshold t, or is held above t − hyst by the present band (R26 rows 1 and 2). -/
def highHolds (t : Option Int) (f : Int) (held : Bool) (hyst : Nat) : Bool :=
  match t with
  | none => false
  | some t => decide (t ≤ f) || (held && decide (t - hyst < f))

/-- f has reached the low threshold t, or is held below t + hyst by the present band (R26 rows 3 and 4). -/
def lowHolds (t : Option Int) (f : Int) (held : Bool) (hyst : Nat) : Bool :=
  match t with
  | none => false
  | some t => decide (f ≤ t) || (held && decide (f < t + hyst))

/-- The target band: the first row of R26 whose condition holds. -/
def targetBand (a : AnalogPart) (b : Band) (f : Int) : Band :=
  if highHolds a.hh f (decide (b = .highhigh)) a.hysteresis then .highhigh
  else if highHolds a.h f (decide (b = .high) || decide (b = .highhigh)) a.hysteresis then .high
  else if lowHolds a.ll f (decide (b = .lowlow)) a.hysteresis then .lowlow
  else if lowHolds a.l f (decide (b = .low) || decide (b = .lowlow)) a.hysteresis then .low
  else .normal

/-- What persistence leaves: whether the target is accepted, the candidate and the count. -/
structure Persisted where
  accepted : Bool
  candidate : Option Target
  count : Nat
  deriving DecidableEq, Repr

/-- Persistence (R27): n is the setting, `present` the band or level, `t` the target. -/
def persist (n : Nat) (present t : Target) (candidate : Option Target) (count : Nat) : Persisted :=
  if t = present then ⟨false, none, 0⟩
  else
    let c := if candidate = some t then count + 1 else 1
    if n ≤ c then ⟨true, none, 0⟩ else ⟨false, some t, c⟩

/-! ## Edges and gates (R30, R32) -/

/-- Whether `edge` selects a rising (true) or falling edge. -/
def edgeSelected (e : Edge) (rising : Bool) : Bool :=
  match e with
  | .both => true
  | .rising => rising
  | .falling => !rising

/-- `asserted` after an edge to the level `rising` (R30's table). -/
def assertedAfterEdge (d : DiscretePart) (rising asserted : Bool) : Bool :=
  match d.mode with
  | .sticky => edgeSelected d.edge rising || asserted
  | .level => edgeSelected d.edge rising

/-- `asserted` after a level set without an edge (R30): a LEVEL-mode point follows the level, a STICKY-mode point keeps it. -/
def assertedWithoutEdge (d : DiscretePart) (level asserted : Bool) : Bool :=
  match d.mode with
  | .sticky => asserted
  | .level => edgeSelected d.edge level

/-- The sample bit s of a discrete point: bit `bit` of r as a 16-bit two's complement number (R29). -/
def sampleBit (d : Descriptor) (x : DiscretePart) (raw : Word16) : Bool :=
  (BitVec.ofInt 16 (interpret d.width d.signed raw)).getLsbD x.bit

/-- Whether a point's gate is open (R32): the gate point's `asserted` flag alone decides. -/
def gateOpen (s : State) (g : Option Gate) : Bool :=
  match g with
  | none => true
  | some ⟨j, .openWhileSet⟩ => (s.point j).live.asserted
  | some ⟨j, .openWhileClear⟩ => !(s.point j).live.asserted

/-- The ASSERTED activity of a point (R32). -/
def assertedActive (s : State) (i : PointIx) : Bool :=
  match s.descOf i with
  | none => false
  | some d => d.isDiscrete && (s.point i).live.asserted && gateOpen s d.gate

/-- Whether the descriptor of point j names point i as its gate. -/
def gatedBy (s : State) (i j : PointIx) : Bool :=
  match (s.descOf j).bind Descriptor.gate with
  | none => false
  | some g => decide (g.point = i)

/-- The defined points gated by i, in ascending index order (R33). -/
def gatedPoints (s : State) (i : PointIx) : List PointIx := pointIndices.filter (gatedBy s i)

/-- Whether point i is the `gate` of some defined point (R12, R15). -/
def isGate (s : State) (i : PointIx) : Bool := !(gatedPoints s i).isEmpty

/-! ## Bands, severities and conditions (R40, R106) -/

/-- The severity of a band; NORMAL has none. -/
def severityOf : Band → Option Severity
  | .lowlow => some .lowlow
  | .low => some .low
  | .normal => none
  | .high => some .high
  | .highhigh => some .highhigh

/-- LOWLOW and HIGHHIGH are rank 2 (R106). -/
def Severity.rank : Severity → Nat
  | .low => 1
  | .high => 1
  | .lowlow => 2
  | .highhigh => 2

/-- LOW and LOWLOW lie on the low side (R106). -/
def Severity.lowSide : Severity → Bool
  | .low => true
  | .lowlow => true
  | .high => false
  | .highhigh => false

/-! ## Validity of a descriptor (R8, R9) -/

/-- The present thresholds in the order LL, L, H, HH. -/
def presentThresholds (a : AnalogPart) : List Int := [a.ll, a.l, a.h, a.hh].filterMap id

/-- Adjacent thresholds rise strictly, and by more than the hysteresis (R8, checks 4 and 5). -/
def thresholdsValid (hyst : Nat) : List Int → Bool
  | [] => true
  | [_] => true
  | a :: b :: rest => decide (a < b) && decide ((hyst : Int) < b - a) && thresholdsValid hyst (b :: rest)

/-- A present gate names a defined DISCRETE point other than the point itself (R8, check 8). -/
def gateValid (s : State) (i : PointIx) (g : Option Gate) : Bool :=
  match g with
  | none => true
  | some g =>
    match s.descOf g.point with
    | none => false
    | some d => d.isDiscrete && decide (g.point ≠ i)

/-- The checks of R8 on the fields of a kind; u is the urgent priority. -/
def partValid (s : State) (i : PointIx) (u : Nat) : KindPart → Bool
  | .analog a =>
    decide (a.filterShift ≤ 7) && decide (a.hysteresis ≤ 4095) && thresholdsValid a.hysteresis (presentThresholds a)
  | .discrete d =>
    decide (d.bit ≤ 15) && !(decide (d.edge = .both) && decide (d.mode = .level)) && decide (u = 0) && gateValid s i d.gate

/-- The checks of R8 on a descriptor for entry i. -/
def descriptorValid (s : State) (i : PointIx) (d : Descriptor) : Bool :=
  decide (d.tag ≠ 0) && decide (1 ≤ d.persistence) && decide (d.persistence ≤ 15)
    && decide (d.alarmPriority ≤ Config.topLevel) && decide (d.urgentPriority ≤ Config.topLevel)
    && decide (d.group ≤ 7) && partValid s i d.urgentPriority d.part

/-- Whether another defined point than i holds the tag (R6). -/
def tagTaken (s : State) (i : PointIx) (tag : Word32) : Bool :=
  pointIndices.any (fun j => decide (j ≠ i) && (match s.descOf j with
    | none => false
    | some d => decide (d.tag = tag)))

/-- The index of the defined point that holds a tag (R7). -/
def findTag (s : State) (tag : Word32) : Option PointIx :=
  if tag = 0 then none
  else pointIndices.find? (fun j => match s.descOf j with
    | none => false
    | some d => decide (d.tag = tag))

/-- Whether some defined actuator names the point as its feedback point (R15). -/
def isFeedback (s : State) (i : PointIx) : Bool :=
  actIndices.any (fun a => match (s.actuator a).desc with
    | none => false
    | some d => decide (d.feedback = some i))

/-- Whether an EXCHANGE of actuator a has been accepted and has not completed (R12, R151). -/
def exchangeOutstanding (s : State) (a : ActIx) : Bool :=
  decide ((s.actuator a).inFlight = .exchange) || s.acts.workList.any (fun w => match w with
    | .exchange _ b _ => decide (b = a)
    | _ => false)

/-- Whether the point is the feedback point of an actuator with an exchange outstanding (R12). DESIGN CHOICE: an exchange that
waits still counts between the SECOND_TICK that takes its claim's lease to 0 and the LEASE_EXPIRY that dismisses it
(notes/assumptions/11.md). -/
def feedbackHeld (s : State) (i : PointIx) : Bool :=
  actIndices.any (fun a => match (s.actuator a).desc with
    | none => false
    | some d => decide (d.feedback = some i) && exchangeOutstanding s a)

/-! ## The Scanner (R48, R49) -/

/-- Whether a scan class is due in cycle n (R49). -/
def dueIn (n : Word16) : ScanClass → Bool
  | .fast => true
  | .normal => n.toNat % 4 == 0
  | .slow => n.toNat % 16 == 0

/-- Whether an entry of the scan list is due in the cycle in progress (R49). -/
def isDue (s : State) (i : PointIx) : Bool :=
  match s.descOf i with
  | none => false
  | some d => dueIn s.scan.cycleNumber d.scanClass

/-- The effective period of a start (R48). -/
def effectivePeriod (s : State) : Nat :=
  if s.clock.clockState = .economy then 4 * s.scan.period else s.scan.period

/-! ## Masks and what is offered (R103, R114, R122) -/

/-- The route mask of an entry, read from its source (R103). -/
def maskOfNotice (s : State) (n : Notice) : PortSet :=
  match n.id with
  | .point i _ => ((s.descOf i).map (·.routeMask)).getD .empty
  | .actuator i => (((s.actuator i).desc).map (·.portMask)).getD .empty
  | .internal _ => .all
  | .posted _ => n.postedMask.getD .empty

/-- The suppression threshold of a group; group 0 has none (R114). -/
def groupThreshold (s : State) (g : Nat) : Nat :=
  if g = 0 then 0 else s.notices.thresholds.toList.getD (g - 1) 0

/-- Whether an entry is suppressed (R114). -/
def suppressed (s : State) (n : Notice) : Bool :=
  decide (groupThreshold s n.group ≠ 0) && s.notices.entries.any (fun m =>
    decide (m.group = n.group) && (decide (m.state = .raised) || decide (m.state = .acked))
      && decide (groupThreshold s n.group ≤ m.priority) && decide (n.priority < m.priority))

/-- Whether an entry is offerable to a port: the five terms of R122. -/
def offerable (s : State) (p : Port) (n : Notice) : Bool :=
  (maskOfNotice s n).get p && (decide (n.state = .raised) || decide (n.state = .returned)) && !n.delivered.get p
    && decide ((s.port p).level < n.priority) && !suppressed s n

/-- The offerable set of a port. -/
def offered (s : State) (p : Port) : List Notice := s.notices.entries.filter (offerable s p)

/-- The greatest priority among the entries offerable to a port, or 0 (R122). -/
def topPriority (s : State) (p : Port) : Nat := ((offered s p).map (·.priority)).foldl max 0

/-- The place of an identity in the identity order (R100). -/
def identityKey : NoticeId → Nat
  | .point i k => i.val * 4 + k.code.toNat
  | .actuator i => 0x10000 + i.val
  | .internal k => 0x20000 + k.index
  | .posted k => 0x30000 + k.val

/-- Among equal priorities: the older stamp, then the identity order (R100, R111, R131). -/
def olderThan (a b : Notice) : Bool :=
  decide (a.stamp.toNat < b.stamp.toNat) || (decide (a.stamp = b.stamp) && decide (identityKey a.id < identityKey b.id))

/-- a is fetched before b: greater priority, then R131's ties. -/
def fetchedBefore (a b : Notice) : Bool :=
  decide (b.priority < a.priority) || (decide (a.priority = b.priority) && olderThan a b)

/-- a is evicted before b: lower priority, then R111's ties. -/
def evictedBefore (a b : Notice) : Bool :=
  decide (a.priority < b.priority) || (decide (a.priority = b.priority) && olderThan a b)

/-- The first of a list by an order. -/
def firstBy (before : Notice → Notice → Bool) : List Notice → Option Notice
  | [] => none
  | n :: rest =>
    match firstBy before rest with
    | none => some n
    | some m => if before m n then some m else some n

/-- The entry that FETCH NOTICE returns to a port (R131). -/
def mostUrgent (s : State) (p : Port) : Option Notice := firstBy fetchedBefore (offered s p)

/-- The victim for a new entry of a priority: a RETURNED entry of at most that priority, the first by R111. -/
def victim (entries : List Notice) (priority : Nat) : Option Notice :=
  firstBy evictedBefore (entries.filter (fun n => decide (n.state = .returned) && decide (n.priority ≤ priority)))

/-- The entry of an identity. -/
def findNotice (s : State) (id : NoticeId) : Option Notice := s.notices.entries.find? (fun n => decide (n.id = id))

/-! ## Priorities (R102, R116) -/

def InternalSource.priority : InternalSource → Nat
  | .scanOverrun => 12
  | .linkLossEast => 20
  | .linkLossWest => 20
  | .hutSilent => 24
  | .economy => 8

/-- The priority of a condition as its source stands (R102); sev is the severity of a BAND condition. -/
def priorityOf (s : State) (id : NoticeId) (sev : Option Severity) : Nat :=
  match id with
  | .point i _ =>
    match s.descOf i with
    | none => 0
    | some d =>
      match sev with
      | some .lowlow => d.urgentPriority
      | some .highhigh => d.urgentPriority
      | _ => d.alarmPriority
  | .actuator i => (((s.actuator i).desc).map (·.faultPriority)).getD 0
  | .internal k => k.priority
  | .posted k => ((s.notices.slots.get k).map (·.priority)).getD 0

/-- The group of a condition (R102). -/
def groupOf (s : State) (id : NoticeId) : Nat :=
  match id with
  | .point i _ => ((s.descOf i).map (·.group)).getD 0
  | _ => 0

/-- The tag of a condition (R102). -/
def tagOf (s : State) (id : NoticeId) : Word32 :=
  match id with
  | .point i _ => ((s.descOf i).map (·.tag)).getD 0
  | _ => 0

/-- The `value` of a report: the point's `filtered`, absent for any other source (R101, R104). -/
def reportValue (s : State) (id : NoticeId) : Option Int :=
  match id with
  | .point i _ => some (s.point i).live.filtered
  | _ => none

/-! ## Permissions (R172) -/

/-- Check 4: whether a port may send a kind; `config` and `restart` are a route port's permissions. -/
def maySend (k : Kind) (p : Port) (config restart : Bool) : Bool :=
  match k, p with
  | .restartHutController, .hut => false
  | .restartHutController, _ => true
  | _, .hut => true
  | .definePoint, _ | .undefinePoint, _ | .setLimits, _ | .scanAdd, _ | .scanRemove, _ | .setScanPeriod, _
  | .setModuleClass, _ | .assignModuleClass, _ | .defineActuator, _ | .undefineActuator, _ | .setGroupThreshold, _ => config
  | .restartSupervision, _ => restart
  | .setPermissions, _ | .setSitePoints, _ | .setEconomy, _ | .startScan, _ | .stopScan, _ | .takeReferral, _
  | .answerReferral, _ => false
  | _, _ => true

/-- Check 4 against the permissions as they stand. -/
def permitted (s : State) (k : Kind) (p : Port) : Bool :=
  match routeOf p with
  | none => maySend k p false false
  | some r => maySend k p (s.route r).config (s.route r).mayRestart

/-! ## The wanted clock (R91) -/

/-- The wanted state from the economy mode and the band of the trigger point. -/
def wantedClock (s : State) : WantedClock :=
  match s.clock.mode with
  | .forceEconomy => .economy
  | .forceFull => .full
  | .auto =>
    match s.economyTrigger with
    | none => .full
    | some i =>
      match (s.point i).live.band with
      | .low => .economy
      | .lowlow => .economy
      | _ => .full

/-! ## The site-local point (R143) -/

/-- Whether the site-local point is present and its `asserted` flag set. -/
def siteAsserted (s : State) : Bool :=
  match s.siteLocal with
  | none => false
  | some i => (s.point i).live.asserted

/-! ## HREQ (R129) -/

def ReferralSlot.isUntaken : ReferralSlot → Bool
  | .untaken _ _ => true
  | _ => false

def ReferralSlot.isFree : ReferralSlot → Bool
  | .free => true
  | _ => false

/-- The count of UNTAKEN slots (R161). -/
def untakenCount (s : State) : Nat := (slotIndices.filter (fun k => (s.slot k).isUntaken)).length

/-- Whether HREQ is asserted: a hut summary above 0, a frame in the hut output queue, or an UNTAKEN referral. -/
def hreqWanted (s : State) : Bool :=
  decide (0 < (s.port .hut).summary) || !(s.port .hut).output.isEmpty || slotIndices.any (fun k => (s.slot k).isUntaken)

/-! ## The lines of the point bus (R61, R62, R65, R71) -/

/-- The driven lines of the point bus: module address, offset or word number, data of a write, strobe, and write. -/
structure BusLines where
  modLines : Option ModIx
  offsetLines : Nat
  dataLines : Option Word16
  strobe : Bool
  write : Bool
  deriving DecidableEq, Repr

/-- Nothing driven, the strobe and write lines released (R61). DESIGN CHOICE: R67 names only the strobe and the address of a gap
clock, and R68 only the address, the data and the strobe of RECOVERY; the data and write lines of a gap clock and the write line in
RECOVERY are shown released too (notes/assumptions/32.md). -/
def BusLines.released : BusLines := ⟨none, 0, none, false, false⟩

/-- Whether a gap clock stands before the beat that a transaction has come to: before every beat but the first, and but those of a
line read whose line has not been declined, which go on under one strobe (R67, R71, R72). -/
def gapBefore (t : Transaction) : Bool := decide (0 < t.pos) && !(decide (t.kind = .lineRead) && !t.inhibited)

/-- The lines as the part drives them at a clock of the beat that the transaction in flight has come to. Clocks are numbered as R65
numbers them, and 0 is the gap clock before the beat, in which the strobe is released and no address is driven (R67). Outside a
transaction nothing is driven either (R61, R68). What R67 and R68 leave unsaid of the data and write lines there is the model's choice
(`BusLines.released`, notes/assumptions/32.md). -/
def busLines (s : State) (clock : Nat) : BusLines :=
  match s.bus.inFlight with
  | none => .released
  | some t =>
    match t.beats[t.pos]? with
    | none => .released
    | some b =>
      if gapBefore t ∧ clock = 0 then .released else ⟨some t.modAddr, b.addr, b.data, true, b.data.isSome⟩

end Sys2Proof.Machine
end

