-- ==== Sys2Proof/Machine/Ops.lean ====
section
/-! DEFINITION. The shared operations: an event of the part, frames and output queues, Notice Delivery, reports to the Notice
Table, responses, and the taking of a request. Everything that a command does to these goes through them. -/

namespace Sys2Proof.Machine

/-- The outcome of a command. -/
abbrev Outcome := Host.Outcome State Fault Refusal

/-! ## Events -/

/-- HREQ decided afresh (R129). -/
def decideHreq (s : State) : State := s.setHreq (hreqWanted s)

/-- An event of the part. While POR is asserted, and where the event cannot happen (`enabled` is false), nothing happens
(notes/assumptions/1.md and 3.md). Otherwise f happens and HREQ is decided in the same event (R129). -/
def event (enabled : Bool) (f : State → State) (s : State) : Outcome :=
  if s.por || !enabled then .next s else .next (decideHreq (f s))

/-- Whether a timer's expiry is due: the timer runs and no time remains on it. A timer that stops or restarts before its expiry is
taken has none (R163, R167, R177; notes/assumptions/5.md). -/
def Timer.expired (t : Timer) : Bool := decide (t = some 0)

/-! ## Output queues (R125, R126, R169) -/

/-- Whether a port's output queue has a free place. -/
def hasRoom (s : State) (p : Port) : Bool := decide ((s.port p).output.length < Config.outputPlaces)

/-- The last reported summary of a route port, set; the Hut Port has none (R121). -/
def setReported (p : Port) (v : Nat) (s : State) : State :=
  match routeOf p with
  | none => s
  | some r => s.setRoute r { s.route r with lastReported := v }

/-- A frame placed at the tail of a port's output queue; v is the summary it carries, which the last reported summary becomes
(R126). -/
def pushFrame (p : Port) (f : OutFrame) (v : Nat) (s : State) : State :=
  setReported p v (s.setPort p { s.port p with output := (s.port p).output ++ [f] })

/-- A response frame: kind and tag echoed, RESULT, SUMMARY, then the rest (R175). -/
def responseFrame (kind tag result : Byte) (summary : Nat) (body : List Byte) (mark : FrameMark) : OutFrame where
  kind := kind
  tag := tag
  body := result :: natByte summary :: body
  mark := mark

/-- A response placed in a port's output queue with the port's summary of the moment (R125). -/
def placeResponse (p : Port) (kind tag result : Byte) (body : List Byte) (mark : FrameMark) (s : State) : State :=
  pushFrame p (responseFrame kind tag result (s.port p).summary body mark) (s.port p).summary s

/-- A refusal of a receiver: placed if the output queue has room, else dropped (R172, R173). -/
def placeIfRoom (p : Port) (kind tag : Byte) (r : Result) (s : State) : State :=
  if hasRoom s p then placeResponse p kind tag r.code [] .response s else s

/-! ## Notice Delivery (R124, R126 to R128) -/

/-- An ATTENTION frame (R127). -/
def attentionFrame (v : Nat) : OutFrame where
  kind := Config.attentionKind
  tag := 0
  body := [natByte v]
  mark := .attention

def isAttention (f : OutFrame) : Bool := decide (f.mark = .attention)

/-- The output queue with the body of its waiting ATTENTION frame replaced (R127 row 1). -/
def replaceAttention (v : Nat) (q : List OutFrame) : List OutFrame :=
  q.map (fun f => if isAttention f then attentionFrame v else f)

/-- Whether an ATTENTION frame waits unsent in a port's output queue. -/
def attentionWaits (s : State) (p : Port) : Bool := (s.port p).output.any isAttention

/-- ATTENTION owed, set or cleared. -/
def setOwed (r : RoutePort) (b : Bool) (s : State) : State := s.setRoute r { s.route r with attentionOwed := b }

/-- Row 1 of R127: a waiting ATTENTION frame whose body differs from the summary takes it, and L becomes S. -/
def refreshAttention (r : RoutePort) (s : State) : State :=
  let p := toPort r
  let v := (s.port p).summary
  if (s.port p).output.any (fun f => isAttention f && decide (f.body ≠ [natByte v])) then
    setReported p v (s.setPort p { s.port p with output := replaceAttention v (s.port p).output })
  else s

/-- The ATTENTION state of a route port decided after a recomputation: the rows of R127 in order; where S is not greater than
L, an owed ATTENTION is no longer owed (R128). -/
def decideAttention (r : RoutePort) (s : State) : State :=
  let p := toPort r
  let v := (s.port p).summary
  if attentionWaits s p then refreshAttention r s
  else if (s.route r).lastReported < v then
    if hasRoom s p then pushFrame p (attentionFrame v) v s else setOwed r true s
  else setOwed r false s

/-- The ATTENTION state of a port decided; the Hut Port has none (R121). For the port d whose executor's response is placed in
this event, the response sets L to S, so that row 1 is all that can apply there (R124). -/
def decideAttentionOf (d : Option Port) (p : Port) (s : State) : State :=
  match routeOf p with
  | none => s
  | some r => if d = some p then refreshAttention r s else decideAttention r s

/-- The last reported summary falls with the summary (R126, third case). -/
def lowerReported (p : Port) (v : Nat) (s : State) : State :=
  match routeOf p with
  | none => s
  | some r => if v < (s.route r).lastReported then setReported p v s else s

/-- One port's summary recomputed, with the ATTENTION state decided after a change (R122, R124). -/
def recompute (d : Option Port) (p : Port) (s : State) : State :=
  if topPriority s p = (s.port p).summary then s
  else
    decideAttentionOf d p
      (lowerReported p (topPriority s p) (s.setPort p { s.port p with summary := topPriority s p }))

/-- The three summaries recomputed (R124). -/
def settle (d : Option Port) (s : State) : State := recompute d .hut (recompute d .west (recompute d .east s))

/-! ## Reports to the Notice Table (R104 to R108, R111, R112) -/

/-- A report of a condition (R104). -/
inductive Report where
  | start (sev : Option Severity)
  | change (sev : Severity)
  | finish
  deriving DecidableEq, Repr

/-- The entry with f applied; every other entry as it was. -/
def updateNotice (id : NoticeId) (f : Notice → Notice) (s : State) : State :=
  s.setEntries (s.notices.entries.map (fun n => if n.id = id then f n else n))

/-- The entries of an identity removed outright. -/
def removeNotice (id : NoticeId) (s : State) : State :=
  s.setEntries (s.notices.entries.filter (fun n => decide (n.id ≠ id)))

/-- A new entry made in a free place, or in the place of the victim; with neither, the lost flag of every port is set (R111,
R112). -/
def insertNotice (n : Notice) (s : State) : State :=
  if s.notices.entries.length < Config.notices then s.setEntries (s.notices.entries ++ [n])
  else
    match victim s.notices.entries n.priority with
    | none => s.setNotices { s.notices with lost := .all }
    | some v => s.setEntries (s.notices.entries.map (fun m => if m.id = v.id then n else m))

/-- A new RAISED entry with its fields from the source (R102, R105). -/
def newNotice (s : State) (id : NoticeId) (sev : Option Severity) : Notice where
  id := id
  tag := tagOf s id
  severity := sev
  priority := priorityOf s id sev
  group := groupOf s id
  state := .raised
  stamp := s.uptime
  value := reportValue s id
  ackedBy := none
  code := none
  postedMask := none
  delivered := .empty

/-- A re-raised entry (R105, R106): RAISED, unacknowledged, undelivered, with a new stamp and fields afresh. -/
def reraised (s : State) (sev : Option Severity) (n : Notice) : Notice :=
  { n with
    tag := tagOf s n.id
    severity := sev
    priority := priorityOf s n.id sev
    group := groupOf s n.id
    state := .raised
    stamp := s.uptime
    value := reportValue s n.id
    ackedBy := none
    delivered := .empty }

/-- An entry whose rank falls on the same side (R106): fields and value updated, marks cleared; state, stamp and `acked-by`
stay. -/
def lowered (s : State) (sev : Severity) (n : Notice) : Notice :=
  { n with
    tag := tagOf s n.id
    severity := some sev
    priority := priorityOf s n.id (some sev)
    group := groupOf s n.id
    value := reportValue s n.id
    delivered := .empty }

/-- A RAISED entry whose condition ends (R107). -/
def returnedNotice (s : State) (n : Notice) : Notice :=
  { n with state := .returned, value := reportValue s n.id, delivered := .empty }

/-- A condition that has no entry starts (R105, R108). -/
def enterNotice (id : NoticeId) (sev : Option Severity) (s : State) : State :=
  if priorityOf s id sev = 0 then s else insertNotice (newNotice s id sev) s

/-- A RETURNED entry whose condition starts again (R105, R108). -/
def reraiseNotice (id : NoticeId) (sev : Option Severity) (s : State) : State :=
  if priorityOf s id sev = 0 then removeNotice id s else updateNotice id (reraised s sev) s

/-- Whether a change from one severity to another is a re-raise: the rank rises or the side changes (R106). -/
def isReraise (old : Option Severity) (new : Severity) : Bool :=
  match old with
  | none => true
  | some o => decide (o.rank < new.rank) || decide (o.lowSide ≠ new.lowSide)

/-- A RAISED or ACKED entry n whose BAND condition takes a severity (R106, R108). -/
def changeNotice (n : Notice) (sev : Severity) (s : State) : State :=
  if n.severity = some sev then updateNotice n.id (fun m => { m with value := reportValue s m.id }) s
  else if priorityOf s n.id (some sev) = 0 then removeNotice n.id s
  else if isReraise n.severity sev then updateNotice n.id (reraised s (some sev)) s
  else updateNotice n.id (lowered s sev) s

/-- The Notice Table takes a report (R105 to R108). -/
def applyReport (id : NoticeId) (r : Report) (s : State) : State :=
  match findNotice s id, r with
  | none, .start sev => enterNotice id sev s
  | none, .change sev => enterNotice id (some sev) s
  | none, .finish => s
  | some n, .start sev =>
    match n.state, sev with
    | .returned, _ => reraiseNotice id sev s
    | _, some v => changeNotice n v s
    | _, none => updateNotice id (fun m => { m with value := reportValue s m.id }) s
  | some n, .change sev =>
    match n.state with
    | .returned => reraiseNotice id (some sev) s
    | _ => changeNotice n sev s
  | some n, .finish =>
    match n.state with
    | .raised => updateNotice id (returnedNotice s) s
    | .acked => removeNotice id s
    | .returned => s

/-- A report taken whole, and the change handed to Notice Delivery (R104, R124). -/
def report (d : Option Port) (id : NoticeId) (r : Report) (s : State) : State := settle d (applyReport id r s)

/-- A start or an end of a condition without severity. -/
def reportActivity (d : Option Port) (id : NoticeId) (active : Bool) (s : State) : State :=
  report d id (if active then .start none else .finish) s

/-! ## Responses and executors (R124, R125, R174) -/

/-- What the frame of a response is: the OK of RESTART SUPERVISION is the restart's own (R181). -/
def markOf (req : Request) (reply : Reply) : FrameMark :=
  if req.kind = Config.restartSupervisionKind ∧ reply.result = .ok then .restartOk else .response

/-- The executor's response placed: the executor becomes IDLE (R174), and a placed restart OK begins the restart (R181), unless
one is already in progress (notes/assumptions/27.md). -/
def placeReply (p : Port) (req : Request) (reply : Reply) (s : State) : State :=
  let s1 := (placeResponse p req.kind req.tag reply.result.code reply.body (markOf req reply) s).setExecutor p .idle
  if markOf req reply = .restartOk ∧ s.restart = .idle then s1.setRestart (.due p) else s1

/-- The response of the request that a port's executor serves is formed: placed if there is room, else the
executor waits for room (R174). An executor that serves nothing has had its request abandoned, and no response is placed. -/
def respond (p : Port) (reply : Reply) (s : State) : State :=
  match (s.port p).executor with
  | .serving req =>
    if hasRoom s p then placeReply p req reply s
    else s.setExecutor p (.waitingForRoom req reply)
  | _ => s

/-- The port whose ATTENTION state is decided after a response that this event places, if the response finds room (R124). -/
def deferral (s : State) (p : Port) : Option Port := if hasRoom s p then some p else none

/-- The head request of a port's queue. -/
def headRequest (s : State) (p : Port) : Option Request := (s.port p).requests.head?

/-- Whether a port's executor can take the head request and the request is one that `accept` names: the executor is IDLE and no
restart has begun (R174, R181). -/
def canTake (s : State) (p : Port) (accept : Request → Bool) : Bool :=
  decide (s.restart = .idle) && decide ((s.port p).executor = .idle) &&
    (match headRequest s p with
    | none => false
    | some r => accept r)

/-- What serving a request gives: the state and, unless the executor goes on holding the request, its response. -/
abbrev Served := State × Option Reply

/-- The head request taken: it leaves the queue and the executor is SERVING it (R174). -/
def takeHead (p : Port) (s : State) : State :=
  match (s.port p).requests with
  | [] => s
  | r :: rest => s.setPort p { s.port p with requests := rest, executor := .serving r }

/-- The response placed, if one is formed. -/
def finishService (p : Port) (x : Served) : State :=
  match x with
  | (s, none) => s
  | (s, some reply) => respond p reply s

/-- A request row: the executor of p takes the head request, the owning block serves it by f, and the response, if formed, is
placed (R174). f is given the port whose ATTENTION decision waits for the response (R124). -/
def serve (p : Port) (accept : Request → Bool) (f : Option Port → Request → State → Served) (s : State) : Outcome :=
  event (canTake s p accept) (fun s =>
    match headRequest s p with
    | none => s
    | some req => finishService p (f (deferral s p) req (takeHead p s))) s

/-- Whether a request is of a served kind. -/
def ofKind (k : Kind) (r : Request) : Bool := decide (kindOf r.kind = some k)

/-- A response that changes no state. -/
def answer (s : State) (r : Reply) : Served := (s, some r)

/-- A refusal with nothing after the summary. -/
def refuse (s : State) (r : Result) : Served := (s, some (bare r))

end Sys2Proof.Machine
end

