-- ==== Sys2Proof/Machine/Claims.lean ====
section
/-! DEFINITION. The claims and the work list: how an item is queued, how the unit asks for the bus, how a claim ends, and how a
completed write counts (R138, R147, R154 to R156). -/

namespace Sys2Proof.Machine

/-! ## Moments (R138, R153) -/

/-- The moment of an event that time did not bring about: later than every moment before it. -/
def nextMoment (s : State) : Nat := s.acts.moments.now + 1

/-- An internal item of actuator i is queued at moment m. A moment later than the present one is over when its event is, so that
what comes next is later still (notes/assumptions/10.md). -/
def recordMoment (m : Nat) (i : ActIx) (s : State) : State :=
  s.setMoments { s.acts.moments with
    now := if s.acts.moments.now < m then m + 1 else s.acts.moments.now
    queuedAt := s.acts.moments.queuedAt.set i.val m i.isLt }

/-! ## The work list (R138, R155) -/

/-- The Actuator Unit's bus request, placed whenever the work list is not empty and the unit has no tenure (R138). -/
def requestActuator (s : State) : State :=
  if s.acts.workList ≠ [] ∧ s.arb.tenure ≠ some .actuatorUnit then
    s.setArb { s.arb with waiting := { s.arb.waiting with actuatorUnit := true } }
  else s

/-- The pending item of an actuator removed from the work list (R140, R141). -/
def dropPending (i : ActIx) (s : State) : State :=
  s.setWorkList (s.acts.workList.filter (fun w => decide (w ≠ .policy i) && decide (w ≠ .refresh i)))

/-- A pending REFRESH of an actuator removed (R149). -/
def dropRefresh (i : ActIx) (s : State) : State :=
  s.setWorkList (s.acts.workList.filter (fun w => decide (w ≠ .refresh i)))

/-- A POLICY WRITE queued at moment m (R155): one already pending stays with its earlier moment, a pending REFRESH gives way to
it. -/
def queuePolicy (m : Nat) (i : ActIx) (s : State) : State :=
  if .policy i ∈ s.acts.workList then requestActuator s
  else
    let s1 := recordMoment m i (dropRefresh i s)
    requestActuator (s1.setWorkList (s1.acts.workList ++ [.policy i]))

/-- A REFRESH queued at the present moment unless the actuator has a pending item (R154). -/
def queueRefresh (i : ActIx) (s : State) : State :=
  if .policy i ∈ s.acts.workList ∨ .refresh i ∈ s.acts.workList then s
  else requestActuator ((recordMoment s.acts.moments.now i s).setWorkList (s.acts.workList ++ [.refresh i]))

/-- The actuator of an item. -/
def WorkItem.target : WorkItem → ActIx
  | .policy i => i
  | .refresh i => i
  | .command _ i _ => i
  | .exchange _ i _ => i

/-- Whether an item is a COMMAND or EXCHANGE of a port for an actuator. -/
def isCommandOf (p : Port) (i : ActIx) (w : WorkItem) : Bool :=
  match w with
  | .command q j _ => decide (q = p) && decide (j = i)
  | .exchange q j _ => decide (q = p) && decide (j = i)
  | _ => false

/-- Whether an item is a COMMAND or EXCHANGE of a port. -/
def isItemOf (p : Port) (w : WorkItem) : Bool :=
  match w with
  | .command q _ _ => decide (q = p)
  | .exchange q _ _ => decide (q = p)
  | _ => false

/-! ## The end of a claim (R147) -/

/-- Step 2 of R147: a waiting COMMAND or EXCHANGE of the former holder leaves the list and is answered NOT_HOLDER. -/
def dismissCommand (p : Port) (i : ActIx) (s : State) : State :=
  if s.acts.workList.any (isCommandOf p i) then
    respond p ⟨.notHolder, claimPart i (s.actuator i)⟩
      (s.setWorkList (s.acts.workList.filter (fun w => !isCommandOf p i w)))
  else s

/-- Step 4 of R147: the release policy, at moment m. -/
def applyPolicy (m : Nat) (i : ActIx) (s : State) : State :=
  match (s.actuator i).desc with
  | none => s
  | some d => if d.policy = .safe then queuePolicy m i s else s

/-- The claim of an actuator ends at moment m by any cause but supervision restart: the steps of R147. -/
def endClaim (m : Nat) (i : ActIx) (s : State) : State :=
  match (s.actuator i).holder with
  | none => s
  | some p => applyPolicy m i (dismissCommand p i (s.setActuator i { s.actuator i with holder := none, lease := 0 }))

/-- Every claim whose holder satisfies `who` ends at moment m, in ascending index order (R148). -/
def endClaims (m : Nat) (who : Port → Bool) (s : State) : State :=
  actIndices.foldl (fun s i => match (s.actuator i).holder with
    | none => s
    | some p => if who p then endClaim m i s else s) s

/-- Whether a port is a route port. -/
def isRoute (p : Port) : Bool := (routeOf p).isSome

/-- The claims of every route holder end (R148, site-local). -/
def endRouteClaims (s : State) : State := endClaims (nextMoment s) isRoute s

/-- Whether the tick has taken an actuator's lease to 0 and its expiry is still to be taken (R146). -/
def expiryDue (s : State) (i : ActIx) : Bool := (s.actuator i).holder.isSome && decide ((s.actuator i).lease = 0)

/-- A claim whose lease the tick has taken to 0 ends before anything that reads it, at the moment of the tick (R146,
notes/assumptions/11.md). -/
def takeExpiry (i : ActIx) (s : State) : State := if expiryDue s i then endClaim s.acts.moments.ticked i s else s

/-- `takeExpiry` for every actuator in ascending order. -/
def takeExpiries (s : State) : State := actIndices.foldl (fun s i => takeExpiry i s) s

/-! ## Completed writes (R149, R154 to R156) -/

/-- The refresh timer of a HELD actuator restarts with its interval; a LATCHED one has none (R154). -/
def restartRefresh (i : ActIx) (s : State) : State :=
  match (s.actuator i).desc with
  | none => s
  | some d =>
    if d.kind = .held then s.setActuator i { s.actuator i with refreshTimer := some d.interval } else s

/-- A successful write: `output value` becomes the value, `fault count` 0 and `FAULT` clear, with the end of the FAULT
condition if it was set (R156). -/
def writeSucceeded (d : Option Port) (i : ActIx) (v : Word16) (s : State) : State :=
  let s1 := s.setActuator i { s.actuator i with output := some v, faultCount := 0, fault := false }
  if (s.actuator i).fault then report d (.actuator i) .finish s1 else s1

/-- A failed write: `fault count` rises to at most 2, and at 2 `FAULT` is set and the FAULT condition starts (R156). -/
def writeFailed (d : Option Port) (i : ActIx) (s : State) : State :=
  let e := s.actuator i
  let n := min 2 (e.faultCount + 1)
  let f := e.fault || decide (n = 2)
  let s1 := s.setActuator i { e with faultCount := n, fault := f }
  if f && !e.fault then report d (.actuator i) (.start none) s1 else s1

/-- Whether a successful write of the item takes a pending REFRESH out of the list: a COMMAND and an exchange write do (R149,
R152). -/
def clearsRefresh : WorkItem → Bool
  | .command _ _ _ => true
  | .exchange _ _ _ => true
  | _ => false

/-- Whether a successful write of the item restarts the refresh timer: all but a REFRESH (R154). -/
def restartsTimer : WorkItem → Bool
  | .refresh _ => false
  | _ => true

/-- A completed write of an item takes effect on its actuator (R149, R154, R155, R156). -/
def writeOutcome (d : Option Port) (w : WorkItem) (i : ActIx) (v : Word16) (failure : Option FailReason) (s : State) : State :=
  match failure with
  | some _ => writeFailed d i s
  | none =>
    let s1 := writeSucceeded d i v s
    let s2 := if restartsTimer w then restartRefresh i s1 else s1
    if clearsRefresh w then dropRefresh i s2 else s2

/-- In flight of an actuator, set (R137). -/
def setInFlight (i : ActIx) (x : InFlight) (s : State) : State := s.setActuator i { s.actuator i with inFlight := x }

end Sys2Proof.Machine
end

