-- ==== Sys2Proof/Machine/Clocking.lean ====
section
/-! DEFINITION. Clock Control: the wanted state, the switch of the point-bus clock, and the ECONOMY condition (R90 to R98). -/

namespace Sys2Proof.Machine

/-- The start or the end of the ECONOMY condition reported; ECONOMY reported follows (R95). An end is reported only if a start
has been (R98). -/
def reportEconomy (d : Option Port) (active : Bool) (s : State) : State :=
  if s.clock.economyReported = active then s
  else reportActivity d (.internal .economy) active (s.setClock { s.clock with economyReported := active })

/-- The arbiter's grant hold (R92, R93). -/
def setHold (b : Bool) (s : State) : State := s.setArb { s.arb with grantHold := b }

/-- A switch begins: the clock state becomes TO_ECONOMY or TO_FULL and grants are held (R92). -/
def beginSwitch (c : ClockState) (s : State) : State := setHold true (s.setClock { s.clock with clockState := c })

/-- A switch is abandoned: the handover stops, the old clock state returns and the grant hold is cleared (R94). -/
def abandonSwitch (c : ClockState) (s : State) : State :=
  setHold false (s.setClock { s.clock with clockState := c, handover := none })

/-- The wanted state, as re-evaluated, acts on the clock state by the rows of R92. -/
def actOnWanted (d : Option Port) (s : State) : State :=
  match s.clock.clockState, s.clock.wanted with
  | .full, .economy => beginSwitch .toEconomy s
  | .economy, .full => reportEconomy d false (beginSwitch .toFull s)
  | .toEconomy, .full => abandonSwitch .full s
  | .toFull, .economy => reportEconomy d true (abandonSwitch .economy s)
  | _, _ => s

/-- The wanted state re-evaluated (R91); one that leaves it as it was changes nothing. -/
def reevaluateClock (d : Option Port) (s : State) : State :=
  if wantedClock s = s.clock.wanted then s
  else actOnWanted d (s.setClock { s.clock with wanted := wantedClock s })

/-- SET ECONOMY (R96). -/
def serveSetEconomy (d : Option Port) (req : Request) (s : State) : Served :=
  match economyModeOf (byteAt req.body 0) with
  | none => refuse s .outOfRange
  | some m =>
    let s1 := reevaluateClock d (s.setClock { s.clock with mode := m })
    answer s1 ⟨.ok, [s1.clock.mode.code, s1.clock.wanted.code, s1.clock.clockState.code]⟩

def execSetEconomy (s : State) : Outcome := serve .hut (ofKind .setEconomy) serveSetEconomy s

/-- Whether a switch is pending (R92). -/
def switchPending (s : State) : Bool :=
  decide (s.clock.clockState = .toEconomy) || decide (s.clock.clockState = .toFull)

/-- Whether the bus allows the handover to begin (R93). -/
def handoverReady (s : State) : Bool :=
  switchPending s && decide (s.clock.handover = none) && decide (s.bus.busState = .idle) && decide (s.arb.tenure = none)
    && decide (s.arb.locked = .closed)

/-- HANDOVER_BEGIN (R93): the handover of 32 microseconds starts. -/
def execHandoverBegin (s : State) : Outcome :=
  event (handoverReady s) (fun s => s.setClock { s.clock with handover := some Config.handoverTime }) s

/-- The new clock state entered at the end of a handover (R93). -/
def enterClock (s : State) : State :=
  match s.clock.clockState with
  | .toEconomy =>
    reportEconomy none true (setHold false (s.setClock { s.clock with clockState := .economy, handover := none }))
  | .toFull => setHold false (s.setClock { s.clock with clockState := .full, handover := none })
  | _ => s

/-- HANDOVER_END (R93): once the 32 microseconds have passed, the new clock state is entered and the grant hold is cleared. -/
def execHandoverEnd (s : State) : Outcome := event (switchPending s && s.clock.handover.expired) enterClock s

/-- Step 8 of supervision restart (R98): the wanted state is re-evaluated; a clock that stays in ECONOMY has its condition
reported afresh. -/
def restartClock (s : State) : State :=
  let s1 := reevaluateClock none s
  if s1.clock.clockState = .economy then reportEconomy none true s1 else s1

/-- The frequency of the bus clock in kHz: 2 MHz in FULL and TO_ECONOMY, 250 kHz in ECONOMY and TO_FULL (R90, R97). -/
def busClockKHz (s : State) : Nat :=
  match s.clock.clockState with
  | .full => 2000
  | .toEconomy => 2000
  | .economy => 250
  | .toFull => 250

end Sys2Proof.Machine
end

