-- ==== Sys2Proof/Machine/Conversion.lean ====
section
/-! DEFINITION. The Conversion Unit: samples, forced values, and the reports and hand-offs that a change of a live record makes
(R21 to R42). -/

namespace Sys2Proof.Machine

/-! ## The live record after a sample (R28, R29, R34, R38) -/

/-- A sample of a point: a raw word, or the reason of its failure. -/
inductive Sample where
  | good (raw : Word16)
  | failed (why : FailReason)
  deriving DecidableEq, Repr

/-- A good analog sample of a point that is not FORCED (R28). -/
def analogLive (d : Descriptor) (a : AnalogPart) (cycle : Word16) (mark : Bool) (l : LiveRecord) (raw : Word16) : LiveRecord :=
  let v := (scaled a (interpret d.width d.signed raw)).1
  let sat := (scaled a (interpret d.width d.signed raw)).2
  let seed := isSeeding mark l.quality
  let f := if seed then v else filterStep a.filterShift l.filtered v
  let t := targetBand a l.band f
  let r := persist d.persistence (.band l.band) (.band t) (if seed then none else l.candidate) (if seed then 0 else l.count)
  { l with
    raw := raw
    failCount := 0
    value := v
    sat := sat
    filtered := f
    quality := .good
    lastCycle := cycle
    band := if r.accepted then t else l.band
    candidate := r.candidate
    count := r.count }

/-- Whether a quality makes a discrete point's persistence start afresh (R29 step 2). -/
def startsAfresh (q : Quality) : Bool := decide (q = .unscanned) || decide (q = .stale) || decide (q = .failed)

/-- A good discrete sample of a point that is not FORCED (R29, R30). -/
def discreteLive (d : Descriptor) (x : DiscretePart) (cycle : Word16) (mark : Bool) (l : LiveRecord) (raw : Word16) :
    LiveRecord :=
  let b := sampleBit d x raw
  let l1 : LiveRecord := { l with
    raw := raw
    failCount := 0
    value := b.toNat
    filtered := b.toNat
    sat := false
    quality := .good
    lastCycle := cycle }
  if mark then
    { l1 with level := b, candidate := none, count := 0, asserted := assertedWithoutEdge x b l.asserted }
  else
    let afresh := startsAfresh l.quality
    let r := persist d.persistence (.level l.level) (.level b) (if afresh then none else l.candidate)
      (if afresh then 0 else l.count)
    { l1 with
      level := if r.accepted then b else l.level
      candidate := r.candidate
      count := r.count
      asserted := if r.accepted then assertedAfterEdge x b l.asserted else l.asserted }

/-- A failed sample (R34, R38): only `fail count` changes while FORCED. -/
def failedLive (l : LiveRecord) : LiveRecord :=
  let n := min 255 (l.failCount + 1)
  if l.quality = .forced then { l with failCount := n }
  else if Config.failLimit ≤ n ∧ l.quality ≠ .failed then { l with failCount := n, quality := .failed }
  else if l.quality = .good then { l with failCount := n, quality := .stale }
  else { l with failCount := n }

/-- The live record after a sample (R28, R29, R34, R38). -/
def sampledLive (d : Descriptor) (cycle : Word16) (e : PointEntry) (x : Sample) : LiveRecord :=
  match x with
  | .failed _ => failedLive e.live
  | .good raw =>
    if e.live.quality = .forced then { e.live with raw := raw, failCount := 0 }
    else
      match d.part with
      | .analog a => analogLive d a cycle e.scanMark e.live raw
      | .discrete p => discreteLive d p cycle e.scanMark e.live raw

/-- The scan-entry mark after a sample: the first good sample that is evaluated clears it (R21). -/
def markAfter (e : PointEntry) (x : Sample) : Bool :=
  match x with
  | .failed _ => e.scanMark
  | .good _ => e.scanMark && decide (e.live.quality = .forced)

/-- The live record after an accepted FORCE POINT (R37). -/
def forcedLive (d : Descriptor) (v : Int) (l : LiveRecord) : LiveRecord :=
  let l1 : LiveRecord := { l with
    value := v
    filtered := v
    sat := false
    quality := .forced
    candidate := none
    count := 0
    forcedValue := some v }
  match d.part with
  | .analog a => { l1 with band := targetBand a l.band v }
  | .discrete x =>
    let b := decide (v ≠ 0)
    { l1 with
      level := b
      asserted := if b = l.level then l.asserted else assertedAfterEdge x b l.asserted }

/-- The live record after UNFORCE POINT of a FORCED point (R19). -/
def unforcedLive (l : LiveRecord) : LiveRecord :=
  { l with forcedValue := none, quality := if Config.failLimit ≤ l.failCount then .failed else .stale }

/-- The converted value of a raw word: v of R24 for an analog point, s of R29 for a discrete one (R39). -/
def converted (d : Descriptor) (raw : Word16) : Int :=
  match d.part with
  | .analog a => (scaled a (interpret d.width d.signed raw)).1
  | .discrete x => (sampleBit d x raw).toNat

/-! ## Reports and hand-offs (R33, R40, R41) -/

/-- The reported ASSERTED activity of a point, set (R21, R33). -/
def setReportedAsserted (i : PointIx) (b : Bool) (s : State) : State := s.setPoint i { s.point i with reportedAsserted := b }

/-- The ASSERTED activity of a point re-evaluated: a start or an end is reported where it differs from the reported one
(R33). -/
def reevaluateAsserted (d : Option Port) (s : State) (i : PointIx) : State :=
  if assertedActive s i = (s.point i).reportedAsserted then s
  else reportActivity d (.point i .asserted) (assertedActive s i) (setReportedAsserted i (assertedActive s i) s)

/-- The points gated by i re-evaluated, in ascending index order (R33). -/
def reevaluateGated (d : Option Port) (i : PointIx) (s : State) : State :=
  (gatedPoints s i).foldl (reevaluateAsserted d) s

/-- A change of band reported (R40): a start from NORMAL, an end at NORMAL, else a change of severity. -/
def reportBand (d : Option Port) (i : PointIx) (old new : Band) (s : State) : State :=
  if old = new then s
  else
    match severityOf old, severityOf new with
    | none, some v => report d (.point i .band) (.start (some v)) s
    | some _, some v => report d (.point i .band) (.change v) s
    | _, none => report d (.point i .band) .finish s

/-- A start or an end of FAILED reported (R40). -/
def reportFailed (d : Option Port) (i : PointIx) (old new : Quality) (s : State) : State :=
  if old = .failed ∧ new ≠ .failed then report d (.point i .failed) .finish s
  else if old ≠ .failed ∧ new = .failed then report d (.point i .failed) (.start none) s
  else s

/-- A change of `asserted` makes the point and then the points it gates be re-evaluated (R30, R33). -/
def reportAsserted (d : Option Port) (i : PointIx) (old new : Bool) (s : State) : State :=
  if old = new then s else reevaluateGated d i (reevaluateAsserted d s i)

/-- The hand-offs of R41: a change of band of the economy trigger point, and a setting of the site-local point's flag. -/
def handOff (d : Option Port) (i : PointIx) (old new : LiveRecord) (s : State) : State :=
  let s1 := if old.band ≠ new.band ∧ s.economyTrigger = some i then reevaluateClock d s else s
  if old.asserted = false ∧ new.asserted = true ∧ s1.siteLocal = some i then endRouteClaims s1 else s1

/-- A new live record of point i takes effect whole (R42), with its reports in the order of R41. R41 gives the hand-offs "with the
reports" and no place among them: that they come after all of the event's reports, Clock Control's before the Actuator Unit's, is
DESIGN CHOICE (notes/assumptions/28.md). -/
def commitLive (d : Option Port) (i : PointIx) (new : LiveRecord) (s : State) : State :=
  let old := (s.point i).live
  let s1 := s.setLive i new
  let s2 := reportFailed d i old.quality new.quality s1
  let s3 := reportBand d i old.band new.band s2
  let s4 := reportAsserted d i old.asserted new.asserted s3
  handOff d i old new s4

/-- A sample of point i taken whole (R42). An UNDEFINED entry has no descriptor to convert by, and takes none. -/
def takeSample (d : Option Port) (i : PointIx) (x : Sample) (s : State) : State :=
  match s.descOf i with
  | none => s
  | some desc =>
    let e := s.point i
    commitLive d i (sampledLive desc s.scan.cycleNumber e x) (s.setPoint i { e with scanMark := markAfter e x })

end Sys2Proof.Machine
end

