-- ==== Sys2Proof/Machine/PointTable.lean ====
section
/-! DEFINITION. The requests of the Point Table (R6 to R20, R31). -/

namespace Sys2Proof.Machine

/-- The entries of source POINT with an index removed outright (R11, R15, R113). -/
def removePointNotices (i : PointIx) (s : State) : State :=
  removeNotice (.point i .asserted) (removeNotice (.point i .failed) (removeNotice (.point i .band) s))

/-- Whether a DEFINE POINT of the entry is refused with IN_USE (R11, R12); `discrete` is the kind the request names. -/
def defineInUse (s : State) (i : PointIx) (discrete : Bool) : Bool :=
  match (s.point i).state with
  | .undefined => false
  | .scanned _ => true
  | .defined _ =>
    (!discrete && isGate s i) || (!discrete && decide (s.siteLocal = some i))
      || (discrete && decide (s.economyTrigger = some i)) || feedbackHeld s i

/-- R9: a WORD point must be readable under the class that the map gives its module. -/
def addressValid (s : State) (d : Descriptor) : Bool := addressable (s.classOf d.modAddr).width d.width d.offset

/-- The effects of an accepted DEFINE POINT in the order of R11, and what the change of record hands over. -/
def acceptDefine (d : Option Port) (i : PointIx) (new : Descriptor) (s : State) : State :=
  let old := s.point i
  let s1 := if old.desc.isSome then removePointNotices i s else s
  let s2 := settle d (s1.setPoint i (old.resetRecord (.defined new)))
  let s3 := if old.live.asserted then reevaluateGated d i s2 else s2
  if old.live.band ≠ .normal ∧ s3.economyTrigger = some i then reevaluateClock d s3 else s3

/-- DEFINE POINT with the checks in the order of R10. -/
def serveDefinePoint (d : Option Port) (req : Request) (s : State) : Served :=
  let i := pointIxOf (byteAt req.body 0)
  let b := req.body.drop 1
  if defineInUse s i (namesDiscrete b) then refuse s .inUse
  else
    match descriptorOf b with
    | none => refuse s .badLimits
    | some new =>
      if !descriptorValid s i new || !addressValid s new then refuse s .badLimits
      else if tagTaken s i new.tag then refuse s .duplicateTag
      else answer (acceptDefine d i new s) ⟨.ok, [pointByte i]⟩

def execDefinePoint (p : Port) (s : State) : Outcome := serve p (ofKind .definePoint) serveDefinePoint s

/-- The effects of an accepted SET LIMITS (R13, R14). DESIGN CHOICE: R14 gives no order between the recomputation for a new route
mask and the ASSERTED report for a new gate; the summaries are recomputed for the mask first, and again with that report
(notes/assumptions/30.md). -/
def acceptLimits (d : Option Port) (i : PointIx) (old new : Descriptor) (s : State) : State :=
  let e := s.point i
  let s1 := settle d (s.setPoint i { e with
    state := e.state.withDesc new
    live := { e.live with candidate := none, count := 0 } })
  if old.gate = new.gate then s1 else reevaluateAsserted d s1 i

/-- SET LIMITS (R10, R13, R14). -/
def serveSetLimits (d : Option Port) (req : Request) (s : State) : Served :=
  let i := pointIxOf (byteAt req.body 0)
  match s.descOf i with
  | none => refuse s .notDefined
  | some old =>
    match limitsOf old (req.body.drop 1) with
    | none => refuse s .badLimits
    | some new =>
      if descriptorValid s i new then answer (acceptLimits d i old new s) (bare .ok) else refuse s .badLimits

def execSetLimits (p : Port) (s : State) : Outcome := serve p (ofKind .setLimits) serveSetLimits s

/-- Whether an UNDEFINE POINT is refused with IN_USE (R15). -/
def undefineInUse (s : State) (i : PointIx) : Bool :=
  (s.point i).isScanned || isGate s i || decide (s.siteLocal = some i) || decide (s.economyTrigger = some i) || isFeedback s i

/-- UNDEFINE POINT (R15). -/
def serveUndefinePoint (d : Option Port) (req : Request) (s : State) : Served :=
  let i := pointIxOf (byteAt req.body 0)
  match s.descOf i with
  | none => refuse s .notDefined
  | some _ =>
    if undefineInUse s i then refuse s .inUse
    else answer (settle d ((removePointNotices i s).setPoint i ((s.point i).resetRecord .undefined))) (bare .ok)

def execUndefinePoint (p : Port) (s : State) : Outcome := serve p (ofKind .undefinePoint) serveUndefinePoint s

/-- READ POINT (R16). -/
def serveReadPoint (_d : Option Port) (req : Request) (s : State) : Served :=
  let e := s.point (pointIxOf (byteAt req.body 0))
  match e.desc with
  | none => answer s ⟨.ok, [e.state.code]⟩
  | some desc => answer s ⟨.ok, e.state.code :: descriptorBytes desc ++ liveBytes desc e.live⟩

def execReadPoint (p : Port) (s : State) : Outcome := serve p (ofKind .readPoint) serveReadPoint s

/-- The short records of the entries from a start index (R17). -/
def shortRecords (s : State) (start count : Nat) : List Byte :=
  (pointIndices.filter (fun i => decide (start ≤ i.val) && decide (i.val < start + count))).flatMap
    (fun i => shortRecord i (s.point i))

/-- READ POINTS (R17). -/
def serveReadPoints (_d : Option Port) (req : Request) (s : State) : Served :=
  let start := (byteAt req.body 0).toNat
  let count := (byteAt req.body 1).toNat
  if count = 0 ∨ 16 < count ∨ 255 < start + count - 1 then refuse s .outOfRange
  else answer s ⟨.ok, shortRecords s start count⟩

def execReadPoints (p : Port) (s : State) : Outcome := serve p (ofKind .readPoints) serveReadPoints s

/-- FIND TAG (R7). -/
def serveFindTag (_d : Option Port) (req : Request) (s : State) : Served :=
  match findTag s (word32At req.body 0) with
  | none => refuse s .notFound
  | some i => answer s ⟨.ok, [pointByte i, (s.point i).state.code]⟩

def execFindTag (p : Port) (s : State) : Outcome := serve p (ofKind .findTag) serveFindTag s

/-- Check 2 of R10: a route port must be in the point's route mask; the Hut Port passes. -/
def maskAdmits (p : Port) (d : Descriptor) : Bool := decide (p = .hut) || d.routeMask.get p

/-- The forced value is in range: any for an ANALOG point, 0 or 1 for a DISCRETE one (R18). -/
def forceInRange (d : Descriptor) (v : Int) : Bool := !d.isDiscrete || decide (v = 0) || decide (v = 1)

/-- FORCE POINT (R10, R18, R37). -/
def serveForcePoint (p : Port) (d : Option Port) (req : Request) (s : State) : Served :=
  let i := pointIxOf (byteAt req.body 0)
  let v := int16At req.body 1
  match s.descOf i with
  | none => refuse s .notDefined
  | some desc =>
    if !maskAdmits p desc then refuse s .portProtected
    else if !forceInRange desc v then refuse s .outOfRange
    else
      let s1 := commitLive d i (forcedLive desc v (s.point i).live) s
      answer s1 ⟨.ok, liveBytes desc (s1.point i).live⟩

def execForcePoint (p : Port) (s : State) : Outcome := serve p (ofKind .forcePoint) (serveForcePoint p) s

/-- UNFORCE POINT (R10, R19). -/
def serveUnforcePoint (p : Port) (d : Option Port) (req : Request) (s : State) : Served :=
  let i := pointIxOf (byteAt req.body 0)
  match s.descOf i with
  | none => refuse s .notDefined
  | some desc =>
    if !maskAdmits p desc then refuse s .portProtected
    else
      let s1 := if (s.point i).live.quality = .forced then commitLive d i (unforcedLive (s.point i).live) s else s
      answer s1 ⟨.ok, liveBytes desc (s1.point i).live⟩

def execUnforcePoint (p : Port) (s : State) : Outcome := serve p (ofKind .unforcePoint) (serveUnforcePoint p) s

/-- Whether CLEAR ASSERTED has a meaning for the point: a discrete point of mode STICKY (R31, check 3). -/
def isSticky (d : Descriptor) : Bool :=
  match d.discrete? with
  | none => false
  | some x => decide (x.mode = .sticky)

/-- CLEAR ASSERTED (R31). DESIGN CHOICE: the spec gives `asserted` in its response no code; it is 1 if set and 0 if clear
(notes/assumptions/31.md). -/
def serveClearAsserted (p : Port) (d : Option Port) (req : Request) (s : State) : Served :=
  let i := pointIxOf (byteAt req.body 0)
  match s.descOf i with
  | none => refuse s .notDefined
  | some desc =>
    if !maskAdmits p desc then refuse s .portProtected
    else if !isSticky desc then refuse s .badLimits
    else
      let s1 := commitLive d i { (s.point i).live with asserted := false } s
      answer s1 ⟨.ok, [boolByte (s1.point i).live.level, boolByte (s1.point i).live.asserted]⟩

def execClearAsserted (p : Port) (s : State) : Outcome := serve p (ofKind .clearAsserted) (serveClearAsserted p) s

end Sys2Proof.Machine
end

