-- ==== Sys2Proof/Machine/Notices.lean ====
section
/-! DEFINITION. The requests of the Notice Table: acknowledgement, posting and suppression thresholds (R109, R115, R117 to
R119). -/

namespace Sys2Proof.Machine

/-! ## Acknowledgement (R109) -/

/-- An entry acknowledged by a port: state and `acked-by` alone change. -/
def ackedNotice (p : Port) (n : Notice) : Notice := { n with state := .acked, ackedBy := some p }

/-- The effect of an acknowledgement of an entry, rows 4 to 6 of R109. -/
def acknowledge (p : Port) (d : Option Port) (n : Notice) (s : State) : Served :=
  match n.state with
  | .acked => answer s ⟨.alreadyAcked, [holderCode n.ackedBy]⟩
  | .raised => answer (settle d (updateNotice n.id (ackedNotice p) s)) ⟨.ok, [outcomeByte (some .acked)]⟩
  | .returned => answer (settle d (removeNotice n.id s)) ⟨.ok, [outcomeByte none]⟩

/-- ACK NOTICE with the checks in the order of R109. -/
def serveAckNotice (p : Port) (d : Option Port) (req : Request) (s : State) : Served :=
  match noticeIdOf (byteAt req.body 0) (byteAt req.body 1) (byteAt req.body 2) with
  | none => refuse s .outOfRange
  | some id =>
    match findNotice s id with
    | none => refuse s .notFound
    | some n => if (maskOfNotice s n).get p then acknowledge p d n s else refuse s .portProtected

def execAckNotice (p : Port) (s : State) : Outcome := serve p (ofKind .ackNotice) (serveAckNotice p) s

/-! ## Posted conditions (R117 to R119) -/

/-- A posted slot, set. -/
def setPosting (k : SlotIx) (x : Option Posting) (s : State) : State :=
  s.setNotices { s.notices with slots := s.notices.slots.set k.val x k.isLt }

/-- The poster of a slot. -/
def posterOf (s : State) (k : SlotIx) : Option Port := (s.notices.slots.get k).map (·.poster)

/-- The condition that a POST carries; none where check 1 of R118 refuses it. -/
def postingOf (p : Port) (b : List Byte) : Option (SlotIx × Posting) := do
  let k ← slotIxOf (byteAt b 0)
  let m ← maskOf (byteAt b 4)
  if 1 ≤ (byteAt b 1).toNat ∧ (byteAt b 1).toNat ≤ Config.topLevel ∧ m.isEmpty = false then
    some (k, ⟨p, (byteAt b 1).toNat, word16At b 2, m⟩)
  else none

/-- An entry with the code and mask of its posting (R118). -/
def withPosting (x : Posting) (n : Notice) : Notice := { n with code := some x.code, postedMask := some x.mask }

/-- The entry of a posted slot after a POST: a new entry, or the present one raised again (R118). -/
def postEntry (k : SlotIx) (x : Posting) (s : State) : State :=
  match findNotice s (.posted k) with
  | none => insertNotice (withPosting x (newNotice s (.posted k) none)) s
  | some _ => updateNotice (.posted k) (fun n => withPosting x (reraised s none n)) s

/-- The state of a slot's entry as a response carries it (R183). -/
def entryOutcome (s : State) (k : SlotIx) : Byte := outcomeByte ((findNotice s (.posted k)).map (·.state))

/-- POST (R118). -/
def servePost (p : Port) (d : Option Port) (req : Request) (s : State) : Served :=
  match postingOf p req.body with
  | none => refuse s .outOfRange
  | some (k, x) =>
    match posterOf s k with
    | some q =>
      if q = p then
        let s1 := settle d (postEntry k x (setPosting k (some x) s))
        answer s1 ⟨.ok, [natByte k.val, Port.code p, entryOutcome s1 k]⟩
      else answer s ⟨.notPoster, [Port.code q]⟩
    | none =>
      let s1 := settle d (postEntry k x (setPosting k (some x) s))
      answer s1 ⟨.ok, [natByte k.val, Port.code p, entryOutcome s1 k]⟩

def execPost (p : Port) (s : State) : Outcome := serve p (ofKind .post) (servePost p) s

/-- UNPOST (R119). -/
def serveUnpost (p : Port) (d : Option Port) (req : Request) (s : State) : Served :=
  match slotIxOf (byteAt req.body 0) with
  | none => refuse s .outOfRange
  | some k =>
    match posterOf s k with
    | none => refuse s .notPoster
    | some q =>
      if q = p then
        let s1 := report d (.posted k) .finish (setPosting k none s)
        answer s1 ⟨.ok, [entryOutcome s1 k]⟩
      else answer s ⟨.notPoster, [Port.code q]⟩

def execUnpost (p : Port) (s : State) : Outcome := serve p (ofKind .unpost) (serveUnpost p) s

/-! ## Suppression thresholds (R115) -/

/-- SET GROUP THRESHOLD (R115). -/
def serveSetGroupThreshold (d : Option Port) (req : Request) (s : State) : Served :=
  let g := (byteAt req.body 0).toNat
  let t := (byteAt req.body 1).toNat
  if h : 1 ≤ g ∧ g ≤ 7 ∧ t ≤ Config.topLevel then
    let s1 := settle d (s.setNotices { s.notices with thresholds := s.notices.thresholds.set (g - 1) t (by omega) })
    answer s1 ⟨.ok, s1.notices.thresholds.toList.map natByte⟩
  else refuse s .outOfRange

def execSetGroupThreshold (p : Port) (s : State) : Outcome :=
  serve p (ofKind .setGroupThreshold) serveSetGroupThreshold s

end Sys2Proof.Machine
end

