-- ==== Sys2Proof/Machine/Delivery.lean ====
section
/-! DEFINITION. The requests of Notice Delivery: fetching, the service level and the summary record (R130 to R134). -/

namespace Sys2Proof.Machine

/-- The count of entries offerable to a port. -/
def offerableCount (s : State) (p : Port) : Nat := (offered s p).length

/-- The poster that a notice record names: that of a posted entry's slot while the slot stays posted (R131). -/
def recordPoster (s : State) (n : Notice) : Option Port :=
  match n.id with
  | .posted k => posterOf s k
  | _ => none

/-- The notice record of an entry for a port (R131, R133, R187). -/
def noticeRecord (s : State) (p : Port) (n : Notice) : List Byte :=
  noticeBytes n (maskOfNotice s n) (recordPoster s n) (n.delivered.get p) (suppressed s n) (offerableCount s p)

/-- An entry marked delivered to a port (R123). -/
def markDelivered (p : Port) (n : Notice) : Notice := { n with delivered := n.delivered.set p true }

/-- FETCH NOTICE without an identity (R131). -/
def serveFetchNotice (p : Port) (d : Option Port) (_req : Request) (s : State) : Served :=
  match mostUrgent s p with
  | none => refuse s .noneOffered
  | some n =>
    let s1 := settle d (updateNotice n.id (markDelivered p) s)
    answer s1 ⟨.ok, noticeRecord s1 p (markDelivered p n)⟩

/-- A FETCH NOTICE without an identity. -/
def isFetch (r : Request) : Bool := ofKind .fetchNotice r && r.body.isEmpty

/-- A FETCH NOTICE with an identity. -/
def isFetchIdentity (r : Request) : Bool := ofKind .fetchNotice r && !r.body.isEmpty

def execFetchNotice (p : Port) (s : State) : Outcome := serve p isFetch (serveFetchNotice p) s

/-- FETCH NOTICE with an identity (R133): it sets no mark and changes no state. -/
def serveFetchNoticeIdentity (p : Port) (_d : Option Port) (req : Request) (s : State) : Served :=
  match noticeIdOf (byteAt req.body 0) (byteAt req.body 1) (byteAt req.body 2) with
  | none => refuse s .outOfRange
  | some id =>
    match findNotice s id with
    | none => refuse s .notFound
    | some n => if (maskOfNotice s n).get p then answer s ⟨.ok, noticeRecord s p n⟩ else refuse s .portProtected

def execFetchNoticeIdentity (p : Port) (s : State) : Outcome :=
  serve p isFetchIdentity (serveFetchNoticeIdentity p) s

/-- A service level above 31 is clamped to 31 (R130). -/
def clampLevel (n : Nat) : Nat := min Config.topLevel n

/-- SET LEVEL (R130). -/
def serveSetLevel (p : Port) (d : Option Port) (req : Request) (s : State) : Served :=
  let n := clampLevel (byteAt req.body 0).toNat
  answer (settle d (s.setPort p { s.port p with level := n })) ⟨.ok, [natByte n]⟩

def execSetLevel (p : Port) (s : State) : Outcome := serve p (ofKind .setLevel) (serveSetLevel p) s

/-- The count of entries in a state. -/
def countIn (s : State) (st : NoticeState) : Nat := (s.notices.entries.filter (fun n => decide (n.state = st))).length

/-- The 13 bytes of the summary record (R134, R187). -/
def summaryRecord (s : State) (p : Port) : List Byte :=
  [natByte (s.port p).level, natByte (offerableCount s p), natByte (countIn s .raised), natByte (countIn s .acked),
    natByte (countIn s .returned), boolByte (s.notices.lost.get p), s.clock.clockState.code, s.scan.scanState.code,
    flagsByte [(s.route .east).linkUp, (s.route .west).linkUp]] ++ send32 s.uptime

/-- READ SUMMARY (R134): the port's lost flag is cleared in the event that reports it. -/
def serveReadSummary (p : Port) (_d : Option Port) (_req : Request) (s : State) : Served :=
  answer (s.setNotices { s.notices with lost := s.notices.lost.set p false }) ⟨.ok, summaryRecord s p⟩

def execReadSummary (p : Port) (s : State) : Outcome := serve p (ofKind .readSummary) (serveReadSummary p) s

end Sys2Proof.Machine
end

