-- ==== Sys2Proof/Machine/PointBus.lean ====
section
/-! DEFINITION. The Point Bus Controller: how a transaction is composed and run beat by beat, the module classes, and direct
transfers (R61 to R82). -/

namespace Sys2Proof.Machine

/-! ## Composition (R64, R69, R71) -/

/-- The four words of a line read in beat order: from w to the end of its block, then from the block's start (R71). -/
def lineOrder (w : Nat) : List Nat := [0, 1, 2, 3].map (fun k => 4 * (w / 4) + (w % 4 + k) % 4)

/-- A transaction on a module under its class as it stands at the grant (R63, R64, R74). -/
def newTransaction (s : State) (who : Requester) (kind : TxKind) (m : ModIx) (beats : List Beat) (needed : List Nat) :
    Transaction where
  requester := who
  kind := kind
  modAddr := m
  clsNo := s.classNoOf m
  cls := s.classOf m
  beats := beats
  needed := needed
  pos := 0
  delivered := []
  answered := 0
  failure := none
  inhibited := false
  exchangeWrite := false
  discarded := false

def readBeat (a : Nat) : Beat := ⟨a, none⟩

/-- The kind and addresses of a read of a register (R22, R51). -/
def readPlan (bw : BusWidth) (w : Width) (offset : Byte) : TxKind × List Nat :=
  match bw, w with
  | .w8, .byte => (.singleRead, [offset.toNat])
  | .w8, .word => (.doubleRead, [offset.toNat, offset.toNat + 1])
  | .w16, _ => (.singleRead, [wordNo offset])

/-- A read of a register; none where it cannot be addressed under its module's class (R51). -/
def composeRead (s : State) (who : Requester) (m : ModIx) (w : Width) (offset : Byte) : Option Transaction :=
  if addressable (s.classOf m).width w offset then
    let plan := readPlan (s.classOf m).width w offset
    some (newTransaction s who plan.1 m (plan.2.map readBeat) plan.2)
  else none

/-- A line read from a start word with its needed words (R71). -/
def composeLine (s : State) (who : Requester) (m : ModIx) (w : Nat) (needed : List Nat) : Transaction :=
  newTransaction s who .lineRead m ((lineOrder w).map readBeat) needed

/-- A byte of a word, alone in the low half. -/
def lowHalf (v : Word16) : Word16 := (lowByte v).setWidth 16

/-- The kind and beats of a write of a register, with the lane placement of R69. -/
def writePlan (bw : BusWidth) (w : Width) (offset : Byte) (v : Word16) : TxKind × List Beat :=
  match bw, w with
  | .w8, .byte => (.singleWrite, [⟨offset.toNat, some (lowHalf v)⟩])
  | .w8, .word =>
    (.doubleWrite, [⟨offset.toNat, some (lowHalf v)⟩, ⟨offset.toNat + 1, some ((highByte v).setWidth 16)⟩])
  | .w16, .byte => (.singleWrite, [⟨wordNo offset, some (if isOdd offset then (lowByte v).append 0#8 else lowHalf v)⟩])
  | .w16, .word => (.singleWrite, [⟨wordNo offset, some v⟩])

/-- A write of a register; none where it cannot be addressed under its module's class (R80, R150). -/
def composeWrite (s : State) (who : Requester) (m : ModIx) (w : Width) (offset : Byte) (v : Word16) : Option Transaction :=
  if addressable (s.classOf m).width w offset then
    let plan := writePlan (s.classOf m).width w offset v
    some (newTransaction s who plan.1 m plan.2 [])
  else none

/-- The controller takes a transaction: the bus is ACTIVE (R64). -/
def beginTransaction (t : Transaction) (s : State) : State :=
  s.setBus { s.bus with busState := .active, inFlight := some t }

/-! ## The beat (R65 to R68, R70 to R73) -/

/-- Whether a beat of a class can end at a clock with these lines (R65): not in the settle phase, not past 16 × T, and without
ANSWER or ERROR only at 16 × T. -/
def beatCanEnd (c : ClassRecord) (clock : Nat) (answer error : Bool) : Bool :=
  decide (c.settle < clock) && decide (clock ≤ 16 * c.timeout) && (answer || error || decide (clock = 16 * c.timeout))

/-- The outcome of a beat at its ending clock: none is answered (R66). -/
def beatOutcome (answer error : Bool) : Option FailReason :=
  if error then some .error else if answer then none else some .timeout

/-- The data taken from the lines of an answered read beat: the low 8 for an 8-bit class (R66). -/
def takenData (bw : BusWidth) (data : Word16) : Word16 :=
  match bw with
  | .w8 => lowHalf data
  | .w16 => data

/-- What a transaction holds after an answered beat: a needed word read is delivered (R71), and a first line beat answered with
BURST-INHIBIT leaves the needed words not yet delivered, in wrap order (R72). -/
def answeredBeat (t : Transaction) (b : Beat) (inhibit : Bool) (data : Word16) : Transaction :=
  let t1 := { t with
    answered := t.answered + 1
    delivered := if b.data = none ∧ b.addr ∈ t.needed then t.delivered ++ [(b.addr, takenData t.cls.width data)] else t.delivered }
  if t.kind = .lineRead ∧ t.pos = 0 ∧ inhibit then
    { t1 with inhibited := true, beats := b :: (t.beats.drop 1).filter (fun x => decide (x.addr ∈ t.needed)) }
  else t1

/-- The item of the Actuator Unit's tenure given up with its results: its actuator's in flight becomes no (R157). -/
def dropRunning (s : State) : State :=
  match s.acts.running with
  | none => s
  | some x => (setInFlight x.item.target .no s).setRunning none

/-- The results of a transaction whose tenure ends with nothing for the requester to take: the tenure, a locked tenure, the read
in flight and the actuator's in flight are closed (R87, R89, R157), and the Actuator Unit asks for the bus again while items remain
(R87, R138). -/
def closeTenure (s : State) : State :=
  let s1 := s.setBus { s.bus with ended := none }
  let s2 := s1.setArb { s1.arb with tenure := none, locked := .closed }
  requestActuator (dropRunning (s2.setScan { s2.scan with inFlight := none }))

/-- Whether a supervision restart waits for the transaction in flight (R181 step 1). -/
def restartRunning (s : State) : Bool :=
  match s.restart with
  | .running _ => true
  | _ => false

/-- A transaction ends: recovery begins (R68), and its results wait for the requester, or are discarded by a restart (R89,
R157). -/
def endTransaction (t : Transaction) (s : State) : State :=
  let s1 := s.setBus { s.bus with
    inFlight := none
    ended := some t
    busState := if t.cls.recovery = 0 then .idle else .recovery
    recovery := t.cls.recovery }
  if restartRunning s then closeTenure s1 else s1

/-- A beat of the transaction in flight ends: the next follows or the transaction ends (R66, R67). -/
def endBeat (t : Transaction) (b : Beat) (answer error inhibit : Bool) (data : Word16) (s : State) : State :=
  match beatOutcome answer error with
  | some why => endTransaction { t with failure := some why } s
  | none =>
    let t1 := answeredBeat t b inhibit data
    if t1.pos + 1 < t1.beats.length then s.setBus { s.bus with inFlight := some { t1 with pos := t1.pos + 1 } }
    else endTransaction t1 s

/-- BEAT_END (R65 to R67). -/
def execBeatEnd (clock : Nat) (answer error inhibit : Bool) (data : Word16) (s : State) : Outcome :=
  match s.bus.inFlight with
  | none => event false id s
  | some t =>
    match t.beats[t.pos]? with
    | none => event false id s
    | some b => event (beatCanEnd t.cls clock answer error) (endBeat t b answer error inhibit data) s

/-- BUS_RECOVERY_END (R68): the recovery remaining reaches 0 and the bus state becomes IDLE. -/
def execBusRecoveryEnd (s : State) : Outcome :=
  event (decide (s.bus.busState = .recovery)) (fun s => s.setBus { s.bus with busState := .idle, recovery := 0 }) s

/-! ## Module classes (R75 to R77) -/

/-- SET MODULE CLASS (R75). -/
def serveSetModuleClass (_d : Option Port) (req : Request) (s : State) : Served :=
  match classIxOf (byteAt req.body 0), classRecordOf req.body with
  | some k, some c =>
    answer (s.setBus { s.bus with classes := s.bus.classes.set k.val c k.isLt }) ⟨.ok, natByte k.val :: classBytes c⟩
  | _, _ => refuse s .outOfRange

def execSetModuleClass (p : Port) (s : State) : Outcome := serve p (ofKind .setModuleClass) serveSetModuleClass s

/-- ASSIGN MODULE CLASS (R76). -/
def serveAssignModuleClass (_d : Option Port) (req : Request) (s : State) : Served :=
  match modIxOf (byteAt req.body 0), classIxOf (byteAt req.body 1) with
  | some m, some k =>
    answer (s.setBus { s.bus with map := s.bus.map.set m.val k m.isLt }) ⟨.ok, [natByte m.val, natByte k.val]⟩
  | _, _ => refuse s .outOfRange

def execAssignModuleClass (p : Port) (s : State) : Outcome :=
  serve p (ofKind .assignModuleClass) serveAssignModuleClass s

/-- READ MODULE CLASSES (R77). -/
def serveReadModuleClasses (_d : Option Port) (_req : Request) (s : State) : Served :=
  answer s ⟨.ok, s.bus.classes.toList.flatMap classBytes ++ s.bus.map.toList.map (fun k => natByte k.val)
    ++ [s.bus.busState.code, s.clock.clockState.code]⟩

def execReadModuleClasses (p : Port) (s : State) : Outcome :=
  serve p (ofKind .readModuleClasses) serveReadModuleClasses s

/-! ## Direct transfers (R78 to R81) -/

/-- A direct transfer: its module, offset and width, and the value of a write. -/
structure DirectJob where
  modAddr : ModIx
  offset : Byte
  width : DirectWidth
  value : Option Word16
  deriving DecidableEq, Repr

/-- The transfer that a READ MODULE carries; none where check 1 of R78 refuses it. -/
def readJobOf (b : List Byte) : Option DirectJob := do
  let m ← modIxOf (byteAt b 0)
  let w ← directWidthOf (byteAt b 2)
  pure ⟨m, byteAt b 1, w, none⟩

/-- The transfer that a WRITE MODULE carries; none where check 1 of R78 refuses it. -/
def writeJobOf (b : List Byte) : Option DirectJob := do
  let m ← modIxOf (byteAt b 0)
  let w ← directWidthOf (byteAt b 2)
  let v := word16At b 3
  if w = .line ∨ (w = .byte ∧ 255 < v.toNat) then none else some ⟨m, byteAt b 1, w, some v⟩

/-- The transfer of a direct request. -/
def jobOf (r : Request) : Option DirectJob :=
  match kindOf r.kind with
  | some .readModule => readJobOf r.body
  | some .writeModule => writeJobOf r.body
  | _ => none

/-- Check 2 of R78: the module lies in the route port's direct window; the Hut Port has none. -/
def windowAdmits (s : State) (p : Port) (m : ModIx) : Bool :=
  match routeOf p with
  | none => true
  | some r =>
    match (s.route r).window with
    | none => false
    | some (f, l) => decide (f ≤ m) && decide (m ≤ l)

/-- The transaction of a transfer under the class as it stands; none where the address cannot be served (R79, R80). -/
def composeDirect (s : State) (p : Port) (j : DirectJob) : Option Transaction :=
  match j.value, j.width with
  | some v, .byte => composeWrite s (.direct p) j.modAddr .byte j.offset v
  | some v, .word => composeWrite s (.direct p) j.modAddr .word j.offset v
  | some _, .line => none
  | none, .byte => composeRead s (.direct p) j.modAddr .byte j.offset
  | none, .word => composeRead s (.direct p) j.modAddr .word j.offset
  | none, .line =>
    if (s.classOf j.modAddr).width = .w16 ∧ (s.classOf j.modAddr).lineReads = true ∧ isOdd j.offset = false then
      some (composeLine s (.direct p) j.modAddr (wordNo j.offset) (lineOrder (wordNo j.offset)))
    else none

/-- A port's direct bus request, placed or taken away (R84). -/
def setDirectWaiting (p : Port) (b : Bool) (s : State) : State :=
  s.setArb { s.arb with waiting := { s.arb.waiting with direct := s.arb.waiting.direct.set p b } }

/-- READ MODULE and WRITE MODULE: the checks of R78; a request that passes places the port's direct bus request and holds the
executor. -/
def serveDirect (p : Port) (_d : Option Port) (req : Request) (s : State) : Served :=
  match jobOf req with
  | none => refuse s .outOfRange
  | some j =>
    if !windowAdmits s p j.modAddr then refuse s .portProtected
    else if (composeDirect s p j).isNone then refuse s .outOfRange
    else (setDirectWaiting p true s, none)

def execReadModule (p : Port) (s : State) : Outcome := serve p (ofKind .readModule) (serveDirect p) s

def execWriteModule (p : Port) (s : State) : Outcome := serve p (ofKind .writeModule) (serveDirect p) s

/-- The result of a transaction: OK, or the result of its failure. -/
def txResult (t : Transaction) : Result := (t.failure.map FailReason.result).getD .ok

/-- The first five bytes after the summary of a direct response (R184). -/
def directHead (t : Transaction) (j : DirectJob) : List Byte :=
  [natByte j.modAddr.val, j.offset, j.width.code, natByte t.clsNo.val, t.cls.width.code]

/-- The value of a direct BYTE or WORD read: NATURAL order (R79). -/
def directValue (t : Transaction) (w : Width) (offset : Byte) : Option Word16 :=
  rawWordOf t.cls.width w .natural offset t.delivered

/-- The four word entries of a direct line read in beat order: word number, delivered flag, value (R79, R184). DESIGN CHOICE: the
spec gives the delivered flag no code; it is 1 for a delivered word and 0 otherwise (notes/assumptions/31.md). -/
def lineEntries (t : Transaction) (w : Nat) : List Byte :=
  (lineOrder w).flatMap (fun a =>
    [natByte a, boolByte (deliveredAt t.delivered a).isSome] ++ sendOpt send16 [0, 0] (deliveredAt t.delivered a))

/-- The body of a direct response after the summary (R79, R80, R184): a failed BYTE or WORD read carries no value.
DESIGN CHOICE: the spec gives the burst-inhibit flag of a LINE response no code; it is 1 where the module signalled burst inhibit
and 0 otherwise (notes/assumptions/31.md). -/
def directBody (t : Transaction) (j : DirectJob) : List Byte :=
  directHead t j ++
    (match j.value, j.width with
    | some _, _ => [natByte t.answered]
    | none, .line => boolByte t.inhibited :: lineEntries t (wordNo j.offset)
    | none, .byte => if t.failure.isSome then [] else sendOpt send16 [] (directValue t .byte j.offset)
    | none, .word => if t.failure.isSome then [] else sendOpt send16 [] (directValue t .word j.offset))

/-- The response of a completed direct transfer, formed from the request that the executor holds. -/
def respondDirect (p : Port) (t : Transaction) (s : State) : State :=
  match (s.port p).executor with
  | .serving req =>
    match jobOf req with
    | none => s
    | some j => respond p ⟨txResult t, directBody t j⟩ s
  | _ => s

/-- The tenure of a direct requester ends and its results are taken (R79 to R81, R87). -/
def completeDirect (p : Port) (t : Transaction) (s : State) : State :=
  let s1 := s.setBus { s.bus with ended := none }
  let s2 := s1.setArb { s1.arb with tenure := none }
  if t.discarded then s2 else respondDirect p t s2

/-- DIRECT_TRANSFER_COMPLETION (R79, R80). -/
def execDirectTransferCompletion (s : State) : Outcome :=
  match s.bus.ended with
  | none => event false id s
  | some t =>
    match t.requester with
    | .direct p => event true (completeDirect p t) s
    | _ => event false id s

end Sys2Proof.Machine
end

