-- ==== Sys2Proof/Machine/Scanning.lean ====
section
/-! DEFINITION. The Scanner: cycles, the walk of the scan list, the reads it composes and completes, and its requests (R43 to
R60). -/

namespace Sys2Proof.Machine

/-! ## Cycles (R46, R50, R54, R55) -/

/-- The Scanner's bus request, placed or withdrawn; a withdrawal sets the scanner wait count to 0 (R84). -/
def setScannerWaiting (b : Bool) (s : State) : State :=
  s.setArb { s.arb with
    waiting := { s.arb.waiting with scanner := b }
    scannerWait := if b then s.arb.scannerWait else 0 }

/-- A cycle starts (R46): the held start is cleared, the walk begins at the first entry, and the period timer restarts with the
effective period. -/
def beginCycle (s : State) : State :=
  s.setScan { s.scan with
    heldStart := false
    cycleState := .walking
    passed := []
    ahead := s.scan.list
    periodTimer := some (effectivePeriod s) }

/-- Whether an entry due in the cycle stands at or after the walk position (R50). -/
def anyDueAhead (s : State) : Bool := s.scan.ahead.any (isDue s)

/-- The overrun ends, and the end of SCAN_OVERRUN is reported (R55). -/
def endOverrun (d : Option Port) (s : State) : State :=
  if s.scan.overrun then
    reportActivity d (.internal .scanOverrun) false (s.setScan { s.scan with overrun := false })
  else s

/-- A cycle completes (R50): the cycle state becomes IDLE, the walk position the end of the list, and the cycle number rises by
1; the overrun stays active only if a held start is set in RUNNING (R55). -/
def completeCycle (d : Option Port) (s : State) : State :=
  let s1 := s.setScan { s.scan with
    cycleState := .idle
    passed := s.scan.list
    ahead := []
    cycleNumber := s.scan.cycleNumber + 1 }
  if s.scan.heldStart ∧ s.scan.scanState = .running then s1 else endOverrun d s1

/-- A due entry is asked for, or the cycle completes; nothing follows a completion here. -/
def walkOnce (d : Option Port) (s : State) : State :=
  if anyDueAhead s then setScannerWaiting true s else completeCycle d s

/-- R50: while WALKING with no read in flight, no bus request pending and no tenure, the Scanner asks for the bus if a due entry
stands ahead, else the cycle completes and a held start starts the next one at once. -/
def walk (d : Option Port) (s : State) : State :=
  if s.scan.cycleState = .walking ∧ s.scan.inFlight = none ∧ s.arb.waiting.scanner = false ∧ s.arb.tenure ≠ some .scanner then
    if anyDueAhead s then setScannerWaiting true s
    else
      let s1 := completeCycle d s
      if s1.scan.heldStart then walkOnce d (beginCycle s1) else s1
  else s

/-- A cycle starts and the walk begins (R46, R50). -/
def startCycle (d : Option Port) (s : State) : State := walk d (beginCycle s)

/-- PERIOD_TIMER_EXPIRY (R46, R54): a start, or, while a cycle walks, a held start with the overrun. -/
def periodExpired (s : State) : State :=
  if s.scan.cycleState = .idle then startCycle none s
  else
    let s1 := s.setScan { s.scan with heldStart := true, periodTimer := none }
    if s.scan.overrun then s1
    else reportActivity none (.internal .scanOverrun) true (s1.setScan { s1.scan with overrun := true })

def execPeriodTimerExpiry (s : State) : Outcome := event s.scan.periodTimer.expired periodExpired s

/-! ## Requests (R44, R45, R47, R56 to R58) -/

/-- The scan state and the cycle state, as START SCAN and STOP SCAN answer them. -/
def scanAnswer (s : State) : Served := answer s ⟨.ok, [s.scan.scanState.code, s.scan.cycleState.code]⟩

/-- START SCAN (R44). -/
def serveStartScan (d : Option Port) (_req : Request) (s : State) : Served :=
  if s.scan.scanState = .running then scanAnswer s
  else if s.scan.cycleState = .idle then scanAnswer (startCycle d (s.setScan { s.scan with scanState := .running }))
  else scanAnswer (s.setScan { s.scan with scanState := .running, heldStart := true })

def execStartScan (s : State) : Outcome := serve .hut (ofKind .startScan) serveStartScan s

/-- STOP SCAN (R45): the overrun ends at once if no cycle is in progress. -/
def serveStopScan (d : Option Port) (_req : Request) (s : State) : Served :=
  if s.scan.scanState = .stopped then scanAnswer s
  else
    let s1 := s.setScan { s.scan with scanState := .stopped, periodTimer := none, heldStart := false }
    scanAnswer (if s1.scan.cycleState = .idle then endOverrun d s1 else s1)

def execStopScan (s : State) : Outcome := serve .hut (ofKind .stopScan) serveStopScan s

/-- The scan period is clamped to 50..10,000 ms (R47). -/
def clampPeriod (n : Nat) : Nat := min 10000 (max 50 n)

/-- SET SCAN PERIOD (R47). -/
def serveSetScanPeriod (_d : Option Port) (req : Request) (s : State) : Served :=
  let n := clampPeriod (word16At req.body 0).toNat
  answer (s.setScan { s.scan with period := n }) ⟨.ok, sendNat16 n⟩

def execSetScanPeriod (p : Port) (s : State) : Outcome := serve p (ofKind .setScanPeriod) serveSetScanPeriod s

/-- An index appended at the tail of the scan list: it stands ahead of the walk while a cycle walks, else the walk position stays
at the end (R43, R56). -/
def appendScan (i : PointIx) (x : Scanner) : Scanner :=
  match x.cycleState with
  | .walking => { x with ahead := x.ahead ++ [i] }
  | .idle => { x with passed := x.passed ++ [i] }

/-- SCAN ADD (R36, R56). -/
def serveScanAdd (d : Option Port) (req : Request) (s : State) : Served :=
  let i := pointIxOf (byteAt req.body 0)
  let e := s.point i
  match e.state with
  | .undefined => refuse s .notDefined
  | .scanned _ => refuse s .inUse
  | .defined desc =>
    let s1 := (s.setPoint i { e with state := .scanned desc, scanMark := true }).setScan (appendScan i s.scan)
    let n := s1.scan.list.length
    answer (walk d s1) ⟨.ok, natByte (n - 1) :: sendNat16 n⟩

def execScanAdd (p : Port) (s : State) : Outcome := serve p (ofKind .scanAdd) serveScanAdd s

/-- An index taken out of the list; the entry that a read in flight serves is marked as having left (R53, R57). -/
def removeScan (i : PointIx) (x : Scanner) : Scanner :=
  { x with
    passed := x.passed.filter (fun j => decide (j ≠ i))
    ahead := x.ahead.filter (fun j => decide (j ≠ i))
    inFlight := x.inFlight.map (fun es => es.map (fun e => if e.point = i then { e with left := true } else e)) }

/-- A record whose point leaves the scan list: GOOD becomes STALE (R36). -/
def leftLive (l : LiveRecord) : LiveRecord := if l.quality = .good then { l with quality := .stale } else l

/-- SCAN REMOVE (R36, R57). -/
def serveScanRemove (_d : Option Port) (req : Request) (s : State) : Served :=
  let i := pointIxOf (byteAt req.body 0)
  let e := s.point i
  match e.state with
  | .undefined => refuse s .notDefined
  | .defined _ => refuse s .notFound
  | .scanned desc =>
    let s1 := (s.setPoint i { e with state := .defined desc, live := leftLive e.live }).setScan (removeScan i s.scan)
    answer s1 ⟨.ok, sendNat16 s1.scan.list.length⟩

def execScanRemove (p : Port) (s : State) : Outcome := serve p (ofKind .scanRemove) serveScanRemove s

/-- READ SCAN LIST (R58). -/
def serveReadScanList (_d : Option Port) (req : Request) (s : State) : Served :=
  let l := s.scan.list
  answer s ⟨.ok, [s.scan.scanState.code, s.scan.cycleState.code] ++ send16 s.scan.cycleNumber ++ sendNat16 s.scan.period
    ++ sendNat16 (effectivePeriod s) ++ [boolByte s.scan.overrun] ++ sendNat16 l.length
    ++ ((l.drop (byteAt req.body 0).toNat).take 120).map pointByte⟩

def execReadScanList (p : Port) (s : State) : Outcome := serve p (ofKind .readScanList) serveReadScanList s

/-! ## Composition at a grant (R51, R52) -/

/-- Whether the point's address can be read under its module's present class. -/
def isReadable (s : State) (d : Descriptor) : Bool := addressable (s.classOf d.modAddr).width d.width d.offset

/-- What the examination of R51 finds: the due entries with unreadable addresses, and the lead entry with the entries after
it. -/
structure Examined where
  unreadable : List PointIx
  lead : Option (PointIx × Descriptor × List PointIx)
  deriving DecidableEq, Repr

/-- The entries examined from the walk position in list order (R51, steps 1 to 3). -/
def examine (s : State) : List PointIx → Examined
  | [] => ⟨[], none⟩
  | i :: rest =>
    match s.descOf i with
    | none => examine s rest
    | some d =>
      if !isDue s i then examine s rest
      else if isReadable s d then ⟨[], some (i, d, rest)⟩
      else
        let x := examine s rest
        ⟨i :: x.unreadable, x.lead⟩

/-- Whether a due entry stops the grouping: another module, a word outside the block, or an unreadable address (R52). -/
def inBlock (s : State) (m : ModIx) (block : Nat) (d : Descriptor) : Bool :=
  decide (d.modAddr = m) && decide (wordNo d.offset / 4 = block) && isReadable s d

/-- The due entries that follow the lead and are included: at most `n` due entries are examined, and the first that does not fit
stops the grouping (R52). -/
def includedAfter (s : State) (m : ModIx) (block : Nat) : Nat → List PointIx → List PointIx
  | 0, _ => []
  | _ + 1, [] => []
  | n + 1, i :: rest =>
    match s.descOf i with
    | none => includedAfter s m block (n + 1) rest
    | some d =>
      if !isDue s i then includedAfter s m block (n + 1) rest
      else if inBlock s m block d then i :: includedAfter s m block n rest
      else []

/-- The word that an entry uses. -/
def wordUsed (s : State) (i : PointIx) : Nat := ((s.descOf i).map (fun d => wordNo d.offset)).getD 0

/-- The distinct words that a list of entries uses. -/
def neededWords (s : State) (l : List PointIx) : List Nat := (l.map (wordUsed s)).dedup

/-- The transaction for a lead entry and the entries it serves (R51, R52); the lead's address is readable. -/
def composeScan (s : State) (e : PointIx) (d : Descriptor) (rest : List PointIx) : Option Transaction × List PointIx :=
  if (s.classOf d.modAddr).width = .w16 ∧ (s.classOf d.modAddr).lineReads = true then
    let served := e :: includedAfter s d.modAddr (wordNo d.offset / 4) 3 rest
    if 2 ≤ (neededWords s served).length then
      (some (composeLine s .scanner d.modAddr (wordNo d.offset) (neededWords s served)), served)
    else (composeRead s .scanner d.modAddr d.width d.offset, served)
  else (composeRead s .scanner d.modAddr d.width d.offset, [e])

/-- The walk position moved past an entry: the entries up to it are passed. -/
def passThrough (i : PointIx) (x : Scanner) : Scanner :=
  let k := x.ahead.idxOf i + 1
  { x with passed := x.passed ++ x.ahead.take k, ahead := x.ahead.drop k }

/-- The walk position moved to the end of the list. -/
def passAll (x : Scanner) : Scanner := { x with passed := x.list, ahead := [] }

/-- The tenure of the granted requester ended with nothing run (R64, R87). -/
def dropGrant (s : State) : State := s.setArb { s.arb with tenure := none }

/-- The Scanner's grant (R51): unreadable due entries take failed samples with reason ADDRESS, then the transaction for the lead
entry is handed to the controller, or the grant ends and the cycle completes. -/
def grantScanner (s : State) : State :=
  let x := examine s s.scan.ahead
  let s1 := x.unreadable.foldl (fun s i => takeSample none i (.failed .address) s) s
  match x.lead with
  | none => walk none (dropGrant (s1.setScan (passAll s1.scan)))
  | some (e, d, rest) =>
    match composeScan s e d rest with
    | (none, _) => walk none (dropGrant (s1.setScan (passAll s1.scan)))
    | (some t, served) =>
      let y := passThrough (served.getLastD e) s1.scan
      beginTransaction t (s1.setScan { y with inFlight := some (served.map (fun i => ⟨i, false⟩)) })

/-! ## Completion (R53) -/

/-- The sample of an entry from a transaction's results: good where all it needs was delivered, else failed with the reason of
the failed beat (R22, R53, R70, R73). -/
def sampleFrom (t : Transaction) (d : Descriptor) : Sample :=
  match rawWordOf t.cls.width d.width d.order d.offset t.delivered with
  | some raw => .good raw
  | none => .failed (t.failure.getD .timeout)

/-- One served entry takes its sample, unless it has left the list (R53). -/
def handOver (t : Transaction) (s : State) (e : ServedEntry) : State :=
  if e.left then s
  else
    match s.descOf e.point with
    | none => s
    | some d => takeSample none e.point (sampleFrom t d) s

/-- The read in flight completes: samples in list order, then the walk goes on (R50, R53). -/
def completeRead (t : Transaction) (s : State) : State :=
  let s1 := dropGrant (s.setBus { s.bus with ended := none })
  let s2 := (s.scan.inFlight.getD []).foldl (handOver t) s1
  walk none (s2.setScan { s2.scan with inFlight := none })

/-- READ_COMPLETION (R53). -/
def execReadCompletion (s : State) : Outcome :=
  match s.bus.ended with
  | none => event false id s
  | some t => event (decide (t.requester = .scanner)) (completeRead t) s

end Sys2Proof.Machine
end

