-- ==== Sys2Proof/Machine/Actuators.lean ====
section
/-! DEFINITION. The Actuator Unit: its requests, its grants, and the completion of its writes and exchanges (R136 to R157). -/

namespace Sys2Proof.Machine

/-! ## Definition (R139 to R142) -/

/-- Check 2 of R139: the entry is held, or a transaction of it is in flight. -/
def actuatorInUse (s : State) (i : ActIx) : Bool :=
  (s.actuator i).holder.isSome || decide ((s.actuator i).inFlight ≠ .no)

/-- Check 3 of R139: a present feedback point is defined. -/
def feedbackDefined (s : State) (d : ActDescriptor) : Bool :=
  match d.feedback with
  | none => true
  | some j => (s.descOf j).isSome

/-- Check 4 of R139: the address can be written under the class of the module as it stands. -/
def actuatorAddressable (s : State) (d : ActDescriptor) : Bool := addressable (s.classOf d.modAddr).width d.width d.offset

/-- Step 1 of R140: a set FAULT is cleared, and its end reported. -/
def clearFault (d : Option Port) (i : ActIx) (s : State) : State :=
  if (s.actuator i).fault then report d (.actuator i) .finish (s.setActuator i { s.actuator i with fault := false }) else s

/-- Step 4 of R140: a HELD actuator's timer starts and its safe value is queued. -/
def startHeld (i : ActIx) (new : ActDescriptor) (s : State) : State :=
  if new.kind = .held then queuePolicy (nextMoment s) i (restartRefresh i s) else s

/-- The effects of an accepted DEFINE ACTUATOR, in the order of R140. -/
def acceptActuator (d : Option Port) (i : ActIx) (new : ActDescriptor) (s : State) : State :=
  let s1 := dropPending i (clearFault d i s)
  let s2 := settle d (s1.setActuator i { ActuatorEntry.initial with desc := some new })
  startHeld i new s2

/-- DEFINE ACTUATOR (R139, R140). -/
def serveDefineActuator (d : Option Port) (req : Request) (s : State) : Served :=
  match actIxOf (byteAt req.body 0), actDescriptorOf (req.body.drop 1) with
  | some i, some new =>
    let s1 := takeExpiry i s
    if actuatorInUse s1 i then refuse s1 .inUse
    else if !feedbackDefined s1 new || !actuatorAddressable s1 new then refuse s1 .badLimits
    else answer (acceptActuator d i new s1) ⟨.ok, natByte i.val :: actDescriptorBytes new⟩
  | _, _ => refuse s .outOfRange

def execDefineActuator (p : Port) (s : State) : Outcome := serve p (ofKind .defineActuator) serveDefineActuator s

/-- The effects of an accepted UNDEFINE ACTUATOR, in the order of R141. -/
def acceptUndefineActuator (d : Option Port) (i : ActIx) (s : State) : State :=
  settle d ((dropPending i (removeNotice (.actuator i) s)).setActuator i ActuatorEntry.initial)

/-- UNDEFINE ACTUATOR (R141). -/
def serveUndefineActuator (d : Option Port) (req : Request) (s : State) : Served :=
  match actIxOf (byteAt req.body 0) with
  | none => refuse s .outOfRange
  | some i =>
    let s1 := takeExpiry i s
    if (s1.actuator i).desc = none then refuse s1 .notDefined
    else if actuatorInUse s1 i then refuse s1 .inUse
    else answer (acceptUndefineActuator d i s1) (bare .ok)

def execUndefineActuator (p : Port) (s : State) : Outcome :=
  serve p (ofKind .undefineActuator) serveUndefineActuator s

/-- READ ACTUATOR (R142). -/
def serveReadActuator (_d : Option Port) (req : Request) (s : State) : Served :=
  match actIxOf (byteAt req.body 0) with
  | none => refuse s .outOfRange
  | some i =>
    let s1 := takeExpiry i s
    match (s1.actuator i).desc with
    | none => answer s1 ⟨.ok, [0]⟩
    | some desc =>
      answer s1 ⟨.ok, 1 :: actDescriptorBytes desc ++ actLiveBytes i s1.acts.workList (s1.actuator i)⟩

def execReadActuator (p : Port) (s : State) : Outcome := serve p (ofKind .readActuator) serveReadActuator s

/-! ## Claims (R143 to R145) -/

/-- The columns of R143. -/
inductive ActRequest where
  | claim
  | exchange
  | command
  | release
  deriving DecidableEq, Repr

/-- CLAIM and EXCHANGE can take a claim; COMMAND and RELEASE need one. -/
def ActRequest.claims : ActRequest → Bool
  | .claim => true
  | .exchange => true
  | .command => false
  | .release => false

/-- COMMAND and EXCHANGE carry a value. -/
def ActRequest.carriesValue : ActRequest → Bool
  | .claim => false
  | .exchange => true
  | .command => true
  | .release => false

/-- Checks 2 to 8 of R143 for a request of port p on actuator i with value v: the refusal, if one applies. -/
def checkActuator (s : State) (p : Port) (k : ActRequest) (i : ActIx) (v : Word16) : Option Reply :=
  match (s.actuator i).desc with
  | none => some (bare .notDefined)
  | some d =>
    if k = .exchange ∧ d.feedback = none then some (bare .noFeedback)
    else if k.claims ∧ d.portMask.get p = false then some (bare .portProtected)
    else if k.claims ∧ isRoute p ∧ siteAsserted s then some (bare .siteLocal)
    else if k.claims ∧ (s.actuator i).holder ≠ none ∧ (s.actuator i).holder ≠ some p then
      some ⟨.heldBy, claimPart i (s.actuator i)⟩
    else if k.claims = false ∧ (s.actuator i).holder ≠ some p then some ⟨.notHolder, claimPart i (s.actuator i)⟩
    else if k.carriesValue ∧ d.maxValue.toNat < v.toNat then some (bare .outOfRange)
    else none

/-- An actuator request with the checks of R143; `accept` is what follows when all pass. -/
def serveActuator (p : Port) (k : ActRequest) (v : Word16) (req : Request) (accept : ActIx → State → Served) (s : State) :
    Served :=
  match actIxOf (byteAt req.body 0) with
  | none => refuse s .outOfRange
  | some i =>
    let s1 := takeExpiry i s
    match checkActuator s1 p k i v with
    | some r => answer s1 r
    | none => accept i s1

/-- The lease is clamped to 1..3,600 s (R144). -/
def clampLease (n : Nat) : Nat := min 3600 (max 1 n)

/-- A claim taken or renewed for an applied lease (R144). -/
def takeClaim (i : ActIx) (p : Port) (lease : Nat) (s : State) : State :=
  s.setActuator i { s.actuator i with holder := some p, lease := lease }

/-- CLAIM (R144). -/
def serveClaim (p : Port) (_d : Option Port) (req : Request) (s : State) : Served :=
  serveActuator p .claim 0 req (fun i s =>
    let s1 := takeClaim i p (clampLease (word16At req.body 1).toNat) s
    answer s1 ⟨.ok, claimPart i (s1.actuator i)⟩) s

def execClaim (p : Port) (s : State) : Outcome := serve p (ofKind .claim) (serveClaim p) s

/-- RELEASE (R145). -/
def serveRelease (p : Port) (_d : Option Port) (req : Request) (s : State) : Served :=
  serveActuator p .release 0 req (fun i s =>
    let s1 := endClaim (nextMoment s) i s
    answer s1 ⟨.ok, claimPart i (s1.actuator i)⟩) s

def execRelease (p : Port) (s : State) : Outcome := serve p (ofKind .release) (serveRelease p) s

/-! ## Commands and exchanges (R149, R151) -/

/-- An item with its value joins the work list, and the unit asks for the bus (R138, R149). -/
def queueItem (i : ActIx) (v : Word16) (w : WorkItem) (s : State) : State :=
  let s1 := s.setActuator i { s.actuator i with requested := some v }
  requestActuator (s1.setWorkList (s1.acts.workList ++ [w]))

/-- COMMAND (R149): accepted, it holds the executor. -/
def serveCommand (p : Port) (_d : Option Port) (req : Request) (s : State) : Served :=
  let v := word16At req.body 1
  serveActuator p .command v req (fun i s => (queueItem i v (.command p i v) s, none)) s

def execCommand (p : Port) (s : State) : Outcome := serve p (ofKind .command) (serveCommand p) s

/-- The lease that an EXCHANGE leaves (R151): on a free actuator 60 s for a lease of 0; on one held by the port a lease of 0
leaves what remained. -/
def exchangeLease (e : ActuatorEntry) (n : Nat) : Nat :=
  if n = 0 then (if e.holder = none then 60 else e.lease) else clampLease n

/-- EXCHANGE (R151): accepted, it claims or renews and holds the executor. -/
def serveExchange (p : Port) (_d : Option Port) (req : Request) (s : State) : Served :=
  let v := word16At req.body 1
  serveActuator p .exchange v req (fun i s =>
    let s1 := takeClaim i p (exchangeLease (s.actuator i) (word16At req.body 3).toNat) s
    (queueItem i v (.exchange p i v) s1, none)) s

def execExchange (p : Port) (s : State) : Outcome := serve p (ofKind .exchange) (serveExchange p) s

/-! ## The items at a grant (R150, R153) -/

/-- The actuator of a POLICY WRITE. -/
def policyOf : WorkItem → Option ActIx
  | .policy i => some i
  | _ => none

/-- The actuator of a REFRESH. -/
def refreshOf : WorkItem → Option ActIx
  | .refresh i => some i
  | _ => none

def isExchange : WorkItem → Bool
  | .exchange _ _ _ => true
  | _ => false

/-- Among items of one sort: queued earlier, or at an equal moment with the lower actuator index (R153). -/
def queuedBefore (q : Vector Nat 32) (i j : ActIx) : Bool :=
  decide (q.get i < q.get j) || (decide (q.get i = q.get j) && decide (i < j))

/-- The actuator of a list whose item was queued first. -/
def firstQueued (q : Vector Nat 32) : List ActIx → Option ActIx
  | [] => none
  | i :: rest =>
    match firstQueued q rest with
    | none => some i
    | some j => if queuedBefore q j i then some j else some i

/-- The first item of the work list by the order of R153: a POLICY WRITE, else a REFRESH, else the COMMAND or EXCHANGE accepted
first. -/
def firstItem (u : ActuatorUnit) : Option WorkItem :=
  match firstQueued u.moments.queuedAt (u.workList.filterMap policyOf) with
  | some i => some (.policy i)
  | none =>
    match firstQueued u.moments.queuedAt (u.workList.filterMap refreshOf) with
    | some i => some (.refresh i)
    | none => u.workList.head?

/-- The port whose executor holds on an item. -/
def WorkItem.port : WorkItem → Option Port
  | .policy _ => none
  | .refresh _ => none
  | .command p _ _ => some p
  | .exchange p _ _ => some p

/-- The value that an item writes (R149, R154, R155). -/
def WorkItem.value (d : ActDescriptor) (e : ActuatorEntry) : WorkItem → Word16
  | .policy _ => d.safeValue
  | .refresh _ => e.output.getD d.safeValue
  | .command _ _ v => v
  | .exchange _ _ v => v

/-- The port whose ATTENTION decision waits for the item's response, if the response is wanted and finds room (R124). -/
def itemDeferral (s : State) (x : RunningItem) : Option Port :=
  if x.answer then x.item.port.bind (deferral s) else none

/-- The response of an item's request, where one is wanted (R148, R149). -/
def respondItem (x : RunningItem) (reply : Reply) (s : State) : State :=
  if x.answer then
    match x.item.port with
    | none => s
    | some p => respond p reply s
  else s

/-! ## Exchanges: the feedback read (R152) -/

/-- The feedback point of an actuator with its descriptor. -/
def feedbackOf (s : State) (i : ActIx) : Option (PointIx × Descriptor) := do
  let a ← (s.actuator i).desc
  let j ← a.feedback
  let d ← s.descOf j
  pure (j, d)

/-- The feedback read under the point's module class as it stands; none where the address is unreadable (R152). -/
def composeFeedback (s : State) (i : ActIx) : Option Transaction := do
  let x ← feedbackOf s i
  composeRead s .actuatorUnit x.2.modAddr x.2.width x.2.offset

/-- The reason of a failed sample. -/
def Sample.failure : Sample → Option FailReason
  | .good _ => none
  | .failed why => some why

/-- The raw word and the converted value that an exchange reports; 0 for a failed read (R39, R152). -/
def readReport (s : State) (i : ActIx) (x : Sample) : Word16 × Int :=
  match x, feedbackOf s i with
  | .good raw, some (_, d) => (raw, converted d raw)
  | _, _ => (0, 0)

/-- The result of an exchange: the write's failure first, then the read's (R152). -/
def exchangeResult (write read : Option FailReason) : Result :=
  match write, read with
  | some w, _ => w.result
  | none, some r => r.result
  | none, none => .ok

/-- The tenure of an exchange ends and the locked tenure closes (R88). -/
def closeLocked (s : State) : State := s.setArb { s.arb with tenure := none, locked := .closed }

/-- The sample of the feedback point, taken as an ordinary sample (R39, R152). -/
def takeFeedback (d : Option Port) (i : ActIx) (x : Sample) (s : State) : State :=
  match feedbackOf s i with
  | none => s
  | some (j, _) => takeSample d j x s

/-- An exchange completes: its tenure ends, the feedback sample is taken, in flight becomes no, and the response is placed with
the outcomes of both parts (R152). -/
def finishExchange (x : RunningItem) (o : WriteOutcome) (sample : Sample) (s : State) : State :=
  let i := x.item.target
  let s1 := takeExpiry i ((setInFlight i .no (closeLocked s)).setRunning none)
  let rep := readReport s1 i sample
  let s2 := takeFeedback (itemDeferral s1 x) i sample s1
  requestActuator (respondItem x ⟨exchangeResult o.failure sample.failure,
    exchangePart i (s2.actuator i) x.value o.beats sample.failure rep.1 rep.2⟩ s2)

/-- The feedback read of an exchange begins; an unreadable address gives a failed sample and no transaction (R88, R152). -/
def beginFeedback (x : RunningItem) (o : WriteOutcome) (s : State) : State :=
  match composeFeedback s x.item.target with
  | some t => beginTransaction t (s.setRunning (some { x with outcome := some o }))
  | none => finishExchange x o (.failed .address) s

/-! ## The unit's grant (R150, R152, R153) -/

/-- The item's write handed to the controller: in flight becomes WRITE or EXCHANGE, and an exchange opens the locked tenure
(R88, R150, R152). -/
def beginWrite (x : RunningItem) (t : Transaction) (s : State) : State :=
  let s1 := (setInFlight x.item.target (if isExchange x.item then .exchange else .write) s).setRunning (some x)
  let s2 := if isExchange x.item then s1.setArb { s1.arb with locked := .first } else s1
  beginTransaction { t with exchangeWrite := isExchange x.item } s2

/-- An item that is no exchange and whose write cannot be composed: it fails with reason ADDRESS, and the grant ends with no
transaction (R150). -/
def failWrite (x : RunningItem) (s : State) : State :=
  let i := x.item.target
  let s1 := dropGrant s
  let s2 := writeOutcome (itemDeferral s1 x) x.item i x.value (some .address) s1
  requestActuator (respondItem x ⟨.outOfRange, commandPart i (s2.actuator i) x.value 0⟩ s2)

/-- An exchange whose write cannot be composed: the write fails with reason ADDRESS, no locked tenure opens, and the feedback
read is composed at the same grant (R152). -/
def failExchangeWrite (x : RunningItem) (s : State) : State :=
  let i := x.item.target
  let d := if (composeFeedback s i).isSome then none else itemDeferral s x
  beginFeedback x ⟨some .address, 0⟩ (setInFlight i .exchange (writeOutcome d x.item i x.value (some .address) s))

/-- The transaction of an item composed at the grant (R150). -/
def runItem (w : WorkItem) (d : ActDescriptor) (s : State) : State :=
  let x : RunningItem := ⟨w, w.value d (s.actuator w.target), true, none⟩
  match composeWrite s .actuatorUnit d.modAddr d.width d.offset x.value with
  | some t => beginWrite x t s
  | none => if isExchange w then failExchangeWrite x s else failWrite x s

/-- The unit's grant: the first item leaves the list and is run; an empty list ends the grant (R153). -/
def grantActuator (s : State) : State :=
  match firstItem s.acts with
  | none => dropGrant s
  | some w =>
    let s1 := s.setWorkList (s.acts.workList.erase w)
    match (s.actuator w.target).desc with
    | none => requestActuator (dropGrant s1)
    | some d => runItem w d s1

/-! ## Completions (R149, R152) -/

def TxKind.isWrite : TxKind → Bool
  | .singleWrite => true
  | .doubleWrite => true
  | _ => false

/-- The ended transaction whose results the unit is to take, with its item: a write where `write` is true, else a feedback
read. -/
def unitEnded (s : State) (write : Bool) : Option (Transaction × RunningItem) :=
  match s.bus.ended, s.acts.running with
  | some t, some x => if t.requester = .actuatorUnit ∧ t.kind.isWrite = write then some (t, x) else none
  | _, _ => none

/-- The results of the ended transaction taken. -/
def takeEnded (s : State) : State := s.setBus { s.bus with ended := none }

/-- The write of an exchange completes: its outcome updates the actuator, and the tenure goes on to the feedback read (R88,
R152). -/
def completeExchangeWrite (t : Transaction) (x : RunningItem) (s : State) : State :=
  (writeOutcome none x.item x.item.target x.value t.failure (takeEnded s)).setRunning
    (some { x with outcome := some ⟨t.failure, t.answered⟩ })

/-- The write of a COMMAND, REFRESH or POLICY WRITE completes: the tenure ends, the outcome updates the actuator, and a COMMAND
is answered (R149). -/
def completeItemWrite (t : Transaction) (x : RunningItem) (s : State) : State :=
  let i := x.item.target
  let s1 := takeExpiry i ((setInFlight i .no (dropGrant (takeEnded s))).setRunning none)
  let s2 := writeOutcome (itemDeferral s1 x) x.item i x.value t.failure s1
  requestActuator (respondItem x ⟨txResult t, commandPart i (s2.actuator i) x.value t.answered⟩ s2)

/-- ACTUATOR_WRITE_COMPLETION (R149, R152). -/
def execActuatorWriteCompletion (s : State) : Outcome :=
  match unitEnded s true with
  | none => event false id s
  | some (t, x) => event true (if t.exchangeWrite then completeExchangeWrite t x else completeItemWrite t x) s

/-- The sample that the feedback read gives (R22, R152). -/
def feedbackSample (s : State) (i : ActIx) (t : Transaction) : Sample :=
  match feedbackOf s i with
  | none => .failed .address
  | some (_, d) => sampleFrom t d

/-- EXCHANGE_READ_COMPLETION (R152). -/
def execExchangeReadCompletion (s : State) : Outcome :=
  match unitEnded s false with
  | none => event false id s
  | some (t, x) =>
    event true (fun s =>
      finishExchange x (x.outcome.getD ⟨none, 0⟩) (feedbackSample s x.item.target t) (takeEnded s)) s

/-! ## Timers (R146, R154, R180) -/

/-- One tick lowers a lease by 1 (R146). -/
def tickEntry (e : ActuatorEntry) : ActuatorEntry := { e with lease := e.lease - 1 }

/-- The moment that a second tick opens (notes/assumptions/10.md). -/
def tickMoments (m : Moments) : Moments := { m with now := m.now + 1, ticked := m.now + 1 }

/-- SECOND_TICK (R146, R180): the uptime rises by 1, wrapping, and every lease falls by 1. -/
def execSecondTick (s : State) : Outcome :=
  event true (fun s =>
    { s with
      uptime := s.uptime + 1
      acts := { s.acts with entries := s.acts.entries.map tickEntry, moments := tickMoments s.acts.moments } }) s

/-- LEASE_EXPIRY (R146, R147). -/
def execLeaseExpiry (index : Nat) (s : State) : Outcome :=
  if h : index < 32 then event (expiryDue s ⟨index, h⟩) (takeExpiry ⟨index, h⟩) s else event false id s

/-- REFRESH_TIMER_EXPIRY (R154): the timer restarts, and a REFRESH is queued if nothing is pending. -/
def execRefreshTimerExpiry (index : Nat) (s : State) : Outcome :=
  if h : index < 32 then
    event (s.actuator ⟨index, h⟩).refreshTimer.expired (fun s => queueRefresh ⟨index, h⟩ (restartRefresh ⟨index, h⟩ s)) s
  else event false id s

end Sys2Proof.Machine
end

