-- ==== Sys2Proof/Machine/Arbitration.lean ====
section
/-! DEFINITION. The Point Bus Arbiter: the choice of a free grant, the grant to each requester, and the reserved grant (R83 to
R88). -/

namespace Sys2Proof.Machine

/-- Whether any requester waits. -/
def anyWaiting (w : WaitingSet) : Bool := w.actuatorUnit || w.scanner || w.direct.east || w.direct.west || w.direct.hut

/-- The conditions of R85. A supervision restart that waits for the transaction in flight has a tenure, but where its tenure has
closed first no grant is made until its steps have run (notes/assumptions/12.md). A restart that is due, its SUPERVISION_RESTART
not yet taken, holds back no grant: DESIGN CHOICE (notes/assumptions/29.md). -/
def grantReady (s : State) : Bool :=
  anyWaiting s.arb.waiting && decide (s.arb.tenure = none) && decide (s.bus.busState = .idle)
    && decide (s.arb.locked = .closed) && !s.arb.grantHold && !restartRunning s

/-- The requester that the rows of R86 name. -/
def chosen (a : Arbiter) : Option Requester :=
  if a.waiting.scanner ∧ Config.scannerGuard ≤ a.scannerWait then some .scanner
  else if a.waiting.actuatorUnit then some .actuatorUnit
  else
    match a.rotation.find? a.waiting.direct.get with
    | some p => some (.direct p)
    | none => if a.waiting.scanner then some .scanner else none

/-- A requester taken out of the waiting set. -/
def WaitingSet.without (w : WaitingSet) : Requester → WaitingSet
  | .actuatorUnit => { w with actuatorUnit := false }
  | .direct p => { w with direct := w.direct.set p false }
  | .scanner => { w with scanner := false }

/-- The rotation order after a grant: a direct requester goes to the back (R86). -/
def rotationAfter (rotation : List Port) : Requester → List Port
  | .direct p => rotation.filter (fun q => decide (q ≠ p)) ++ [p]
  | _ => rotation

/-- The scanner wait count after a grant (R86). -/
def scannerWaitAfter (a : Arbiter) : Requester → Nat
  | .scanner => 0
  | _ => if a.waiting.scanner then a.scannerWait + 1 else a.scannerWait

/-- The arbiter's own changes at a free grant (R86, R87). -/
def granted (a : Arbiter) (who : Requester) : Arbiter :=
  { a with
    waiting := a.waiting.without who
    tenure := some who
    rotation := rotationAfter a.rotation who
    scannerWait := scannerWaitAfter a who }

/-- The grant to a direct requester: its transaction is composed from the request that the executor holds, or the request is
answered OUT_OF_RANGE and the grant ends (R78). -/
def grantDirect (p : Port) (s : State) : State :=
  match (s.port p).executor with
  | .serving req =>
    match jobOf req with
    | none => dropGrant s
    | some j =>
      match composeDirect s p j with
      | some t => beginTransaction t s
      | none => respond p (bare .outOfRange) (dropGrant s)
  | _ => dropGrant s

/-- The requester composes its transaction and hands it over (R64, R87). -/
def composeFor (who : Requester) (s : State) : State :=
  match who with
  | .actuatorUnit => grantActuator s
  | .direct p => grantDirect p s
  | .scanner => grantScanner s

/-- A free grant (R85 to R87). Claims whose lease the tick has taken to 0 have ended (R146). -/
def freeGrant (s : State) : State :=
  let s1 := takeExpiries s
  match chosen s1.arb with
  | none => s1
  | some who => composeFor who (s1.setArb (granted s1.arb who))

/-- FREE_GRANT (R85, R86). -/
def execFreeGrant (s : State) : Outcome := event (grantReady s) freeGrant s

/-- The item of an exchange whose write has completed, with the outcome. -/
def exchangeBetween (s : State) : Option (RunningItem × WriteOutcome) := do
  let x ← s.acts.running
  let o ← x.outcome
  pure (x, o)

/-- Whether the reserved grant is due: the locked tenure is FIRST, its write has completed, and the bus is idle (R88). -/
def reservedReady (s : State) : Bool :=
  decide (s.arb.locked = .first) && decide (s.bus.busState = .idle) && decide (s.bus.ended = none) && !restartRunning s

/-- The arbiter's own changes at a reserved grant: SECOND, and a grant to another than the Scanner (R86, R88). -/
def reserve (a : Arbiter) : Arbiter := { a with locked := .second, scannerWait := scannerWaitAfter a .actuatorUnit }

/-- RESERVED_GRANT (R88, R152). -/
def execReservedGrant (s : State) : Outcome :=
  match exchangeBetween s with
  | none => event false id s
  | some (x, o) => event (reservedReady s) (fun s => beginFeedback x o (s.setArb (reserve s.arb))) s

end Sys2Proof.Machine
end

