-- ==== Sys2Proof/Machine/HutLink.lean ====
section
/-! DEFINITION. The Hut Link Unit: referrals, the restart of the hut controller, and the hut silence (R158 to R168). -/

namespace Sys2Proof.Machine

/-! ## Referral slots (R159, R164) -/

/-- The record of an occupied slot. -/
def ReferralSlot.record : ReferralSlot → Option Referral
  | .free => none
  | .untaken r _ => some r
  | .taken r _ => some r
  | .answered r _ => some r

/-- The age timer of a slot. -/
def ReferralSlot.age : ReferralSlot → Timer
  | .untaken _ t => t
  | .taken _ t => t
  | _ => none

/-- The age of an occupied slot: the making order minus its `made`, modulo 2^32 (R159). -/
def referralAge (s : State) (r : Referral) : Nat := (s.link.makingOrder - r.made).toNat

/-- The slot of lowest `made`, that is of greatest age, among those that `sel` picks (R159). -/
def oldestSlot (s : State) (sel : ReferralSlot → Bool) : Option ReferralIx :=
  slotIndices.foldl (fun best k =>
    match (s.slot k).record with
    | none => best
    | some r =>
      if sel (s.slot k) then
        match best.bind (fun j => (s.slot j).record) with
        | none => some k
        | some q => if referralAge s q < referralAge s r then some k else best
      else best) none

/-- The answer of a referral placed in the origin port's output queue, freeing its slot, or held in it for room (R164). -/
def placeAnswer (k : ReferralIx) (r : Referral) (result : Byte) (body : List Byte) (s : State) : State :=
  if hasRoom s (toPort r.origin) then
    (placeResponse (toPort r.origin) r.kind r.tag result body .response s).setSlot k .free
  else s.setSlot k (.answered r ⟨result, body⟩)

/-- NO_ANSWER to the origin of an UNTAKEN or TAKEN slot (R163, R165). -/
def answerNoAnswer (s : State) (k : ReferralIx) : State :=
  match s.slot k with
  | .untaken r _ => placeAnswer k r Result.noAnswer.code [] s
  | .taken r _ => placeAnswer k r Result.noAnswer.code [] s
  | _ => s

/-! ## Referral (R160) -/

/-- A referral fills a FREE slot: the making order rises, the slot becomes UNTAKEN and its age timer starts at 10 s. -/
def fillSlot (k : ReferralIx) (r : RoutePort) (req : Request) (s : State) : State :=
  let m := s.link.makingOrder + 1
  let s1 := s.setLink { s.link with makingOrder := m }
  s1.setSlot k (.untaken ⟨r, req.tag, req.kind, req.body, m⟩ (some Config.ageTime))

/-- REFERRAL with the checks in the order of R160; the executor is IDLE as soon as the request is referred. -/
def serveReferral (r : RoutePort) (_d : Option Port) (req : Request) (s : State) : Served :=
  if Config.referralBodyMax < req.body.length then refuse s .malformed
  else if s.link.pulse then refuse s .noAnswer
  else
    match slotIndices.find? (fun k => (s.slot k).isFree) with
    | none => refuse s .busy
    | some k => ((fillSlot k r req s).setExecutor (toPort r) .idle, none)

def execReferral (r : RoutePort) (s : State) : Outcome :=
  serve (toPort r) (fun q => isReferred q.kind) (serveReferral r) s

/-- TAKE REFERRAL (R161): the oldest UNTAKEN slot becomes TAKEN with its age timer running on. -/
def serveTakeReferral (_d : Option Port) (_req : Request) (s : State) : Served :=
  match oldestSlot s ReferralSlot.isUntaken with
  | none => refuse s .notFound
  | some k =>
    match s.slot k with
    | .untaken r age =>
      let s1 := s.setSlot k (.taken r age)
      answer s1 ⟨.ok, referralBytes k r (age.getD 0) (untakenCount s1)⟩
    | _ => refuse s .notFound

def execTakeReferral (s : State) : Outcome := serve .hut (ofKind .takeReferral) serveTakeReferral s

/-- ANSWER REFERRAL (R162). -/
def serveAnswerReferral (_d : Option Port) (req : Request) (s : State) : Served :=
  match referralIxOf (byteAt req.body 0) with
  | none => refuse s .outOfRange
  | some k =>
    if Config.lastResultCode < (byteAt req.body 1).toNat then refuse s .outOfRange
    else
      match s.slot k with
      | .taken r _ =>
        answer (placeAnswer k r (byteAt req.body 1) (req.body.drop 2) s)
          ⟨.ok, [natByte k.val, RoutePort.code r.origin, r.tag, r.kind, boolByte (hasRoom s (toPort r.origin))]⟩
      | _ => refuse s .stale

def execAnswerReferral (s : State) : Outcome := serve .hut (ofKind .answerReferral) serveAnswerReferral s

/-- REFERRAL_TIMEOUT (R163): the age timer of an UNTAKEN or TAKEN slot has reached 0 and expires. -/
def execReferralTimeout (slot : Nat) (s : State) : Outcome :=
  if h : slot < 4 then event (s.slot ⟨slot, h⟩).age.expired (fun s => answerNoAnswer s ⟨slot, h⟩) s else event false id s

/-! ## Restart of the hut controller (R165, R166) -/

/-- Step 1 of R165: the pulse starts. Step 6: the silence timer stops. -/
def startPulse (s : State) : State :=
  s.setLink { s.link with pulse := true, hcrst := true, pulseTimer := some Config.pulseTime, silenceTimer := none }

/-- Step 2 of R165: the Hut Port's queues are emptied, its request abandoned, and its partly sent frame given up. -/
def clearHutPort (s : State) : State :=
  s.setPort .hut { s.port .hut with requests := [], executor := .idle, output := [], transmitter := .idle }

/-- A transaction of DIRECT-HUT with its response to be discarded. -/
def discardHut (t : Transaction) : Transaction := if t.requester = .direct .hut then { t with discarded := true } else t

/-- Step 3 of R165: the DIRECT-HUT request is withdrawn, or completes with its response discarded (R81). -/
def withdrawHutDirect (s : State) : State :=
  let s1 := setDirectWaiting .hut false s
  s1.setBus { s1.bus with inFlight := s1.bus.inFlight.map discardHut, ended := s1.bus.ended.map discardHut }

/-- The item of the unit's tenure with the response of a hut request taken away (R148). -/
def muteHut (x : RunningItem) : RunningItem := if isItemOf .hut x.item then { x with answer := false } else x

/-- Step 4 of R165: waiting hut items leave the work list without a response, one in flight completes without one, and every
claim of HUT ends (R148). -/
def endHutClaims (s : State) : State :=
  let s1 := s.setWorkList (s.acts.workList.filter (fun w => !isItemOf .hut w))
  endClaims (nextMoment s) (fun p => decide (p = .hut)) (s1.setRunning (s1.acts.running.map muteHut))

/-- The start of the pulse: the steps of R165. -/
def restartHut (s : State) : State :=
  slotIndices.foldl answerNoAnswer (endHutClaims (withdrawHutDirect (clearHutPort (startPulse s))))

/-- RESTART HUT CONTROLLER (R165): the OK is placed, or waits for room, and the pulse starts without waiting for it
(notes/assumptions/13.md). -/
def serveRestartHut (r : RoutePort) (_d : Option Port) (_req : Request) (s : State) : Served :=
  if s.link.pulse then refuse s .busy else (restartHut (respond (toPort r) (bare .ok) s), none)

def execRestartHutController (r : RoutePort) (s : State) : Outcome :=
  serve (toPort r) (ofKind .restartHutController) (serveRestartHut r) s

/-- PULSE_TIMER_EXPIRY (R166). -/
def execPulseTimerExpiry (s : State) : Outcome :=
  event s.link.pulseTimer.expired (fun s => s.setLink { s.link with
    pulse := false
    hcrst := false
    pulseTimer := none
    silenceTimer := some Config.silenceTime }) s

/-! ## Hut silence (R167) -/

/-- SILENCE_TIMER_EXPIRY (R167): taken once the silence timer has reached 0, so not after a valid frame has restarted it. -/
def execSilenceTimerExpiry (s : State) : Outcome :=
  event s.link.silenceTimer.expired (fun s =>
    reportActivity none (.internal .hutSilent) true (s.setLink { s.link with silenceTimer := none, silence := true })) s

/-- A valid frame on the Hut Port (R167): the timer restarts, and an active silence ends with its report. -/
def validHutFrame (s : State) : State :=
  let s1 := s.setLink { s.link with silenceTimer := some Config.silenceTime, silence := false }
  if s.link.silence then reportActivity none (.internal .hutSilent) false s1 else s1

end Sys2Proof.Machine
end

