-- ==== Sys2Proof/WellFormed.lean ====
section
/-! DEFINITION. Which commands name something the part has. An ill-formed command names an actuator, a slot, a clock or a byte
count that does not exist; the part does nothing with it (notes/assumptions/1.md). -/

namespace Sys2Proof

/-- The command names an actuator that exists (R136). -/
def actuatorInRange (index : Nat) : Bool := decide (index < Config.actuators)

/-- The command names a referral slot that exists (R158). -/
def slotInRange (slot : Nat) : Bool := decide (slot < Config.referralSlots)

/-- A beat ends at a clock from 1 to 16 × 255 (R62, R65). -/
def clockInRange (clock : Nat) : Bool := decide (1 ≤ clock) && decide (clock ≤ 4080)

/-- No more bytes 0x00 go out on MISO than bytes are clocked in (R176). -/
def fillInRange (mosi : List Byte) (fill : Nat) : Bool := decide (fill ≤ mosi.length)

/-- The well-formedness check of a command. -/
def Instr.wellFormed : Instr → Bool
  | .leaseExpiry i => actuatorInRange i
  | .refreshTimerExpiry i => actuatorInRange i
  | .referralTimeout k => slotInRange k
  | .beatEnd c _ _ _ _ => clockInRange c
  | .chipSelectRelease m n => fillInRange m n
  | .powerOnReset | .porRelease _ _ | .routeFrameComplete _ _ | .interByteTimeout _ | .framingError _ | .linkTimeout _
  | .frameSent _ | .definePoint _ | .setLimits _ | .undefinePoint _ | .readPoint _ | .readPoints _ | .findTag _
  | .forcePoint _ | .unforcePoint _ | .clearAsserted _ | .startScan | .stopScan | .setScanPeriod _ | .scanAdd _
  | .scanRemove _ | .readScanList _ | .setModuleClass _ | .assignModuleClass _ | .readModuleClasses _ | .readModule _
  | .writeModule _ | .setEconomy | .ackNotice _ | .post _ | .unpost _ | .setGroupThreshold _ | .fetchNotice _
  | .fetchNoticeIdentity _ | .setLevel _ | .readSummary _ | .defineActuator _ | .undefineActuator _ | .readActuator _
  | .claim _ | .release _ | .command _ | .exchange _ | .takeReferral | .answerReferral | .referral _
  | .restartHutController _ | .setPermissions | .setSitePoints | .identify _ | .restartSupervision _
  | .supervisionRestart | .supervisionRestartSteps | .freeGrant | .reservedGrant | .busRecoveryEnd | .readCompletion
  | .periodTimerExpiry | .handoverBegin | .handoverEnd | .actuatorWriteCompletion | .exchangeReadCompletion
  | .directTransferCompletion | .secondTick | .pulseTimerExpiry | .silenceTimerExpiry | .rxdByte _ _ => true

end Sys2Proof
end

