-- ==== Sys2Proof/Machine/Ports.lean ====
section
/-! DEFINITION. The Master Ports: receivers, the checks of a frame, transmitters, link states, and the requests that the ports
themselves serve (R169 to R180). -/

namespace Sys2Proof.Machine

/-! ## Link state (R177) -/

/-- The LINK_LOSS condition of a route port (R116). -/
def linkLoss : RoutePort → NoticeId
  | .east => .internal .linkLossEast
  | .west => .internal .linkLossWest

/-- A valid frame on a route port (R177): the timer restarts; a DOWN link turns UP with the end of LINK_LOSS. -/
def validRouteFrame (r : RoutePort) (s : State) : State :=
  let s1 := s.setRoute r { s.route r with linkUp := true, linkTimer := some Config.linkTime }
  if (s.route r).linkUp then s1 else reportActivity none (linkLoss r) false s1

/-- What a valid frame does to the link or to the hut silence, whatever its later outcome (R172). -/
def validFrame (p : Port) (s : State) : State :=
  match routeOf p with
  | none => validHutFrame s
  | some r => validRouteFrame r s

/-- The expiry of a link timer (R177): the link is DOWN, LINK_LOSS starts, and the port's claims end at the present moment. -/
def linkDown (r : RoutePort) (s : State) : State :=
  let s1 := s.setRoute r { s.route r with linkUp := false, linkTimer := none }
  endClaims s.acts.moments.now (fun p => decide (p = toPort r)) (reportActivity none (linkLoss r) true s1)

/-- LINK_TIMEOUT (R177): taken once the link timer has reached 0, so not after a valid frame has restarted it. -/
def execLinkTimeout (r : RoutePort) (s : State) : Outcome := event (s.route r).linkTimer.expired (linkDown r) s

/-! ## The checks of a frame (R172, R173) -/

/-- Check 5: a free place in the request queue, else BUSY (R173). -/
def enqueue (p : Port) (req : Request) (s : State) : State :=
  if (s.port p).requests.length < Config.requestPlaces then
    s.setPort p { s.port p with requests := (s.port p).requests ++ [req] }
  else placeIfRoom p req.kind req.tag .busy s

/-- Checks 2 to 5 of R172 on a valid frame. -/
def checkRequest (p : Port) (req : Request) (s : State) : State :=
  match kindOf req.kind with
  | some k =>
    if !k.fits req.body.length then placeIfRoom p req.kind req.tag .malformed s
    else if !permitted s k p then placeIfRoom p req.kind req.tag .notPermitted s
    else enqueue p req s
  | none =>
    if isReferred req.kind && isRoute p then enqueue p req s else placeIfRoom p req.kind req.tag .unknownKind s

/-- The checks of a whole frame in the order of R172; a frame that fails check 1 is discarded silently. -/
def checkFrame (p : Port) (bytes : List Byte) (s : State) : State :=
  if crcMatches bytes then checkRequest p (requestOf bytes) (validFrame p s) else s

/-! ## Route port receivers (R170) -/

/-- The receiver of a port, set. -/
def setReceiver (p : Port) (x : Receiver) (s : State) : State := s.setPort p { s.port p with receiver := x }

/-- A byte of a frame in progress: LEN, a further byte, or the last CRC byte, at which the frame is complete (R170). -/
def takeFrameByte (p : Port) (bytes : List Byte) (s : State) : State :=
  if bytes.length = 2 ∧ lenInRange (byteAt bytes 1) = false then setReceiver p .hunt s
  else if bytes.length < frameLength bytes then setReceiver p (.receiving bytes) s
  else checkFrame p bytes (setReceiver p .hunt s)

/-- A byte from RXD (R170). -/
def takeByte (p : Port) (b : Byte) (s : State) : State :=
  match (s.port p).receiver with
  | .hunt => if b = Config.sync then setReceiver p (.receiving [b]) s else s
  | .receiving bytes => takeFrameByte p (bytes ++ [b]) s

/-- RXD_BYTE (R170). -/
def execRxdByte (r : RoutePort) (b : Byte) (s : State) : Outcome := event true (takeByte (toPort r) b) s

/-- Whether exactly the last CRC byte of a frame is still to come. -/
def lacksLast : Receiver → Bool
  | .hunt => false
  | .receiving bytes => decide (2 ≤ bytes.length) && decide (bytes.length + 1 = frameLength bytes)

/-- ROUTE_FRAME_COMPLETE (R172): the last CRC byte arrives, and the frame is checked (notes/assumptions/6.md). -/
def execRouteFrameComplete (r : RoutePort) (last : Byte) (s : State) : Outcome :=
  event (lacksLast (s.port (toPort r)).receiver) (takeByte (toPort r) last) s

/-- Whether a frame is in progress. -/
def isReceiving : Receiver → Bool
  | .hunt => false
  | .receiving _ => true

/-- INTER_BYTE_TIMEOUT (R170). -/
def execInterByteTimeout (r : RoutePort) (s : State) : Outcome :=
  event (isReceiving (s.port (toPort r)).receiver) (setReceiver (toPort r) .hunt) s

/-- FRAMING_ERROR (R170): the byte is discarded, and a frame in progress abandoned. -/
def execFramingError (r : RoutePort) (s : State) : Outcome := event true (setReceiver (toPort r) .hunt) s

/-! ## The Hut Port (R171, R176) -/

/-- What the bytes of a chip-select assertion are judged to be (R171). -/
inductive Assertion where
  | readTransfer
  | frame (bytes : List Byte)
  | mismatch
  deriving DecidableEq, Repr

/-- The judgement of R171. -/
def judge (mosi : List Byte) : Assertion :=
  if mosi.all (fun b => decide (b = 0)) then .readTransfer
  else if byteAt mosi 0 = Config.sync ∧ 2 ≤ mosi.length ∧ lenInRange (byteAt mosi 1) = true ∧ frameLength mosi ≤ mosi.length
      ∧ (mosi.drop (frameLength mosi)).all (fun b => decide (b = 0)) = true then
    .frame (mosi.take (frameLength mosi))
  else .mismatch

/-- A transmitter after n further bytes: it keeps its place, and is idle once the last byte has gone (R176). -/
def advanceTransmitter (n : Nat) : Transmitter → Transmitter
  | .idle => .idle
  | .sending bytes pos => if pos + n < bytes.length then .sending bytes (pos + n) else .idle

/-- The hut transmitter once n bytes more have been clocked: one byte goes out on MISO for each byte clocked in (R176). -/
def hutTransmitter (n : Nat) (s : State) : Transmitter := advanceTransmitter n (s.port .hut).transmitter

/-- The byte that goes out on MISO with the next byte clocked in, once n bytes more have been clocked: of the frame in
transmission, else the first of the frame that waits, else 0x00 (R176, R182). -/
def misoByte (n : Nat) (s : State) : Byte :=
  match hutTransmitter n s with
  | .sending bytes pos => byteAt bytes pos
  | .idle => if (s.port .hut).output.isEmpty then 0 else Config.sync

/-- The release of chip select: as many bytes have gone out on MISO as were clocked in (R176), those of the frames that began in
the assertion and the 0x00 bytes before them being accounted for; and the assertion is judged, or during a restart pulse discarded
unjudged (R166, R171). -/
def releaseChipSelect (mosi : List Byte) (fill : Nat) (s : State) : State :=
  let s1 := s.setPort .hut { s.port .hut with
    transmitter := hutTransmitter (mosi.length - (s.port .hut).clocked - fill) s
    clocked := 0 }
  if s.link.pulse then s1
  else
    match judge mosi with
    | .frame bytes => checkFrame .hut bytes s1
    | _ => s1

/-- Whether an assertion has the bytes it is said to have: those accounted for when its last frame began, and the 0x00 bytes before
that frame, none where no frame began in it (R176, notes/assumptions/7.md). -/
def assertionFits (mosi : List Byte) (fill : Nat) (s : State) : Bool :=
  decide ((s.port .hut).clocked + fill ≤ mosi.length) && (decide ((s.port .hut).clocked ≠ 0) || decide (fill = 0))

/-- CHIP_SELECT_RELEASE (R171). -/
def execChipSelectRelease (mosi : List Byte) (fill : Nat) (s : State) : Outcome :=
  event (fillInRange mosi fill && assertionFits mosi fill s) (releaseChipSelect mosi fill) s

/-! ## Transmitters (R128, R164, R174, R176) -/

/-- A held answer of a port. -/
def isAnsweredFor (p : Port) : ReferralSlot → Bool
  | .answered r _ => decide (toPort r.origin = p)
  | _ => false

/-- A freed place given to the held answer of lowest `made` of the port (R164). -/
def placeHeld (p : Port) (s : State) : State :=
  match oldestSlot s (isAnsweredFor p) with
  | none => s
  | some k =>
    match s.slot k with
    | .answered r a => placeAnswer k r a.result a.body s
    | _ => s

/-- A freed place given to the executor's response, if one waits, else to held answers (R164, R174). -/
def placeWaiting (p : Port) (s : State) : State :=
  match (s.port p).executor with
  | .waitingForRoom req reply => placeReply p req reply s
  | _ => placeHeld p s

/-- A freed place given first to an owed ATTENTION: the flag is cleared, and a frame placed if S is greater than L (R128). -/
def fillFreed (p : Port) (s : State) : State :=
  match routeOf p with
  | none => placeWaiting p s
  | some r =>
    if (s.route r).attentionOwed then
      let s1 := setOwed r false s
      if (s.route r).lastReported < (s.port p).summary then
        pushFrame p (attentionFrame (s.port p).summary) (s.port p).summary s1
      else placeWaiting p s1
    else placeWaiting p s

/-- How many bytes of the frame in transmission are still to go. -/
def Transmitter.left : Transmitter → Nat
  | .idle => 0
  | .sending bytes pos => bytes.length - pos

/-- A transmission begins, the last byte of the frame before having gone (R176). A route port's line time starts; the Hut Port
accounts for the rest of the frame before and for the first byte, each with a byte clocked in (notes/assumptions/7.md). -/
def beginFrame (p : Port) (bytes : List Byte) (s : State) : State :=
  match routeOf p with
  | some r => (s.setPort p { s.port p with transmitter := .sending bytes 1 }).setRoute r { s.route r with lineTime := 0 }
  | none => s.setPort p { s.port p with
      transmitter := .sending bytes 1
      clocked := (s.port p).clocked + (s.port p).transmitter.left + 1 }

/-- The head frame leaves the output queue for transmission (R176): its first byte is sent, and its place is given away. -/
def sendHead (p : Port) (s : State) : State :=
  match (s.port p).output with
  | [] => s
  | f :: rest =>
    fillFreed p (beginFrame p (frameBytes f.kind f.tag f.body) (s.setPort p { s.port p with output := rest }))

/-- FRAME_SENT (R176). -/
def execFrameSent (p : Port) (s : State) : Outcome := event (!(s.port p).output.isEmpty) (sendHead p) s

/-! ## Settings (R178 to R181) -/

/-- The three settings of a route port replaced (R178). -/
def setPermission (r : RoutePort) (x : Bool × Bool × Option (ModIx × ModIx)) (s : State) : State :=
  s.setRoute r { s.route r with config := x.1, mayRestart := x.2.1, window := x.2.2 }

/-- SET PERMISSIONS (R178). -/
def serveSetPermissions (_d : Option Port) (req : Request) (s : State) : Served :=
  match permissionOf req.body 0, permissionOf req.body 3 with
  | some e, some w =>
    let s1 := setPermission .west w (setPermission .east e s)
    answer s1 ⟨.ok, permissionBytes (s1.route .east) ++ permissionBytes (s1.route .west)⟩
  | _, _ => refuse s .outOfRange

def execSetPermissions (s : State) : Outcome := serve .hut (ofKind .setPermissions) serveSetPermissions s

/-- Whether a reference is absent or names a defined point. -/
def refDefined (s : State) (x : Option PointIx) : Bool :=
  match x with
  | none => true
  | some i => (s.descOf i).isSome

/-- Whether a reference is absent or names a point of the kind asked for. -/
def refOfKind (s : State) (x : Option PointIx) (discrete : Bool) : Bool :=
  match x with
  | none => true
  | some i =>
    match s.descOf i with
    | none => false
    | some d => d.isDiscrete == discrete

/-- The site points replaced, with what a change of each brings about (R179). Clock Control comes first, so that the response to a
command whose claim ends carries the summary after its ECONOMY report (R124, notes/assumptions/28.md). -/
def acceptSitePoints (d : Option Port) (siteLocal trigger : Option PointIx) (s : State) : State :=
  let s1 : State := { s with siteLocal := siteLocal, economyTrigger := trigger }
  let s2 := if trigger ≠ s.economyTrigger then reevaluateClock d s1 else s1
  if siteLocal ≠ s.siteLocal ∧ siteAsserted s2 then endRouteClaims s2 else s2

/-- SET SITE POINTS (R179). -/
def serveSetSitePoints (d : Option Port) (req : Request) (s : State) : Served :=
  let x := sitePointOf req.body 0
  let t := sitePointOf req.body 2
  if !refDefined s x || !refDefined s t then refuse s .notDefined
  else if !refOfKind s x true || !refOfKind s t false then refuse s .badLimits
  else answer (acceptSitePoints d x t s) ⟨.ok, sitePointBytes x ++ sitePointBytes t⟩

def execSetSitePoints (s : State) : Outcome := serve .hut (ofKind .setSitePoints) serveSetSitePoints s

/-- IDENTIFY (R180). -/
def serveIdentify (_d : Option Port) (_req : Request) (s : State) : Served :=
  answer s ⟨.ok, identityBytes s.baud s.uptime⟩

def execIdentify (p : Port) (s : State) : Outcome := serve p (ofKind .identify) serveIdentify s

/-- RESTART SUPERVISION (R181): answered OK; the placing of the OK begins the restart. -/
def serveRestartSupervision (_d : Option Port) (_req : Request) (s : State) : Served := answer s (bare .ok)

def execRestartSupervision (p : Port) (s : State) : Outcome :=
  serve p (ofKind .restartSupervision) serveRestartSupervision s

end Sys2Proof.Machine
end

