-- ==== Sys2Proof/Machine/Restart.lean ====
section
/-! DEFINITION. Power-on reset, the reading of the straps, and supervision restart (R20, R59, R89, R98, R120, R135, R157, R168,
R170, R181). -/

namespace Sys2Proof.Machine

/-! ## Power-on reset (R20, R170) -/

/-- POWER_ON_RESET (R20): every piece of state takes its initial value, and POR stands asserted until POR_RELEASE. The queue of
commands is no part of the chip. -/
def execPowerOnReset (s : State) : Outcome := .next { State.reset with por := true, pending := s.pending }

/-- POR_RELEASE (R170): the straps are read. It happens while POR is asserted, or where no release has read the straps since the
reset (notes/assumptions/3.md). -/
def execPorRelease (baud0 baud1 : Bool) (s : State) : Outcome :=
  if s.por || !s.strapsRead then .next (decideHreq { s with por := false, strapsRead := true, baud := baudOf baud0 baud1 })
  else .next s

/-! ## The start of a supervision restart (R59, R89, R181 step 1) -/

/-- The Scanner abandons the cycle in progress: its request, the held start, the timer and the overrun go, with no report
(R59). -/
def abandonCycle (s : State) : State :=
  let s1 := setScannerWaiting false s
  s1.setScan { s1.scan with heldStart := false, periodTimer := none, overrun := false }

/-- The arbiter at a restart: the Actuator Unit's and the direct requests leave the waiting set, and the rotation order is as
after reset (R89). -/
def arbiterRestart (a : Arbiter) : Arbiter :=
  { a with
    waiting := ⟨false, ⟨false, false, false⟩, false⟩
    scannerWait := 0
    rotation := [.east, .west, .hut] }

/-- Step 1 of R181. With no transaction in flight, results that wait to be taken and a tenure between its transactions end here
(notes/assumptions/12.md). -/
def beginRestart (p : Port) (s : State) : State :=
  let s1 := (abandonCycle s).setWorkList []
  let s2 := (s1.setArb (arbiterRestart s1.arb)).setRestart (.running p)
  if s2.bus.inFlight.isSome then s2 else closeTenure s2

/-- SUPERVISION_RESTART (R181): step 1. The placing of the OK makes the restart due, and this command runs its first step; what else
is taken between the two is DESIGN CHOICE (notes/assumptions/29.md). -/
def execSupervisionRestart (s : State) : Outcome :=
  match s.restart with
  | .due p => event true (beginRestart p) s
  | _ => event false id s

/-! ## Steps 2 to 8 (R181) -/

/-- The frames that a port keeps at step 2: the restart's own OK on the requesting port, which is the last of its kind there. -/
def keptFrames (requester p : Port) (q : List OutFrame) : List OutFrame :=
  if p = requester then ((q.filter (fun f => decide (f.mark = .restartOk))).getLast?).toList else []

/-- Step 2 on one port: its queues are emptied and its executor's request abandoned. Step 3 on it: its level and summary are 0
(R135). -/
def restartPort (requester p : Port) (x : PortState) : PortState :=
  { x with
    requests := []
    executor := .idle
    output := keptFrames requester p x.output
    level := 0
    summary := 0 }

/-- Step 2 on a route port: its link is DOWN with its timer stopped. Step 3 on it: nothing is reported or owed (R135). -/
def restartRoute (x : RouteState) : RouteState :=
  { x with linkUp := false, linkTimer := none, lastReported := 0, attentionOwed := false }

/-- Steps 2 and 3 on the ports and on Notice Delivery. -/
def restartPorts (requester : Port) (s : State) : State :=
  { s with
    ports := ⟨restartPort requester .east s.ports.east, restartPort requester .west s.ports.west,
      restartPort requester .hut s.ports.hut⟩
    routes := ⟨restartRoute s.routes.east, restartRoute s.routes.west⟩ }

/-- Step 3: the Notice Table is emptied, posted slots freed and lost flags cleared; thresholds stay (R120). ECONOMY reported
becomes inactive (R98). -/
def restartNotices (s : State) : State :=
  { s with
    notices := { NoticeTable.initial with thresholds := s.notices.thresholds }
    clock := { s.clock with economyReported := false } }

/-- Step 4 on one entry (R157): no holder, no requested value, no fault; a HELD actuator's timer restarts. -/
def restartEntry (e : ActuatorEntry) : ActuatorEntry :=
  { e with
    holder := none
    lease := 0
    requested := none
    faultCount := 0
    fault := false
    inFlight := .no
    refreshTimer := match e.desc with
      | some d => if d.kind = .held then some d.interval else none
      | none => none }

/-- Step 4 (R157): claims end without the steps of R147, and the SAFE actuators' policy writes are queued in ascending order. -/
def restartActuators (s : State) : State :=
  let s1 := { s with acts := { s.acts with entries := s.acts.entries.map restartEntry, running := none } }
  actIndices.foldl (fun s i => applyPolicy (nextMoment s1) i s) s1

/-- Step 5 (R168): the referral queue is emptied, the silence is inactive, and its timer restarts unless a pulse is in progress;
the end of an active silence is reported. -/
def restartLink (s : State) : State :=
  let s1 := s.setLink { s.link with
    slots := Vector.replicate 4 .free
    silence := false
    silenceTimer := if s.link.pulse then none else some Config.silenceTime
    makingOrder := 0 }
  if s.link.silence then reportActivity none (.internal .hutSilent) false s1 else s1

/-- Step 6 (R20): every live record is reset. -/
def restartPoints (s : State) : State := { s with points := s.points.map (fun e => e.resetRecord e.state) }

/-- Step 7 (R59, R180): cycle number and uptime become 0, and cycle 0 starts if the scan state is RUNNING. -/
def restartScan (s : State) : State :=
  let s1 := { s with
    uptime := 0
    scan := { s.scan with
      cycleNumber := 0
      cycleState := .idle
      passed := s.scan.list
      ahead := []
      inFlight := none } }
  if s1.scan.scanState = .running then startCycle none s1 else s1

/-- Steps 2 to 8 of R181, in order; then the executors resume. -/
def finishRestart (requester : Port) (s : State) : State :=
  let s1 := restartLink (restartActuators (restartNotices (restartPorts requester s)))
  let s2 := restartClock (restartScan (restartPoints s1))
  s2.setRestart .idle

/-- SUPERVISION_RESTART_STEPS (R181): the steps run once no transaction is in flight. -/
def execSupervisionRestartSteps (s : State) : Outcome :=
  match s.restart with
  | .running p => event s.bus.inFlight.isNone (finishRestart p) s
  | _ => event false id s

end Sys2Proof.Machine
end

