-- ==== Sys2Proof/Machine/Dispatch.lean ====
section
/-! DEFINITION. The dispatch of a command to its meaning. -/

namespace Sys2Proof.Machine

def exec (i : Instr) (s : State) : Host.Outcome State Fault Refusal :=
  match i with
  | .powerOnReset => Sys2Proof.Machine.execPowerOnReset s
  | .porRelease baud0 baud1 => Sys2Proof.Machine.execPorRelease baud0 baud1 s
  | .routeFrameComplete r last => Sys2Proof.Machine.execRouteFrameComplete r last s
  | .interByteTimeout r => Sys2Proof.Machine.execInterByteTimeout r s
  | .framingError r => Sys2Proof.Machine.execFramingError r s
  | .chipSelectRelease mosi fill => Sys2Proof.Machine.execChipSelectRelease mosi fill s
  | .linkTimeout r => Sys2Proof.Machine.execLinkTimeout r s
  | .frameSent p => Sys2Proof.Machine.execFrameSent p s
  | .definePoint p => Sys2Proof.Machine.execDefinePoint p s
  | .setLimits p => Sys2Proof.Machine.execSetLimits p s
  | .undefinePoint p => Sys2Proof.Machine.execUndefinePoint p s
  | .readPoint p => Sys2Proof.Machine.execReadPoint p s
  | .readPoints p => Sys2Proof.Machine.execReadPoints p s
  | .findTag p => Sys2Proof.Machine.execFindTag p s
  | .forcePoint p => Sys2Proof.Machine.execForcePoint p s
  | .unforcePoint p => Sys2Proof.Machine.execUnforcePoint p s
  | .clearAsserted p => Sys2Proof.Machine.execClearAsserted p s
  | .startScan => Sys2Proof.Machine.execStartScan s
  | .stopScan => Sys2Proof.Machine.execStopScan s
  | .setScanPeriod p => Sys2Proof.Machine.execSetScanPeriod p s
  | .scanAdd p => Sys2Proof.Machine.execScanAdd p s
  | .scanRemove p => Sys2Proof.Machine.execScanRemove p s
  | .readScanList p => Sys2Proof.Machine.execReadScanList p s
  | .setModuleClass p => Sys2Proof.Machine.execSetModuleClass p s
  | .assignModuleClass p => Sys2Proof.Machine.execAssignModuleClass p s
  | .readModuleClasses p => Sys2Proof.Machine.execReadModuleClasses p s
  | .readModule p => Sys2Proof.Machine.execReadModule p s
  | .writeModule p => Sys2Proof.Machine.execWriteModule p s
  | .setEconomy => Sys2Proof.Machine.execSetEconomy s
  | .ackNotice p => Sys2Proof.Machine.execAckNotice p s
  | .post p => Sys2Proof.Machine.execPost p s
  | .unpost p => Sys2Proof.Machine.execUnpost p s
  | .setGroupThreshold p => Sys2Proof.Machine.execSetGroupThreshold p s
  | .fetchNotice p => Sys2Proof.Machine.execFetchNotice p s
  | .fetchNoticeIdentity p => Sys2Proof.Machine.execFetchNoticeIdentity p s
  | .setLevel p => Sys2Proof.Machine.execSetLevel p s
  | .readSummary p => Sys2Proof.Machine.execReadSummary p s
  | .defineActuator p => Sys2Proof.Machine.execDefineActuator p s
  | .undefineActuator p => Sys2Proof.Machine.execUndefineActuator p s
  | .readActuator p => Sys2Proof.Machine.execReadActuator p s
  | .claim p => Sys2Proof.Machine.execClaim p s
  | .release p => Sys2Proof.Machine.execRelease p s
  | .command p => Sys2Proof.Machine.execCommand p s
  | .exchange p => Sys2Proof.Machine.execExchange p s
  | .takeReferral => Sys2Proof.Machine.execTakeReferral s
  | .answerReferral => Sys2Proof.Machine.execAnswerReferral s
  | .referral r => Sys2Proof.Machine.execReferral r s
  | .restartHutController r => Sys2Proof.Machine.execRestartHutController r s
  | .setPermissions => Sys2Proof.Machine.execSetPermissions s
  | .setSitePoints => Sys2Proof.Machine.execSetSitePoints s
  | .identify p => Sys2Proof.Machine.execIdentify p s
  | .restartSupervision p => Sys2Proof.Machine.execRestartSupervision p s
  | .supervisionRestart => Sys2Proof.Machine.execSupervisionRestart s
  | .supervisionRestartSteps => Sys2Proof.Machine.execSupervisionRestartSteps s
  | .freeGrant => Sys2Proof.Machine.execFreeGrant s
  | .reservedGrant => Sys2Proof.Machine.execReservedGrant s
  | .beatEnd clock answer error burstInhibit data => Sys2Proof.Machine.execBeatEnd clock answer error burstInhibit data s
  | .busRecoveryEnd => Sys2Proof.Machine.execBusRecoveryEnd s
  | .readCompletion => Sys2Proof.Machine.execReadCompletion s
  | .periodTimerExpiry => Sys2Proof.Machine.execPeriodTimerExpiry s
  | .handoverBegin => Sys2Proof.Machine.execHandoverBegin s
  | .handoverEnd => Sys2Proof.Machine.execHandoverEnd s
  | .actuatorWriteCompletion => Sys2Proof.Machine.execActuatorWriteCompletion s
  | .exchangeReadCompletion => Sys2Proof.Machine.execExchangeReadCompletion s
  | .directTransferCompletion => Sys2Proof.Machine.execDirectTransferCompletion s
  | .secondTick => Sys2Proof.Machine.execSecondTick s
  | .leaseExpiry index => Sys2Proof.Machine.execLeaseExpiry index s
  | .refreshTimerExpiry index => Sys2Proof.Machine.execRefreshTimerExpiry index s
  | .referralTimeout slot => Sys2Proof.Machine.execReferralTimeout slot s
  | .pulseTimerExpiry => Sys2Proof.Machine.execPulseTimerExpiry s
  | .silenceTimerExpiry => Sys2Proof.Machine.execSilenceTimerExpiry s
  | .rxdByte r b => Sys2Proof.Machine.execRxdByte r b s

end Sys2Proof.Machine
end

