-- ==== Sys2Proof/Machine/Tick.lean ====
section
/-! DEFINITION. The passing of one millisecond, which is what the block does while no command waits
(notes/assumptions/4.md). -/

namespace Sys2Proof.Machine

/-- A running timer lowered by an amount, to 0 at least. -/
def Timer.lower (n : Nat) (t : Timer) : Timer := t.map (fun x => x - n)

/-- A slot's age timer lowered. -/
def ReferralSlot.lower (n : Nat) : ReferralSlot → ReferralSlot
  | .free => .free
  | .untaken r t => .untaken r (Timer.lower n t)
  | .taken r t => .taken r (Timer.lower n t)
  | .answered r a => .answered r a

/-- The strapped rate in bits a second (R170). -/
def Baud.rate : Baud → Nat
  | .b9600 => 9600
  | .b38400 => 38400
  | .b115200 => 115200

/-- How many bytes of ten bits go out at a rate in so many milliseconds (R170). -/
def lineBytes (b : Baud) (ms : Nat) : Nat := ms * b.rate / 10000

/-- A route transmitter so many milliseconds after the first byte of its frame: idle once the last byte has gone (R176). -/
def drainLine (b : Baud) (ms : Nat) : Transmitter → Transmitter
  | .idle => .idle
  | .sending bytes pos =>
    if max pos (1 + lineBytes b ms) < bytes.length then .sending bytes (max pos (1 + lineBytes b ms)) else .idle

/-- A route port after a millisecond: its link timer is lowered and its line time counts on. -/
def tickRoute (x : RouteState) : RouteState :=
  { x with linkTimer := Timer.lower 1 x.linkTimer, lineTime := x.lineTime + 1 }

/-- The line of a route port after a millisecond. -/
def tickLine (b : Baud) (x : RouteState) (y : PortState) : PortState :=
  { y with transmitter := drainLine b (x.lineTime + 1) y.transmitter }

/-- One millisecond passes on every running timer and on the route lines; the handover counts microseconds. -/
def tick (s : State) : State :=
  { s with
    scan := { s.scan with periodTimer := Timer.lower 1 s.scan.periodTimer }
    clock := { s.clock with handover := Timer.lower 1000 s.clock.handover }
    ports := { s.ports with
      east := tickLine s.baud s.routes.east s.ports.east
      west := tickLine s.baud s.routes.west s.ports.west }
    routes := ⟨tickRoute s.routes.east, tickRoute s.routes.west⟩
    acts := { s.acts with
      entries := s.acts.entries.map (fun e => { e with refreshTimer := Timer.lower 1 e.refreshTimer })
      moments := { s.acts.moments with now := s.acts.moments.now + 1 } }
    link := { s.link with
      pulseTimer := Timer.lower 1 s.link.pulseTimer
      silenceTimer := Timer.lower 1 s.link.silenceTimer
      slots := s.link.slots.map (ReferralSlot.lower 1) } }

/-- The block with no command waiting: a millisecond passes, unless POR holds every timer and line. -/
def idleStep (s : State) : State := if s.por then s else tick s

end Sys2Proof.Machine
end

