-- ==== Sys2Proof/Safety.lean ====
section
/-! DEFINITION. The terms that claims are made in: which part of the state a command changes, when a request is taken and
answered, and the invariants of the part. -/

namespace Sys2Proof.Machine

/-! ## Frames -/

/-- The parts of the state. `pins` holds POR, the straps and the baud code, `site` the two site references, `queue` the waiting
commands. -/
inductive Block where
  | pins | points | site | scan | bus | arb | clock | notices | ports | routes | hreq | acts | link | restart | uptime | queue
  deriving DecidableEq, Repr

/-- A part of the state is the same in s and t. -/
def Block.same (s t : State) : Block → Prop
  | .pins => t.por = s.por ∧ t.strapsRead = s.strapsRead ∧ t.baud = s.baud
  | .points => t.points = s.points
  | .site => t.siteLocal = s.siteLocal ∧ t.economyTrigger = s.economyTrigger
  | .scan => t.scan = s.scan
  | .bus => t.bus = s.bus
  | .arb => t.arb = s.arb
  | .clock => t.clock = s.clock
  | .notices => t.notices = s.notices
  | .ports => t.ports = s.ports
  | .routes => t.routes = s.routes
  | .hreq => t.hreq = s.hreq
  | .acts => t.acts = s.acts
  | .link => t.link = s.link
  | .restart => t.restart = s.restart
  | .uptime => t.uptime = s.uptime
  | .queue => t.pending = s.pending

/-- t differs from s in the named parts only. -/
def ChangesOnly (l : List Block) (s t : State) : Prop := ∀ b, b ∉ l → b.same s t

/-- A port whose frames, summary and nothing else may have changed (R124 to R128). -/
def DeliveryOnly (x y : PortState) : Prop :=
  y.receiver = x.receiver ∧ y.requests = x.requests ∧ y.executor = x.executor ∧ y.transmitter = x.transmitter
    ∧ y.clocked = x.clocked ∧ y.level = x.level

/-- A route port whose last reported summary and ATTENTION owed alone may have changed (R126 to R128). -/
def DeliveryOnlyRoute (x y : RouteState) : Prop :=
  y.linkUp = x.linkUp ∧ y.linkTimer = x.linkTimer ∧ y.lineTime = x.lineTime ∧ y.config = x.config ∧ y.window = x.window ∧ y.mayRestart = x.mayRestart

/-! ## Requests -/

/-- Port p's executor is about to take `req`: POR released, no restart in progress, the executor IDLE, `req` at the head of its
queue (R174, R181). -/
structure Taken (s : State) (p : Port) (req : Request) : Prop where
  por : s.por = false
  restart : s.restart = .idle
  executor : (s.port p).executor = .idle
  queue : (s.port p).requests.head? = some req

/-- `Taken`, with room for the response in the output queue. -/
structure Ready (s : State) (p : Port) (req : Request) : Prop extends Taken s p req where
  room : (s.port p).output.length < Config.outputPlaces

/-- Port p's executor is about to take a request of kind k, and has room for its response. -/
def Asked (k : Kind) (p : Port) (s : State) (req : Request) : Prop := Ready s p req ∧ kindOf req.kind = some k

/-- A port after its executor has taken and answered the head request with a frame. -/
def answeredPort (x : PortState) (f : OutFrame) : PortState :=
  { x with requests := x.requests.tail, executor := .idle, output := x.output ++ [f] }

/-- The routes after a frame that carries summary v was placed on port p (R126). -/
def reportedRoutes (p : Port) (v : Nat) (x : PerRoute RouteState) : PerRoute RouteState :=
  match p with
  | .east => { x with east := { x.east with lastReported := v } }
  | .west => { x with west := { x.west with lastReported := v } }
  | .hut => x

/-- The ports and routes after port p's request was answered, where no summary changed: the response is at the tail of p's output
queue, carries p's summary, and nothing else of any port changed (R125, R126, R174, R175). -/
def Answered (p : Port) (req : Request) (r : Result) (body : List Byte) (s t : State) : Prop :=
  t.ports = s.ports.set p (answeredPort (s.port p)
      (responseFrame req.kind req.tag r.code (s.port p).summary body .response))
    ∧ t.routes = reportedRoutes p (s.port p).summary s.routes

/-- The ports and routes after port p's request was answered, where summaries may have changed: the response is the last frame of
p's output queue and carries the summary after the request; of the other ports only frames and summaries changed (R124, R125,
R174). -/
def AnsweredAfter (p : Port) (req : Request) (r : Result) (body : List Byte) (s t : State) : Prop :=
  (t.port p).output.getLast? = some (responseFrame req.kind req.tag r.code (t.port p).summary body .response)
    ∧ (t.port p).requests = (s.port p).requests.tail ∧ (t.port p).executor = .idle
    ∧ (t.port p).receiver = (s.port p).receiver ∧ (t.port p).transmitter = (s.port p).transmitter
    ∧ (∀ q, q ≠ p → DeliveryOnly (s.port q) (t.port q))
    ∧ (∀ r, DeliveryOnlyRoute (s.route r) (t.route r))

/-- The part of `AnsweredAfter` that holds where claims may end, so that other ports' waiting commands may be answered too
(R147). -/
def AnsweredLast (p : Port) (req : Request) (r : Result) (body : List Byte) (s t : State) : Prop :=
  (t.port p).output.getLast? = some (responseFrame req.kind req.tag r.code (t.port p).summary body .response)
    ∧ (t.port p).requests = (s.port p).requests.tail ∧ (t.port p).executor = .idle
    ∧ (∀ q, q ≠ p → (t.port q).receiver = (s.port q).receiver ∧ (t.port q).requests = (s.port q).requests
      ∧ (t.port q).transmitter = (s.port q).transmitter ∧ (t.port q).level = (s.port q).level)
    ∧ (∀ r, DeliveryOnlyRoute (s.route r) (t.route r))

/-- No COMMAND or EXCHANGE of port p waits in the work list. -/
def NoItems (p : Port) (s : State) : Prop := ∀ w ∈ s.acts.workList, w.port ≠ some p

/-- A claim of actuator i has ended: no holder, no lease, the rest of the entry as it was; a SAFE actuator has a POLICY WRITE
pending (R147). -/
def ClaimEnded (i : ActIx) (s t : State) : Prop :=
  t.actuator i = { s.actuator i with holder := none, lease := 0 }
    ∧ ∀ d, (s.actuator i).desc = some d → d.policy = .safe → .policy i ∈ t.acts.workList

/-- The command answers port p's request with result r and `body`, and changes nothing else: the response joins p's output queue
with p's summary (R125, R174, R175). -/
def AnswersOnly (c : Instr) (p : Port) (req : Request) (r : Result) (body : List Byte) (s : State) : Prop :=
  ∃ t, exec c s = .next t ∧ Answered p req r body s t ∧ ChangesOnly [.ports, .routes, .hreq] s t

/-- The request rows whose response is formed when the request is taken, with their port and the requests they take. -/
def answeringRow : Instr → Option (Port × (Request → Bool))
  | .definePoint p => some (p, ofKind .definePoint)
  | .setLimits p => some (p, ofKind .setLimits)
  | .undefinePoint p => some (p, ofKind .undefinePoint)
  | .readPoint p => some (p, ofKind .readPoint)
  | .readPoints p => some (p, ofKind .readPoints)
  | .findTag p => some (p, ofKind .findTag)
  | .forcePoint p => some (p, ofKind .forcePoint)
  | .unforcePoint p => some (p, ofKind .unforcePoint)
  | .clearAsserted p => some (p, ofKind .clearAsserted)
  | .startScan => some (.hut, ofKind .startScan)
  | .stopScan => some (.hut, ofKind .stopScan)
  | .setScanPeriod p => some (p, ofKind .setScanPeriod)
  | .scanAdd p => some (p, ofKind .scanAdd)
  | .scanRemove p => some (p, ofKind .scanRemove)
  | .readScanList p => some (p, ofKind .readScanList)
  | .setModuleClass p => some (p, ofKind .setModuleClass)
  | .assignModuleClass p => some (p, ofKind .assignModuleClass)
  | .readModuleClasses p => some (p, ofKind .readModuleClasses)
  | .setEconomy => some (.hut, ofKind .setEconomy)
  | .ackNotice p => some (p, ofKind .ackNotice)
  | .post p => some (p, ofKind .post)
  | .unpost p => some (p, ofKind .unpost)
  | .setGroupThreshold p => some (p, ofKind .setGroupThreshold)
  | .fetchNotice p => some (p, isFetch)
  | .fetchNoticeIdentity p => some (p, isFetchIdentity)
  | .setLevel p => some (p, ofKind .setLevel)
  | .readSummary p => some (p, ofKind .readSummary)
  | .defineActuator p => some (p, ofKind .defineActuator)
  | .undefineActuator p => some (p, ofKind .undefineActuator)
  | .readActuator p => some (p, ofKind .readActuator)
  | .claim p => some (p, ofKind .claim)
  | .release p => some (p, ofKind .release)
  | .takeReferral => some (.hut, ofKind .takeReferral)
  | .answerReferral => some (.hut, ofKind .answerReferral)
  | .restartHutController r => some (toPort r, ofKind .restartHutController)
  | .setPermissions => some (.hut, ofKind .setPermissions)
  | .setSitePoints => some (.hut, ofKind .setSitePoints)
  | .identify p => some (p, ofKind .identify)
  | .restartSupervision p => some (p, ofKind .restartSupervision)
  | _ => none

/-- The port whose executor serves a request row: the rows above, those whose executor goes on holding the request, and a referral. -/
def requestPort : Instr → Option Port
  | .readModule p => some p
  | .writeModule p => some p
  | .command p => some p
  | .exchange p => some p
  | .referral r => some (toPort r)
  | c => (answeringRow c).map (·.1)

/-- Point i is the gate of some defined point (R12, R15). -/
def IsGateOf (s : State) (i : PointIx) : Prop := ∃ j d g, s.descOf j = some d ∧ d.gate = some g ∧ g.point = i

/-- Every point is as it was but for the reported ASSERTED activity of others than i (R33). -/
def OtherPointsKept (i : PointIx) (s t : State) : Prop :=
  ∀ j, j ≠ i → t.point j = { s.point j with reportedAsserted := (t.point j).reportedAsserted }

/-- A cycle has started with a due entry in the list: the walk stands at the first entry and the Scanner asks for the bus; the
period timer runs with the effective period (R46, R48, R50). -/
def CycleWalks (s t : State) : Prop :=
  t.scan.cycleState = .walking ∧ t.scan.passed = [] ∧ t.scan.ahead = s.scan.list ∧ t.scan.cycleNumber = s.scan.cycleNumber
    ∧ t.scan.heldStart = false ∧ t.scan.overrun = s.scan.overrun
    ∧ t.scan.periodTimer = some (if s.clock.clockState = .economy then 4 * s.scan.period else s.scan.period)
    ∧ t.arb = { s.arb with waiting := { s.arb.waiting with scanner := true } }

/-- A cycle has started with nothing due and completed at once (R46, R50, R55). -/
def CycleEmpty (s t : State) : Prop :=
  t.scan.cycleState = .idle ∧ t.scan.passed = s.scan.list ∧ t.scan.ahead = [] ∧ t.scan.cycleNumber = s.scan.cycleNumber + 1
    ∧ t.scan.heldStart = false ∧ t.scan.overrun = false
    ∧ t.scan.periodTimer = some (if s.clock.clockState = .economy then 4 * s.scan.period else s.scan.period)
    ∧ t.arb = s.arb

/-- The Scanner has no bus request, no tenure and no read in flight. -/
def ScannerAtRest (s : State) : Prop :=
  s.scan.inFlight = none ∧ s.arb.waiting.scanner = false ∧ s.arb.tenure ≠ some .scanner

/-- Some entry of the list is due in the present cycle (R49). -/
def DueInList (s : State) : Prop :=
  ∃ i ∈ s.scan.list, ∃ d, s.descOf i = some d ∧ (d.scanClass = .fast ∨ d.scanClass = .normal ∧ s.scan.cycleNumber.toNat % 4 = 0
    ∨ d.scanClass = .slow ∧ s.scan.cycleNumber.toNat % 16 = 0)

/-- The entry of an identity that has none, entered by a start without severity while a place is free (R102, R105). -/
def Entered (id : NoticeId) (priority : Nat) (s t : State) : Prop :=
  t.notices = { s.notices with entries := s.notices.entries ++ [{
    id := id, tag := 0, severity := none, priority := priority, group := 0, state := .raised, stamp := s.uptime, value := none
    ackedBy := none, code := none, postedMask := none, delivered := .empty }] }

/-- The Notice Table with another list of entries; its flags, thresholds and slots stay. -/
def EntriesBecome (l : List Notice) (s t : State) : Prop := t = { s with notices := { s.notices with entries := l } }

/-- The entry of an identity becomes what f makes of it; every other entry stays (R105 to R107). -/
def EntryBecomes (id : NoticeId) (f : Notice → Notice) (s t : State) : Prop :=
  EntriesBecome (s.notices.entries.map fun m => if m.id = id then f m else m) s t

/-- The entry of an identity is removed, and no lost flag set (R107, R108). -/
def EntryRemoved (id : NoticeId) (s t : State) : Prop :=
  EntriesBecome (s.notices.entries.filter fun m => decide (m.id ≠ id)) s t

/-- The entry that a condition starts with: RAISED at the present uptime, its fields from its source (R102, R105). -/
def raisedNotice (s : State) (id : NoticeId) (sev : Option Severity) : Notice :=
  ⟨id, tagOf s id, sev, priorityOf s id sev, groupOf s id, .raised, s.uptime, reportValue s id, none, none, none, .empty⟩

/-- The RETURNED entry v is the victim for a new entry of a priority: of at most that priority, of the lowest, then of the oldest
stamp, then first in the identity order (R111; stamps compared as in notes/assumptions/16.md). -/
def VictimFor (priority : Nat) (s : State) (v : Notice) : Prop :=
  v ∈ s.notices.entries ∧ v.state = .returned ∧ v.priority ≤ priority
    ∧ ∀ n ∈ s.notices.entries, n.state = .returned → n.id = v.id ∨ v.priority < n.priority
      ∨ v.priority = n.priority ∧ (v.stamp.toNat < n.stamp.toNat ∨ v.stamp = n.stamp ∧ identityKey v.id < identityKey n.id)

/-- LOW and LOWLOW (R106). -/
def OnLowSide (v : Severity) : Prop := v = .low ∨ v = .lowlow

/-- LOWLOW and HIGHHIGH, of rank 2 (R106). -/
def OfRankTwo (v : Severity) : Prop := v = .lowlow ∨ v = .highhigh

/-- The condition of an identity has no entry but RETURNED ones (R107). -/
def OnlyReturned (id : NoticeId) (t : State) : Prop := ∀ n ∈ t.notices.entries, n.id = id → n.state = .returned

/-- Port p's executor has taken its head request and goes on holding it; nothing else of any port changed (R174). -/
def Holding (p : Port) (req : Request) (s t : State) : Prop :=
  t.ports = s.ports.set p { s.port p with requests := (s.port p).requests.tail, executor := .serving req }
    ∧ t.routes = s.routes

/-- The address of a direct transfer can be served under a class (R79, R80). -/
def Servable (c : ClassRecord) (w : DirectWidth) (offset : Byte) (write : Bool) : Prop :=
  match w with
  | .byte => True
  | .word => (c.width = .w8 ∧ offset.toNat ≠ 255) ∨ (c.width = .w16 ∧ offset.toNat % 2 = 0)
  | .line => write = false ∧ c.width = .w16 ∧ c.lineReads = true ∧ offset.toNat % 2 = 0

/-- The Hut Port, or a route port with the module in its direct window (R78). -/
def InWindow (s : State) (p : Port) (m : ModIx) : Prop :=
  p = .hut ∨ ∃ r f l, routeOf p = some r ∧ (s.route r).window = some (f, l) ∧ f ≤ m ∧ m ≤ l

/-- A direct request has passed its checks: the port's bus request is placed and the executor holds (R78). -/
def DirectPlaced (c : Instr) (p : Port) (req : Request) (s : State) : Prop :=
  ∃ t, exec c s = .next t ∧ Holding p req s t ∧ ChangesOnly [.arb, .ports, .hreq] s t
    ∧ t.arb = { s.arb with waiting := { s.arb.waiting with direct := s.arb.waiting.direct.set p true } }

/-- No supervision restart waits for the transaction in flight (R181). -/
def NotRestarting (s : State) : Prop := ∀ p, s.restart ≠ .running p

/-- The conditions of R85 but for the waiting set; and no claim's expiry is still to be taken (R146). -/
def Grantable (s : State) : Prop :=
  s.por = false ∧ s.arb.tenure = none ∧ s.bus.busState = .idle ∧ s.arb.locked = .closed ∧ s.arb.grantHold = false
    ∧ NotRestarting s ∧ ∀ i, expiryDue s i = false

/-- The Actuator Unit is the requester that the rows of R86 name. -/
def UnitNext (s : State) : Prop :=
  (s.arb.waiting.scanner = true → s.arb.scannerWait < 4) ∧ s.arb.waiting.actuatorUnit = true

/-- The Scanner is the requester that the rows of R86 name. -/
def ScannerNext (s : State) : Prop :=
  s.arb.waiting.scanner = true
    ∧ (4 ≤ s.arb.scannerWait ∨ s.arb.waiting.actuatorUnit = false ∧ s.arb.rotation.find? s.arb.waiting.direct.get = none)

/-- Item w is the first of the work list by the order of R153: a POLICY WRITE, else a REFRESH, oldest queued first and at equal
moments of lower index first, else the COMMAND or EXCHANGE accepted first. -/
def FirstItem (u : ActuatorUnit) (w : WorkItem) : Prop :=
  let before := fun i j : ActIx => u.moments.queuedAt.get i < u.moments.queuedAt.get j
    ∨ u.moments.queuedAt.get i = u.moments.queuedAt.get j ∧ i < j
  w ∈ u.workList ∧ match w with
    | .policy i => ∀ j, .policy j ∈ u.workList → j = i ∨ before i j
    | .refresh i => (∀ j, .policy j ∉ u.workList) ∧ ∀ j, .refresh j ∈ u.workList → j = i ∨ before i j
    | w => (∀ j, .policy j ∉ u.workList ∧ .refresh j ∉ u.workList) ∧ u.workList.head? = some w

/-- A transaction as it is composed: no beat run, nothing delivered, under its module's class as it stands (R61, R64, R74). -/
def composed (s : State) (who : Requester) (kind : TxKind) (m : ModIx) (beats : List Beat) (needed : List Nat) : Transaction :=
  ⟨who, kind, m, s.classNoOf m, s.classOf m, beats, needed, 0, [], 0, none, false, false, false⟩

/-- The words of the block of w in the order of a line read: w to the end of the block, then its start to w - 1 (R71). -/
def wrapOrder (w : Nat) : List Nat := List.range' w (4 - w % 4) ++ List.range' (w - w % 4) (w % 4)

/-- The due entries that R52 includes after a lead entry on module m in a block, in list order: of the first three due ones, those
before the first that lies on another module, outside the block, or at an unreadable address. -/
def included (s : State) (m : ModIx) (block : Nat) (rest : List PointIx) : List PointIx :=
  ((rest.filter (isDue s)).take 3).takeWhile fun j =>
    match s.descOf j with
    | none => false
    | some d => decide (d.modAddr = m) && decide (d.offset.toNat / 2 / 4 = block)
      && !(decide (d.width = .word) && decide (d.offset.toNat % 2 = 1))

/-- Every due entry of a list has an address that cannot be read under its module's class as it stands (R51). -/
def NoneReadable (s : State) (l : List PointIx) : Prop :=
  ∀ i ∈ l, isDue s i = true → ∀ d, s.descOf i = some d → isReadable s d = false

/-- The due entries of a list have taken failed samples with reason ADDRESS, and no other point has changed (R34, R51). -/
def AddressesFailed (l : List PointIx) (s t : State) : Prop :=
  (∀ i ∈ l, isDue s i = true → ∀ d, s.descOf i = some d →
      t.point i = { s.point i with live := sampledLive d s.scan.cycleNumber (s.point i) (.failed .address) })
    ∧ ∀ i, (i ∉ l ∨ isDue s i = false) → t.point i = s.point i

/-- The scanner wait count after a grant to another requester (R86). -/
def countedWait (s : State) : Nat := if s.arb.waiting.scanner then s.arb.scannerWait + 1 else s.arb.scannerWait

/-- A transaction has ended with its results waiting for the requester, and recovery has begun (R64, R68). -/
def TransactionEnded (x : Transaction) (s t : State) : Prop :=
  t.bus = { s.bus with
    inFlight := none
    ended := some x
    busState := if x.cls.recovery = 0 then .idle else .recovery
    recovery := x.cls.recovery }

/-- A transaction has ended while a supervision restart waits for it: recovery has begun, the results are discarded, the tenure and
the Scanner's read in flight are closed, the actuator's in flight has become no, and the Actuator Unit asks for the bus again if
items remain (R59, R68, R87, R89, R138, R157, R181). -/
def ResultsDiscarded (x : Transaction) (s t : State) : Prop :=
  ChangesOnly [.bus, .arb, .scan, .acts, .hreq] s t
    ∧ t.bus = { s.bus with
      inFlight := none
      ended := none
      busState := if x.cls.recovery = 0 then .idle else .recovery
      recovery := x.cls.recovery }
    ∧ t.arb = { s.arb with
      tenure := none
      locked := .closed
      waiting := { s.arb.waiting with
        actuatorUnit := s.arb.waiting.actuatorUnit || decide (s.acts.workList ≠ []) } }
    ∧ t.scan = { s.scan with inFlight := none }
    ∧ t.acts.workList = s.acts.workList ∧ t.acts.running = none ∧ t.acts.moments = s.acts.moments
    ∧ (∀ y, s.acts.running = some y → t.actuator y.item.target = { s.actuator y.item.target with inFlight := .no })
    ∧ ∀ i, (∀ y, s.acts.running = some y → y.item.target ≠ i) → t.actuator i = s.actuator i

/-- A transaction ends as x: its results wait for the requester, or a supervision restart discards them; and the lines of the point
bus are released (R61, R64, R67, R68), the write line in RECOVERY by the model's choice (notes/assumptions/32.md). -/
def EndsAs (x : Transaction) (s t : State) : Prop :=
  (NotRestarting s → ChangesOnly [.bus, .hreq] s t ∧ TransactionEnded x s t)
    ∧ (∀ p, s.restart = .running p → ResultsDiscarded x s t)
    ∧ ∀ clock, busLines t clock = ⟨none, 0, none, false, false⟩

/-- A transaction goes on as x with its next beat: its address and direction are driven and the strobe asserted, in a line at once
under the one strobe, else after a gap clock in which the strobe is released and nothing driven (R65, R67, R71, R72), the data and
write lines by the model's choice (notes/assumptions/32.md). -/
def GoesOnAs (x : Transaction) (s t : State) : Prop :=
  ChangesOnly [.bus, .hreq] s t ∧ t.bus = { s.bus with inFlight := some x }
    ∧ ∀ c, x.beats[x.pos]? = some c →
      (∀ clock, 1 ≤ clock → busLines t clock = ⟨some x.modAddr, c.addr, c.data, true, c.data.isSome⟩)
        ∧ busLines t 0 = (if x.kind = .lineRead ∧ x.inhibited = false then ⟨some x.modAddr, c.addr, c.data, true, c.data.isSome⟩
          else ⟨none, 0, none, false, false⟩)

/-- What a completed write leaves of an actuator's output and faults (R149, R156). -/
def WriteCounted (e : ActuatorEntry) (v : Word16) (failure : Option FailReason) (x : ActuatorEntry) : Prop :=
  x.holder = e.holder ∧ x.lease = e.lease ∧ x.requested = e.requested ∧ x.desc = e.desc
    ∧ (failure = none → x.output = some v ∧ x.faultCount = 0 ∧ x.fault = false)
    ∧ (failure ≠ none → x.output = e.output ∧ x.faultCount = min 2 (e.faultCount + 1)
      ∧ x.fault = (e.fault || decide (1 ≤ e.faultCount)) ∧ x.refreshTimer = e.refreshTimer)

/-- The write of actuator i's item with value v could not be composed: the failure counts toward FAULT, which starts its condition
at the second (R150, R156). -/
def AddressCounted (i : ActIx) (v : Word16) (s t : State) : Prop :=
  WriteCounted (s.actuator i) v (some .address) (t.actuator i) ∧ (∀ j, j ≠ i → t.actuator j = s.actuator j)
    ∧ ((s.actuator i).fault = false → (t.actuator i).fault = true → (∀ n ∈ s.notices.entries, n.id ≠ .actuator i) →
      s.notices.entries.length < 64 → ∀ d, (s.actuator i).desc = some d → d.faultPriority ≠ 0 →
      ∃ n ∈ t.notices.entries, n.id = .actuator i ∧ n.state = .raised ∧ n.priority = d.faultPriority ∧ n.stamp = s.uptime)

/-- A failed sample of point j starts no FAILED condition: it is FORCED, FAILED already, or failed less than twice before (R34,
R38). -/
def NoFailedStart (j : PointIx) (s : State) : Prop :=
  (s.point j).live.quality = .forced ∨ (s.point j).live.quality = .failed ∨ (s.point j).live.failCount < 2

/-- Port p's held request is answered: the response is the last frame of its output queue, with its summary, and the executor is
IDLE (R174). -/
def HeldAnswered (p : Port) (req : Request) (r : Result) (body : List Byte) (t : State) : Prop :=
  (t.port p).output.getLast? = some (responseFrame req.kind req.tag r.code (t.port p).summary body .response)
    ∧ (t.port p).executor = .idle

/-- A port's receiver is set and nothing else of the part changes. -/
def ReceiverSet (p : Port) (x : Receiver) (s t : State) : Prop :=
  ChangesOnly [.ports, .hreq] s t ∧ t.ports = s.ports.set p { s.port p with receiver := x }

/-- The outcome of checks 2 to 5 of R172, in order: none for a frame that joins the request queue. -/
def frameVerdict (s : State) (p : Port) (req : Request) : Option Result :=
  match kindOf req.kind with
  | some k =>
    if k.fits req.body.length = false then some .malformed
    else if permitted s k p = false then some .notPermitted
    else if Config.requestPlaces ≤ (s.port p).requests.length then some .busy
    else none
  | none =>
    if isReferred req.kind = false ∨ p = .hut then some .unknownKind
    else if Config.requestPlaces ≤ (s.port p).requests.length then some .busy
    else none

/-- A port after the checks of a valid frame: the request queued, or the refusal placed if there is room (R172, R173). -/
def checkedPort (v : Option Result) (req : Request) (x : PortState) : PortState :=
  match v with
  | none => { x with requests := x.requests ++ [req] }
  | some r =>
    if x.output.length < Config.outputPlaces then
      { x with output := x.output ++ [responseFrame req.kind req.tag r.code x.summary [] .response] }
    else x

/-- The UNTAKEN and TAKEN slots of an origin, in ascending order, with their referrals (R165). -/
def openOf (s : State) (q : RoutePort) : List (ReferralIx × Referral) :=
  slotIndices.filterMap fun k =>
    match s.slot k with
    | .untaken x _ => if x.origin = q then some (k, x) else none
    | .taken x _ => if x.origin = q then some (k, x) else none
    | _ => none

/-- Whether the bytes of a chip-select assertion are a frame with its fill (R171). -/
def IsHutFrame (mosi : List Byte) : Prop :=
  byteAt mosi 0 = Config.sync ∧ 2 ≤ (byteAt mosi 1).toNat ∧ (byteAt mosi 1).toNat ≤ 246
    ∧ (byteAt mosi 1).toNat + 4 ≤ mosi.length ∧ ∀ b ∈ mosi.drop ((byteAt mosi 1).toNat + 4), b = 0

/-! ## Invariants -/

/-- No request queue holds more than 4 frames and no output queue more than 8 (R169). -/
def QueuesBounded (s : State) : Prop :=
  ∀ p, (s.port p).requests.length ≤ Config.requestPlaces ∧ (s.port p).output.length ≤ Config.outputPlaces

/-- The Notice Table never holds more than 64 entries, and no two have the same identity (R101). -/
def NoticesSound (s : State) : Prop :=
  s.notices.entries.length ≤ Config.notices ∧ (s.notices.entries.map (·.id)).Nodup

/-- HREQ stands as R129 decides it. -/
def HreqFollows (s : State) : Prop := s.hreq = hreqWanted s

/-- Every port's summary is the greatest priority offerable to it (R122). -/
def SummariesFollow (s : State) : Prop := ∀ p, (s.port p).summary = topPriority s p

/-- A holder is a port in the actuator's port mask; an unheld actuator has lease 0; no lease is above 3,600 s (R137). -/
def ClaimsSound (s : State) : Prop :=
  ∀ i, (s.actuator i).lease ≤ 3600 ∧
    match (s.actuator i).holder with
    | none => (s.actuator i).lease = 0
    | some p => ∃ d, (s.actuator i).desc = some d ∧ d.portMask.get p = true

/-- While the site-local point is present and its flag set, no route port is a holder (R137). -/
def SiteLocalSound (s : State) : Prop :=
  siteAsserted s = true → ∀ i p, (s.actuator i).holder = some p → p = .hut

/-- A transaction is in flight exactly in bus state ACTIVE (R61). -/
def BusSound (s : State) : Prop := s.bus.inFlight.isSome = true ↔ s.bus.busState = .active

/-- The scanner wait count is 0 while the Scanner does not wait and never above 5, nor above 4 in the first part of a locked
tenure; the rotation order is an order of the three ports (R83, R86). -/
def ArbiterSound (s : State) : Prop :=
  (s.arb.waiting.scanner = false → s.arb.scannerWait = 0) ∧ s.arb.scannerWait ≤ 5
    ∧ (s.arb.locked = .first → s.arb.scannerWait ≤ 4) ∧ s.arb.rotation.Perm [.east, .west, .hut]

/-- HCRST is asserted exactly during a pulse, while the pulse timer runs and the silence timer does not (R158, R165, R166). -/
def PulseSound (s : State) : Prop :=
  s.link.hcrst = s.link.pulse ∧ s.link.pulseTimer.isSome = s.link.pulse ∧ (s.link.pulse = true → s.link.silenceTimer = none)

/-- No two defined points hold the same tag, and none holds tag 0 (R6). -/
def TagsUnique (s : State) : Prop :=
  ∀ i d, s.descOf i = some d → d.tag ≠ 0 ∧ ∀ j e, s.descOf j = some e → e.tag = d.tag → j = i

/-- The scan list holds each SCANNED point once and no other, and between cycles the walk position is its end (R5, R43, R50). -/
def ScanListSound (s : State) : Prop :=
  s.scan.list.Nodup ∧ (∀ i, i ∈ s.scan.list ↔ (s.point i).isScanned = true) ∧ (s.scan.cycleState = .idle → s.scan.ahead = [])

/-- The reported ASSERTED activity of every point is its ASSERTED activity (R32, R33). -/
def AssertedReported (s : State) : Prop := ∀ i, (s.point i).reportedAsserted = assertedActive s i

/-- A port has at most one COMMAND or EXCHANGE in the work list and none beside one that runs for it, and its executor holds on it,
waiting or running, while its response is wanted; a supervision restart has taken them all out (R138, R157, R174). -/
def ItemsHeld (s : State) : Prop :=
  (∀ w ∈ s.acts.workList, ∀ p, w.port = some p →
      ∃ req, (s.port p).executor = .serving req ∧ (kindOf req.kind = some .command ∨ kindOf req.kind = some .exchange))
    ∧ (∀ p, (s.acts.workList.filter (fun w => decide (w.port = some p))).length ≤ 1)
    ∧ (∀ x p, s.acts.running = some x → x.answer = true → x.item.port = some p → NoItems p s
      ∧ ∃ req, (s.port p).executor = .serving req ∧ (kindOf req.kind = some .command ∨ kindOf req.kind = some .exchange))
    ∧ (∀ q, s.restart = .running q → ∀ w ∈ s.acts.workList, w.port = none)

/-- What a safe run keeps: all of the above. -/
def Sound (s : State) : Prop :=
  QueuesBounded s ∧ NoticesSound s ∧ HreqFollows s ∧ SummariesFollow s ∧ ClaimsSound s ∧ SiteLocalSound s ∧ BusSound s
    ∧ ArbiterSound s ∧ PulseSound s ∧ TagsUnique s ∧ ScanListSound s ∧ AssertedReported s ∧ ItemsHeld s

end Sys2Proof.Machine
end

