-- ==== Sys2Proof/Certificates/Slice0/Obligations.lean ====
section
/-! DEFINITION. The statements about the model. Rules are cited as R<n> of spec/. -/

open Sys2Proof Sys2Proof.Machine

/-! ## The block and its resets -/

/-- A step takes the command at the front of the queue and executes it on the state with the queue's rest. -/
def Obligations.StepRunsFrontCommand : Prop :=
  ∀ (c : Instr) (s : State), step { s with pending := c :: s.pending } = exec c s

/-- With no command waiting, a step is one millisecond of every running timer (the handover's unit is the microsecond) and of the
frames in transmission on the route lines, at the strapped rate, and nothing while POR is asserted: the model's choice,
notes/assumptions/4.md, 7.md and 10.md. -/
def Obligations.IdleStepPassesOneMillisecond : Prop :=
  ∀ s : State, s.pending = [] →
    (s.por = true → step s = .next s)
    ∧ (s.por = false → ∃ t, step s = .next t ∧ ChangesOnly [.scan, .clock, .ports, .routes, .acts, .link] s t
      ∧ t.scan = { s.scan with periodTimer := s.scan.periodTimer.map (· - 1) }
      ∧ t.clock = { s.clock with handover := s.clock.handover.map (· - 1000) }
      ∧ (∀ r, t.route r = { s.route r with
          linkTimer := (s.route r).linkTimer.map (· - 1)
          lineTime := (s.route r).lineTime + 1 })
      ∧ t.port .hut = s.port .hut
      ∧ (∀ r, t.port (toPort r) = { s.port (toPort r) with transmitter := (t.port (toPort r)).transmitter }
        ∧ ((s.port (toPort r)).transmitter = .idle → (t.port (toPort r)).transmitter = .idle)
        ∧ ∀ bytes pos gone, (s.port (toPort r)).transmitter = .sending bytes pos →
          gone = max pos (1 + ((s.route r).lineTime + 1)
            * (match s.baud with | .b9600 => 9600 | .b38400 => 38400 | .b115200 => 115200) / 10000) →
          (gone < bytes.length → (t.port (toPort r)).transmitter = .sending bytes gone)
            ∧ (bytes.length ≤ gone → (t.port (toPort r)).transmitter = .idle))
      ∧ t.acts.workList = s.acts.workList ∧ t.acts.running = s.acts.running
      ∧ t.acts.moments = { s.acts.moments with now := s.acts.moments.now + 1 }
      ∧ (∀ i, t.actuator i = { s.actuator i with refreshTimer := (s.actuator i).refreshTimer.map (· - 1) })
      ∧ t.link.pulseTimer = s.link.pulseTimer.map (· - 1) ∧ t.link.silenceTimer = s.link.silenceTimer.map (· - 1)
      ∧ t.link.pulse = s.link.pulse ∧ t.link.hcrst = s.link.hcrst ∧ t.link.silence = s.link.silence
      ∧ t.link.makingOrder = s.link.makingOrder
      ∧ (∀ k, t.slot k = (match s.slot k with
        | .free => .free
        | .untaken q age => .untaken q (age.map (· - 1))
        | .taken q age => .taken q (age.map (· - 1))
        | .answered q a => .answered q a)))

/-- The state after reset meets every invariant that is stated below to be kept. -/
def Obligations.ResetMeetsInvariants : Prop := Sound State.reset

/-- POWER_ON_RESET gives every piece of state the initial value of its chapter. That POR stands asserted until its release, and the
baud code until the straps are read, are the model's choice (notes/assumptions/3.md). -/
def Obligations.PowerOnResetSetsInitialValues : Prop :=
  ∀ s : State, ∃ t, exec .powerOnReset s = .next t
    ∧ t.por = true ∧ t.pending = s.pending
    ∧ (∀ i, t.point i = ⟨.undefined, .initial, true, false⟩) ∧ t.siteLocal = none ∧ t.economyTrigger = none
    ∧ t.scan = ⟨.stopped, [], [], 1000, 0, .idle, none, false, false, none⟩
    ∧ (∀ k, t.bus.classes.get k = ⟨.w8, 2, 8, 1, false⟩) ∧ (∀ m, t.bus.map.get m = 0)
    ∧ t.bus.busState = .idle ∧ t.bus.inFlight = none ∧ t.bus.recovery = 0 ∧ t.bus.ended = none
    ∧ t.strapsRead = false ∧ t.baud = .b9600
    ∧ t.arb = ⟨⟨false, ⟨false, false, false⟩, false⟩, none, .closed, [.east, .west, .hut], 0, false⟩
    ∧ t.clock = ⟨.full, .auto, .full, none, false⟩
    ∧ t.notices.entries = [] ∧ t.notices.lost = .empty ∧ (∀ k, t.notices.thresholds.get k = 0)
    ∧ (∀ k, t.notices.slots.get k = none)
    ∧ (∀ p, t.port p = ⟨.hunt, [], .idle, [], .idle, 0, 0, 0⟩)
    ∧ (∀ r, t.route r = ⟨false, none, 0, false, none, false, 0, false⟩)
    ∧ t.hreq = false
    ∧ (∀ i, t.actuator i = ⟨none, none, 0, none, none, 0, false, .no, none⟩) ∧ t.acts.workList = [] ∧ t.acts.running = none
    ∧ t.acts.moments.now = 0 ∧ t.acts.moments.ticked = 0 ∧ (∀ i, t.acts.moments.queuedAt.get i = 0)
    ∧ (∀ k, t.slot k = .free) ∧ t.link.pulse = false ∧ t.link.hcrst = false ∧ t.link.pulseTimer = none
    ∧ t.link.silenceTimer = some 60000 ∧ t.link.silence = false ∧ t.link.makingOrder = 0
    ∧ t.restart = .idle ∧ t.uptime = 0

/-- The release of POR reads the straps, which set the rate until the next power-on reset. That it is taken while POR is asserted or
while no release has read the straps since the reset, and that it does nothing otherwise, is the model's choice
(notes/assumptions/3.md and 1.md). -/
def Obligations.PorReleaseReadsStraps : Prop :=
  ∀ (b0 b1 : Bool) (s : State),
    ((s.por = true ∨ s.strapsRead = false) → ∃ t, exec (.porRelease b0 b1) s = .next t ∧ ChangesOnly [.pins, .hreq] s t
      ∧ t.por = false ∧ t.strapsRead = true
      ∧ (b1 = true → t.baud = .b115200) ∧ (b1 = false → b0 = true → t.baud = .b38400)
      ∧ (b1 = false → b0 = false → t.baud = .b9600))
    ∧ (s.por = false → s.strapsRead = true → exec (.porRelease b0 b1) s = .next s)

/-! ## The ports -/

/-- A route port's receiver hunts for 0xC3, takes LEN and the frame's further bytes, and returns to HUNT on a LEN outside 2..246,
on a gap of more than 20 ms and on a framing error. -/
def Obligations.RouteReceiverTakesBytes : Prop :=
  ∀ (r : RoutePort) (b : Byte) (s : State), s.por = false →
    ((s.port (toPort r)).receiver = .hunt →
      ∃ t, exec (.rxdByte r b) s = .next t
        ∧ ReceiverSet (toPort r) (if b = 0xC3#8 then .receiving [b] else .hunt) s t)
    ∧ (∀ sync, (s.port (toPort r)).receiver = .receiving [sync] →
      ∃ t, exec (.rxdByte r b) s = .next t
        ∧ ReceiverSet (toPort r) (if 2 ≤ b.toNat ∧ b.toNat ≤ 246 then .receiving [sync, b] else .hunt) s t)
    ∧ (∀ bytes, (s.port (toPort r)).receiver = .receiving bytes → 2 ≤ bytes.length →
      bytes.length + 1 < (byteAt bytes 1).toNat + 4 →
      ∃ t, exec (.rxdByte r b) s = .next t ∧ ReceiverSet (toPort r) (.receiving (bytes ++ [b])) s t)
    ∧ (∀ bytes, (s.port (toPort r)).receiver = .receiving bytes →
      ∃ t, exec (.interByteTimeout r) s = .next t ∧ ReceiverSet (toPort r) .hunt s t)
    ∧ (∃ t, exec (.framingError r) s = .next t ∧ ReceiverSet (toPort r) .hunt s t)

/-- A frame complete at its last CRC byte is checked in the order of R172. A frame whose CRC fails is discarded silently. A valid
frame restarts the link timer, and joins the request queue or is refused; on a link that is DOWN it turns the link UP and ends
LINK_LOSS. That the last byte acts alike as ROUTE_FRAME_COMPLETE and as RXD_BYTE is the model's reading
(notes/assumptions/6.md). -/
def Obligations.RouteFrameCompletes : Prop :=
  ∀ (r : RoutePort) (last : Byte) (bytes : List Byte) (s : State), s.por = false →
    (s.port (toPort r)).receiver = .receiving bytes → 2 ≤ bytes.length → bytes.length + 1 = (byteAt bytes 1).toNat + 4 →
    exec (.rxdByte r last) s = exec (.routeFrameComplete r last) s
    ∧ (crcMatches (bytes ++ [last]) = false →
      ∃ t, exec (.routeFrameComplete r last) s = .next t ∧ ReceiverSet (toPort r) .hunt s t)
    ∧ (crcMatches (bytes ++ [last]) = true → (s.route r).linkUp = true →
      ∃ t, exec (.routeFrameComplete r last) s = .next t ∧ ChangesOnly [.ports, .routes, .hreq] s t
        ∧ t.ports = s.ports.set (toPort r) (checkedPort (frameVerdict s (toPort r) (requestOf (bytes ++ [last])))
            (requestOf (bytes ++ [last])) { s.port (toPort r) with receiver := .hunt })
        ∧ (∀ q, q ≠ r → t.route q = s.route q)
        ∧ DeliveryOnlyRoute { s.route r with linkTimer := some 30000 } (t.route r)
        ∧ (t.route r).attentionOwed = (s.route r).attentionOwed)
    ∧ (crcMatches (bytes ++ [last]) = true → (s.route r).linkUp = false →
      NoticesSound s →
      ∃ t, exec (.routeFrameComplete r last) s = .next t ∧ ChangesOnly [.notices, .ports, .routes, .hreq] s t
        ∧ (t.route r).linkUp = true ∧ (t.route r).linkTimer = some 30000
        ∧ (t.port (toPort r)).receiver = .hunt
        ∧ (t.port (toPort r)).requests =
            (checkedPort (frameVerdict s (toPort r) (requestOf (bytes ++ [last]))) (requestOf (bytes ++ [last]))
              (s.port (toPort r))).requests
        ∧ (t.port (toPort r)).executor = (s.port (toPort r)).executor
        ∧ (∀ v, frameVerdict s (toPort r) (requestOf (bytes ++ [last])) = some v → (s.port (toPort r)).output.length < 7 →
          (t.port (toPort r)).output.getLast? = some (responseFrame (requestOf (bytes ++ [last])).kind
            (requestOf (bytes ++ [last])).tag v.code (t.port (toPort r)).summary [] .response))
        ∧ ((∀ n ∈ s.notices.entries, n.id ≠ linkLoss r) → SummariesFollow s →
          t.ports = s.ports.set (toPort r) (checkedPort (frameVerdict s (toPort r) (requestOf (bytes ++ [last])))
            (requestOf (bytes ++ [last])) { s.port (toPort r) with receiver := .hunt }) ∧ t.notices = s.notices)
        ∧ OnlyReturned (linkLoss r) t
        ∧ (∀ n, n ∈ s.notices.entries → n.id ≠ linkLoss r → n ∈ t.notices.entries))

/-- The bytes of a chip-select assertion on the Hut Port are a read transfer, a frame, or a length mismatch; only a frame with a
correct CRC has an effect. During a restart pulse every assertion is discarded. Whatever they are, one byte has gone out on MISO for
each byte clocked in: of the frame in transmission, else 0x00, or 0xC3 where the frame that waits begins. How many bytes of the
assertion are accounted for when its last frame begins, that the 0x00 bytes before that frame are an operand, and that a release
whose bytes do not fit them does nothing, are the model's own (notes/assumptions/7.md). -/
def Obligations.HutAssertionJudged : Prop :=
  (∀ (mosi : List Byte) (fill : Nat) (s : State),
    (mosi.length < (s.port .hut).clocked + fill ∨ (s.port .hut).clocked = 0 ∧ 0 < fill) →
    exec (.chipSelectRelease mosi fill) s = .next s)
  ∧ (∀ (mosi : List Byte) (n fill : Nat) (s : State), s.por = false → (s.port .hut).clocked + fill + n = mosi.length →
    ((s.port .hut).clocked = 0 → fill = 0) →
    ∃ t, exec (.chipSelectRelease mosi fill) s = .next t ∧ ChangesOnly [.ports, .routes, .notices, .link, .hreq] s t
      ∧ (t.port .hut).transmitter = (match (s.port .hut).transmitter with
        | .idle => .idle
        | .sending bytes pos => if pos + n < bytes.length then .sending bytes (pos + n) else .idle)
      ∧ (t.port .hut).clocked = 0
      ∧ (t.port .hut).executor = (s.port .hut).executor
      ∧ ((s.link.pulse = true ∨ ¬ IsHutFrame mosi ∨ crcMatches mosi = false) →
        ChangesOnly [.ports, .hreq] s t
          ∧ t.ports = s.ports.set .hut { s.port .hut with transmitter := (t.port .hut).transmitter, clocked := 0 })
      ∧ (s.link.pulse = false → IsHutFrame mosi → crcMatches mosi = true →
        t.link = { s.link with silenceTimer := some 60000, silence := false }
          ∧ (t.port .hut).requests = (checkedPort (frameVerdict s .hut (requestOf mosi)) (requestOf mosi) (s.port .hut)).requests
          ∧ (s.link.silence = false → ChangesOnly [.ports, .link, .hreq] s t
            ∧ t.ports = s.ports.set .hut (checkedPort (frameVerdict s .hut (requestOf mosi)) (requestOf mosi)
                { s.port .hut with transmitter := (t.port .hut).transmitter, clocked := 0 }))
          ∧ (s.link.silence = true → NoticesSound s →
            OnlyReturned (.internal .hutSilent) t)))
  ∧ ∀ (n : Nat) (s : State),
    (∀ bytes pos, (s.port .hut).transmitter = .sending bytes pos → pos + n < bytes.length →
      misoByte n s = byteAt bytes (pos + n))
    ∧ (((s.port .hut).transmitter = .idle
        ∨ ∃ bytes pos, (s.port .hut).transmitter = .sending bytes pos ∧ bytes.length ≤ pos + n) →
      misoByte n s = (if (s.port .hut).output = [] then 0x00#8 else 0xC3#8))

/-- The expiry of a link timer that has reached 0 turns the link DOWN, starts LINK_LOSS with priority 20 and ends every claim of that
port; a timer that a valid frame has restarted, or that is stopped, has no expiry, and the command changes nothing
(notes/assumptions/1.md and 5.md). The moments of queuing are the model's own (notes/assumptions/10.md). -/
def Obligations.LinkTimeoutTurnsLinkDown : Prop :=
  (∀ (r : RoutePort) (s : State), (s.route r).linkTimer ≠ some 0 → exec (.linkTimeout r) s = .next s)
  ∧ ∀ (r : RoutePort) (s : State), s.por = false → (s.route r).linkTimer = some 0 →
    ∃ t, exec (.linkTimeout r) s = .next t ∧ ChangesOnly [.routes, .notices, .ports, .acts, .arb, .hreq] s t
      ∧ (t.route r).linkUp = false ∧ (t.route r).linkTimer = none
      ∧ (t.route r).config = (s.route r).config ∧ (t.route r).window = (s.route r).window
      ∧ (t.route r).mayRestart = (s.route r).mayRestart
      ∧ (∀ q, q ≠ r → DeliveryOnlyRoute (s.route q) (t.route q))
      ∧ (∀ p, (t.port p).receiver = (s.port p).receiver ∧ (t.port p).requests = (s.port p).requests
        ∧ (t.port p).transmitter = (s.port p).transmitter ∧ (t.port p).level = (s.port p).level)
      ∧ (∀ i, (s.actuator i).holder = some (toPort r) → ClaimEnded i s t)
      ∧ (∀ i, (s.actuator i).holder ≠ some (toPort r) → t.actuator i = s.actuator i)
      ∧ (∀ i d, (s.actuator i).holder = some (toPort r) → (s.actuator i).desc = some d → d.policy = .safe →
        .policy i ∉ s.acts.workList → t.acts.moments.queuedAt.get i = s.acts.moments.now)
      ∧ ((∀ n ∈ s.notices.entries, n.id ≠ linkLoss r) → s.notices.entries.length < 64 → Entered (linkLoss r) 20 s t)

/-- The head frame leaves the output queue for transmission, its first byte sent, and no frame leaves an empty queue. That the
command says that the last byte of the frame before has gone, which on the Hut Port counts the rest of that frame and the first byte
as bytes of the assertion, and when a route port's line time starts, is the model's own (notes/assumptions/7.md). The freed place
goes first to an owed ATTENTION, whose flag is cleared and which is placed if the summary S is greater than the last reported summary L; else to the executor's response, if one
waits; else to the held answer of lowest `made` of that port, whose slot becomes FREE. Each frame placed carries S. -/
def Obligations.FrameSentGivesFreedPlace : Prop :=
  (∀ (p : Port) (s : State), (s.port p).output = [] → exec (.frameSent p) s = .next s)
  ∧ ∀ (p : Port) (f : OutFrame) (rest : List OutFrame) (s : State), s.por = false →
    (s.port p).output = f :: rest → rest.length < 8 →
    ∃ t, exec (.frameSent p) s = .next t ∧ ChangesOnly [.ports, .routes, .link, .restart, .hreq] s t
      ∧ (∀ q, q ≠ p → t.port q = s.port q)
      ∧ (t.port p).transmitter = .sending (frameBytes f.kind f.tag f.body) 1
      ∧ (t.port p).clocked = (if p = .hut then (s.port p).clocked + (match (s.port p).transmitter with
          | .idle => 0
          | .sending bytes pos => bytes.length - pos) + 1
        else (s.port p).clocked)
      ∧ (∀ r, (t.route r).lineTime = if p = toPort r then 0 else (s.route r).lineTime)
      ∧ (t.port p).requests = (s.port p).requests ∧ (t.port p).receiver = (s.port p).receiver
      ∧ (t.port p).level = (s.port p).level ∧ (t.port p).summary = (s.port p).summary
      ∧ (∀ r, routeOf p = some r → (t.route r).attentionOwed = false)
      ∧ (∀ r, routeOf p = some r → (s.route r).attentionOwed = true → (s.route r).lastReported < (s.port p).summary →
        (t.port p).output = rest ++ [⟨0x80#8, 0, [natByte (s.port p).summary], .attention⟩]
          ∧ (t.port p).executor = (s.port p).executor ∧ (t.route r).lastReported = (s.port p).summary ∧ t.link = s.link)
      ∧ ((∀ r, routeOf p = some r → (s.route r).attentionOwed = true → (s.port p).summary ≤ (s.route r).lastReported) →
        (∀ req reply, (s.port p).executor = .waitingForRoom req reply →
          (t.port p).output = rest ++ [responseFrame req.kind req.tag reply.result.code (s.port p).summary reply.body
              (markOf req reply)]
            ∧ (t.port p).executor = .idle ∧ t.link = s.link
            ∧ (∀ r, routeOf p = some r → (t.route r).lastReported = (s.port p).summary))
        ∧ ((∀ req reply, (s.port p).executor ≠ .waitingForRoom req reply) →
          (t.port p).executor = (s.port p).executor
          ∧ ((∀ k, isAnsweredFor p (s.slot k) = false) → (t.port p).output = rest ∧ t.link = s.link)
          ∧ (∀ k q a, s.slot k = .answered q a → toPort q.origin = p →
            (∀ j x b, j ≠ k → s.slot j = .answered x b → toPort x.origin = p → referralAge s x < referralAge s q) →
            (t.port p).output = rest ++ [responseFrame q.kind q.tag a.result (s.port p).summary a.body .response]
              ∧ t.slot k = .free ∧ ∀ j, j ≠ k → t.slot j = s.slot j)))

/-- A response that finds the output queue full waits in the executor. It is the response that the row places with an empty output
queue, and the row's other effects are the same; the rows are those whose response is formed when the request is taken. A port whose
executor is not IDLE takes no request of any row. -/
def Obligations.ResponseWaitsForRoom : Prop :=
  (∀ (c : Instr) (p : Port) (accept : Request → Bool) (req : Request) (s : State), answeringRow c = some (p, accept) →
    Taken s p req → accept req = true → 8 ≤ (s.port p).output.length → NoItems p s →
    ∃ t u reply, exec c s = .next t ∧ (t.port p).executor = .waitingForRoom req reply
      ∧ (t.port p).output.length = (s.port p).output.length ∧ (t.port p).requests = (s.port p).requests.tail
      ∧ (t.port p).transmitter = (s.port p).transmitter ∧ (t.port p).receiver = (s.port p).receiver
      ∧ exec c (s.setPort p { s.port p with output := [] }) = .next u
      ∧ (u.port p).output.head? = some (responseFrame req.kind req.tag reply.result.code (u.port p).summary reply.body
        (markOf req reply))
      ∧ ChangesOnly [.ports, .routes, .link, .restart, .hreq] u t)
  ∧ ∀ (c : Instr) (p : Port) (s : State), requestPort c = some p → (s.port p).executor ≠ .idle → exec c s = .next s

/-! ## The Point Table -/

/-- READ POINT, READ POINTS and FIND TAG answer from the table as it stands and change no state. -/
def Obligations.PointReadsAnswer : Prop :=
  ∀ (p : Port) (s : State) (req : Request),
    (Asked .readPoint p s req →
      (∀ d, s.descOf (pointIxOf (byteAt req.body 0)) = some d →
        AnswersOnly (.readPoint p) p req .ok ((s.point (pointIxOf (byteAt req.body 0))).state.code :: (descriptorBytes d
          ++ liveBytes d (s.point (pointIxOf (byteAt req.body 0))).live)) s)
      ∧ (s.descOf (pointIxOf (byteAt req.body 0)) = none → AnswersOnly (.readPoint p) p req .ok [0] s))
    ∧ (Asked .readPoints p s req → ∀ start count, (byteAt req.body 0).toNat = start → (byteAt req.body 1).toNat = count →
      ((count = 0 ∨ 16 < count ∨ 256 < start + count) → AnswersOnly (.readPoints p) p req .outOfRange [] s)
      ∧ (1 ≤ count → count ≤ 16 → start + count ≤ 256 →
        AnswersOnly (.readPoints p) p req .ok ((List.range count).flatMap fun k =>
          shortRecord (pointIxOf (natByte (start + k))) (s.point (pointIxOf (natByte (start + k))))) s))
    ∧ (Asked .findTag p s req → ∀ tag, word32At req.body 0 = tag →
      (∀ i d, TagsUnique s → s.descOf i = some d → d.tag = tag →
        AnswersOnly (.findTag p) p req .ok [pointByte i, (s.point i).state.code] s)
      ∧ ((tag = 0 ∨ ∀ i d, s.descOf i = some d → d.tag ≠ tag) → AnswersOnly (.findTag p) p req .notFound [] s))

/-- The causes of refusal are checked in the order of R10, and the first that applies gives the result. That a waiting exchange still
counts as outstanding once the tick has taken its claim's lease to 0, until the claim's expiry is taken, is the model's choice
(notes/assumptions/11.md). -/
def Obligations.PointRequestsRefusedInOrder : Prop :=
  ∀ (p : Port) (s : State) (req : Request) (i : PointIx) (b : List Byte), pointIxOf (byteAt req.body 0) = i → req.body.drop 1 = b →
    (Asked .definePoint p s req →
      ((((s.point i).isScanned = true
          ∨ (s.descOf i).isSome = true ∧ (namesDiscrete b = false ∧ (IsGateOf s i ∨ s.siteLocal = some i)
            ∨ namesDiscrete b = true ∧ s.economyTrigger = some i ∨ feedbackHeld s i = true)) →
        AnswersOnly (.definePoint p) p req .inUse [] s)
      ∧ (defineInUse s i (namesDiscrete b) = false →
        (descriptorOf b = none → AnswersOnly (.definePoint p) p req .badLimits [] s)
        ∧ ∀ d, descriptorOf b = some d →
          ((descriptorValid s i d = false ∨ addressable (s.classOf d.modAddr).width d.width d.offset = false) →
            AnswersOnly (.definePoint p) p req .badLimits [] s)
          ∧ (descriptorValid s i d = true → addressable (s.classOf d.modAddr).width d.width d.offset = true →
            (∃ j e, j ≠ i ∧ s.descOf j = some e ∧ e.tag = d.tag) → AnswersOnly (.definePoint p) p req .duplicateTag [] s))))
    ∧ (Asked .setLimits p s req →
      (s.descOf i = none → AnswersOnly (.setLimits p) p req .notDefined [] s)
      ∧ ∀ old, s.descOf i = some old →
        (limitsOf old b = none ∨ ∃ d, limitsOf old b = some d ∧ descriptorValid s i d = false) →
        AnswersOnly (.setLimits p) p req .badLimits [] s)
    ∧ (Asked .undefinePoint p s req →
      (s.descOf i = none → AnswersOnly (.undefinePoint p) p req .notDefined [] s)
      ∧ ((s.descOf i).isSome = true →
        ((s.point i).isScanned = true ∨ IsGateOf s i ∨ s.siteLocal = some i ∨ s.economyTrigger = some i
          ∨ ∃ a d, (s.actuator a).desc = some d ∧ d.feedback = some i) →
        AnswersOnly (.undefinePoint p) p req .inUse [] s))
    ∧ (Asked .forcePoint p s req →
      (s.descOf i = none → AnswersOnly (.forcePoint p) p req .notDefined [] s)
      ∧ ∀ d, s.descOf i = some d →
        (p ≠ .hut → d.routeMask.get p = false → AnswersOnly (.forcePoint p) p req .portProtected [] s)
        ∧ ((p = .hut ∨ d.routeMask.get p = true) → d.isDiscrete = true → int16At b 0 ≠ 0 → int16At b 0 ≠ 1 →
          AnswersOnly (.forcePoint p) p req .outOfRange [] s))
    ∧ (Asked .unforcePoint p s req →
      (s.descOf i = none → AnswersOnly (.unforcePoint p) p req .notDefined [] s)
      ∧ ∀ d, s.descOf i = some d → p ≠ .hut → d.routeMask.get p = false →
        AnswersOnly (.unforcePoint p) p req .portProtected [] s)
    ∧ (Asked .clearAsserted p s req →
      (s.descOf i = none → AnswersOnly (.clearAsserted p) p req .notDefined [] s)
      ∧ ∀ d, s.descOf i = some d →
        (p ≠ .hut → d.routeMask.get p = false → AnswersOnly (.clearAsserted p) p req .portProtected [] s)
        ∧ ((p = .hut ∨ d.routeMask.get p = true) → isSticky d = false → AnswersOnly (.clearAsserted p) p req .badLimits [] s))

/-- An accepted DEFINE POINT: the entry's notices are removed, the descriptor replaced, the live record made initial, the state
DEFINED. Points gated by it and the wanted clock are re-evaluated only where its flag was set or its band, as trigger, was not
NORMAL. -/
def Obligations.DefinePointAccepted : Prop :=
  ∀ (p : Port) (s : State) (req : Request) (i : PointIx) (new : Descriptor), Asked .definePoint p s req →
    pointIxOf (byteAt req.body 0) = i → defineInUse s i (namesDiscrete (req.body.drop 1)) = false →
    descriptorOf (req.body.drop 1) = some new → descriptorValid s i new = true →
    addressable (s.classOf new.modAddr).width new.width new.offset = true → tagTaken s i new.tag = false →
    ∃ t, exec (.definePoint p) s = .next t ∧ AnsweredAfter p req .ok [pointByte i] s t
      ∧ ChangesOnly [.points, .notices, .ports, .routes, .clock, .arb, .hreq] s t
      ∧ t.point i = ⟨.defined new, .initial, true, false⟩ ∧ OtherPointsKept i s t
      ∧ ((s.descOf i).isSome = true → ∀ n ∈ t.notices.entries, ∀ k, n.id ≠ .point i k)
      ∧ ((s.point i).live.asserted = true → ∀ j, gatedBy s i j = true → j ≠ i →
        (t.point j).reportedAsserted = assertedActive t j)
      ∧ ((s.point i).live.asserted = false → (s.point i).live.band = .normal ∨ s.economyTrigger ≠ some i →
        ChangesOnly [.points, .notices, .ports, .routes, .hreq] s t ∧ (∀ j, j ≠ i → t.point j = s.point j)
          ∧ t.notices.lost = s.notices.lost ∧ t.notices.slots = s.notices.slots ∧ t.notices.thresholds = s.notices.thresholds
          ∧ ∀ n, n ∈ t.notices.entries ↔ n ∈ s.notices.entries ∧ ((s.descOf i).isSome = true → ∀ k, n.id ≠ .point i k))

/-- An accepted SET LIMITS: the limit fields are replaced, `candidate` is absent and `count` 0, and everything else of the point
stays. A changed gate has the point's ASSERTED activity re-evaluated. -/
def Obligations.SetLimitsAccepted : Prop :=
  ∀ (p : Port) (s : State) (req : Request) (i : PointIx) (old new : Descriptor), Asked .setLimits p s req →
    pointIxOf (byteAt req.body 0) = i → s.descOf i = some old → limitsOf old (req.body.drop 1) = some new →
    descriptorValid s i new = true →
    ∃ t, exec (.setLimits p) s = .next t ∧ AnsweredAfter p req .ok [] s t
      ∧ ChangesOnly [.points, .notices, .ports, .routes, .hreq] s t
      ∧ t.descOf i = some new ∧ (t.point i).isScanned = (s.point i).isScanned
      ∧ (new.tag, new.modAddr, new.offset, new.width, new.order, new.signed, new.scanClass)
        = (old.tag, old.modAddr, old.offset, old.width, old.order, old.signed, old.scanClass)
      ∧ (t.point i).live = { (s.point i).live with candidate := none, count := 0 }
      ∧ (t.point i).scanMark = (s.point i).scanMark
      ∧ (∀ j, j ≠ i → t.point j = s.point j)
      ∧ (old.gate = new.gate → t.notices = s.notices ∧ (t.point i).reportedAsserted = (s.point i).reportedAsserted)
      ∧ (old.gate ≠ new.gate → (t.point i).reportedAsserted = assertedActive t i)

/-- An accepted UNDEFINE POINT: the entry's notices are removed outright, and it becomes UNDEFINED with the initial live
record. -/
def Obligations.UndefinePointAccepted : Prop :=
  ∀ (p : Port) (s : State) (req : Request) (i : PointIx), Asked .undefinePoint p s req → pointIxOf (byteAt req.body 0) = i →
    (s.descOf i).isSome = true → undefineInUse s i = false →
    ∃ t, exec (.undefinePoint p) s = .next t ∧ AnsweredAfter p req .ok [] s t ∧ SummariesFollow t
      ∧ ChangesOnly [.points, .notices, .ports, .routes, .hreq] s t
      ∧ t.point i = ⟨.undefined, .initial, true, false⟩ ∧ (∀ j, j ≠ i → t.point j = s.point j)
      ∧ t.notices.lost = s.notices.lost ∧ t.notices.slots = s.notices.slots ∧ t.notices.thresholds = s.notices.thresholds
      ∧ ∀ n, n ∈ t.notices.entries ↔ n ∈ s.notices.entries ∧ ∀ k, n.id ≠ .point i k

/-- An accepted FORCE POINT, an accepted UNFORCE POINT and an accepted CLEAR ASSERTED: the live record they leave, and what they
leave alone. The code 0 of a clear `asserted` in the response of CLEAR ASSERTED is the model's choice (notes/assumptions/31.md). -/
def Obligations.ForcedValueSetAndRemoved : Prop :=
  ∀ (p : Port) (s : State) (req : Request) (i : PointIx) (d : Descriptor), pointIxOf (byteAt req.body 0) = i →
    s.descOf i = some d → (p = .hut ∨ d.routeMask.get p = true) →
    (Asked .forcePoint p s req → NoItems p s → ∀ v, int16At req.body 1 = v → (d.isDiscrete = true → v = 0 ∨ v = 1) →
      ∃ t, exec (.forcePoint p) s = .next t
        ∧ AnsweredLast p req .ok (liveBytes d (t.point i).live) s t
        ∧ ChangesOnly [.points, .notices, .ports, .routes, .clock, .arb, .acts, .hreq] s t ∧ OtherPointsKept i s t
        ∧ (t.point i).state = (s.point i).state ∧ (t.point i).scanMark = (s.point i).scanMark
        ∧ (t.point i).live.value = v ∧ (t.point i).live.filtered = v ∧ (t.point i).live.sat = false
        ∧ (t.point i).live.quality = .forced ∧ (t.point i).live.forcedValue = some v
        ∧ (t.point i).live.candidate = none ∧ (t.point i).live.count = 0
        ∧ (t.point i).live.raw = (s.point i).live.raw ∧ (t.point i).live.failCount = (s.point i).live.failCount
        ∧ (t.point i).live.lastCycle = (s.point i).live.lastCycle
        ∧ (∀ a, d.part = .analog a → (t.point i).live.band = targetBand a (s.point i).live.band v)
        ∧ (∀ x, d.part = .discrete x → (t.point i).live.level = decide (v = 1)
          ∧ ((t.point i).live.level = (s.point i).live.level → (t.point i).live.asserted = (s.point i).live.asserted)
          ∧ ((t.point i).live.level ≠ (s.point i).live.level → (t.point i).live.asserted
              = (if x.edge = .both ∨ x.edge = .rising ∧ v = 1 ∨ x.edge = .falling ∧ v = 0 then true
                else decide (x.mode = .sticky) && (s.point i).live.asserted)))
        ∧ (s.siteLocal = some i → (s.point i).live.asserted = false → (t.point i).live.asserted = true →
          ∀ a, ((s.actuator a).holder = some .east ∨ (s.actuator a).holder = some .west) → ClaimEnded a s t))
    ∧ (Asked .unforcePoint p s req →
      ∃ t, exec (.unforcePoint p) s = .next t ∧ AnsweredAfter p req .ok (liveBytes d (t.point i).live) s t
        ∧ ChangesOnly [.points, .notices, .ports, .routes, .hreq] s t ∧ (∀ j, j ≠ i → t.point j = s.point j)
        ∧ ((s.point i).live.quality ≠ .forced → t.point i = s.point i ∧ t.notices = s.notices)
        ∧ ((s.point i).live.quality = .forced → t.point i = { s.point i with live := { (s.point i).live with
            forcedValue := none
            quality := if 3 ≤ (s.point i).live.failCount then .failed else .stale } }))
    ∧ (Asked .clearAsserted p s req → isSticky d = true →
      ∃ t, exec (.clearAsserted p) s = .next t
        ∧ AnsweredAfter p req .ok [boolByte (s.point i).live.level, 0] s t
        ∧ ChangesOnly [.points, .notices, .ports, .routes, .hreq] s t ∧ OtherPointsKept i s t
        ∧ (t.point i).live = { (s.point i).live with asserted := false }
        ∧ (t.point i).state = (s.point i).state ∧ (t.point i).scanMark = (s.point i).scanMark
        ∧ ((s.point i).live.asserted = false → t.points = s.points ∧ t.notices = s.notices)
        ∧ ((s.point i).live.asserted = true → ∀ j, j = i ∨ gatedBy s i j = true →
          (t.point j).reportedAsserted = assertedActive t j))

/-! ## The Scanner -/

/-- START SCAN in STOPPED starts a cycle, or holds the start behind a cycle still walking; STOP SCAN in RUNNING stops the timer,
clears the held start, and ends an overrun where no cycle walks. Each changes nothing in the state it would set. -/
def Obligations.ScanStartsAndStops : Prop :=
  ∀ (s : State) (req : Request),
    (Asked .startScan .hut s req →
      (s.scan.scanState = .running → AnswersOnly .startScan .hut req .ok [1, s.scan.cycleState.code] s)
      ∧ (s.scan.scanState = .stopped → s.scan.cycleState = .walking →
        ∃ t, exec .startScan s = .next t ∧ Answered .hut req .ok [1, 1] s t ∧ ChangesOnly [.scan, .ports, .routes, .hreq] s t
          ∧ t.scan = { s.scan with scanState := .running, heldStart := true })
      ∧ (s.scan.scanState = .stopped → s.scan.cycleState = .idle → ScannerAtRest s →
        (DueInList s → ∃ t, exec .startScan s = .next t ∧ Answered .hut req .ok [1, 1] s t
          ∧ ChangesOnly [.scan, .arb, .ports, .routes, .hreq] s t ∧ CycleWalks s t
          ∧ t.scan.scanState = .running ∧ t.scan.period = s.scan.period)
        ∧ (¬ DueInList s → ∃ t, exec .startScan s = .next t ∧ AnsweredAfter .hut req .ok [1, 0] s t
          ∧ ChangesOnly [.scan, .notices, .ports, .routes, .hreq] s t ∧ CycleEmpty s t
          ∧ t.scan.scanState = .running ∧ t.scan.period = s.scan.period
          ∧ (s.scan.overrun = false → t.notices = s.notices))))
    ∧ (Asked .stopScan .hut s req →
      (s.scan.scanState = .stopped → AnswersOnly .stopScan .hut req .ok [0, s.scan.cycleState.code] s)
      ∧ (s.scan.scanState = .running →
        ∃ t, exec .stopScan s = .next t ∧ AnsweredAfter .hut req .ok [0, s.scan.cycleState.code] s t
          ∧ ChangesOnly [.scan, .notices, .ports, .routes, .hreq] s t
          ∧ t.scan = { s.scan with
            scanState := .stopped
            periodTimer := none
            heldStart := false
            overrun := if s.scan.cycleState = .idle then false else s.scan.overrun }
          ∧ ((s.scan.overrun = false ∨ s.scan.cycleState = .walking) → t.notices = s.notices)
          ∧ (s.scan.overrun = true → s.scan.cycleState = .idle → NoticesSound s →
            OnlyReturned (.internal .scanOverrun) t)))

/-- The scan period clamped to 50..10,000 ms; an index appended to the scan list or taken out of it; the list read. -/
def Obligations.ScanListRequestsServed : Prop :=
  ∀ (p : Port) (s : State) (req : Request) (i : PointIx), pointIxOf (byteAt req.body 0) = i →
    (Asked .setScanPeriod p s req →
      ∃ t, exec (.setScanPeriod p) s = .next t
        ∧ Answered p req .ok (sendNat16 (min 10000 (max 50 (word16At req.body 0).toNat))) s t
        ∧ ChangesOnly [.scan, .ports, .routes, .hreq] s t
        ∧ t.scan = { s.scan with period := min 10000 (max 50 (word16At req.body 0).toNat) })
    ∧ (Asked .scanAdd p s req →
      ((s.point i).state = .undefined → AnswersOnly (.scanAdd p) p req .notDefined [] s)
      ∧ (∀ d, (s.point i).state = .scanned d → AnswersOnly (.scanAdd p) p req .inUse [] s)
      ∧ (∀ d, (s.point i).state = .defined d → ScanListSound s →
        ∃ t, exec (.scanAdd p) s = .next t
          ∧ AnsweredAfter p req .ok (natByte s.scan.list.length :: sendNat16 (s.scan.list.length + 1)) s t
          ∧ ChangesOnly [.points, .scan, .arb, .notices, .ports, .routes, .hreq] s t
          ∧ t.points = (s.setPoint i { s.point i with state := .scanned d, scanMark := true }).points
          ∧ t.scan.list = s.scan.list ++ [i] ∧ t.scan.scanState = s.scan.scanState ∧ t.scan.period = s.scan.period
          ∧ (s.scan.cycleState = .idle → t.scan = { s.scan with passed := s.scan.passed ++ [i] } ∧ t.arb = s.arb
            ∧ t.notices = s.notices)))
    ∧ (Asked .scanRemove p s req →
      ((s.point i).state = .undefined → AnswersOnly (.scanRemove p) p req .notDefined [] s)
      ∧ (∀ d, (s.point i).state = .defined d → AnswersOnly (.scanRemove p) p req .notFound [] s)
      ∧ (∀ d, (s.point i).state = .scanned d →
        ∃ t, exec (.scanRemove p) s = .next t
          ∧ Answered p req .ok (sendNat16 (s.scan.list.filter (fun j => decide (j ≠ i))).length) s t
          ∧ ChangesOnly [.points, .scan, .ports, .routes, .hreq] s t
          ∧ t.points = (s.setPoint i { s.point i with
              state := .defined d
              live := { (s.point i).live with
                quality := if (s.point i).live.quality = .good then .stale else (s.point i).live.quality } }).points
          ∧ t.scan = { s.scan with
              passed := s.scan.passed.filter (fun j => decide (j ≠ i))
              ahead := s.scan.ahead.filter (fun j => decide (j ≠ i))
              inFlight := s.scan.inFlight.map fun l => l.map fun e => if e.point = i then { e with left := true } else e }))
    ∧ (Asked .readScanList p s req →
      AnswersOnly (.readScanList p) p req .ok
        ([(if s.scan.scanState = .running then 1 else 0 : Byte), (if s.scan.cycleState = .walking then 1 else 0 : Byte)]
          ++ send16 s.scan.cycleNumber ++ sendNat16 s.scan.period
          ++ sendNat16 (if s.clock.clockState = .economy then 4 * s.scan.period else s.scan.period)
          ++ [(if s.scan.overrun then 1 else 0 : Byte)] ++ sendNat16 s.scan.list.length
          ++ ((s.scan.list.drop (byteAt req.body 0).toNat).take 120).map (fun j => natByte j.val)) s)

/-- The expiry of the period timer starts a cycle, or, while a cycle walks, holds the start, stops the timer and makes the overrun
active, with the start of SCAN_OVERRUN where it was not. A timer that has not reached 0 has no expiry (notes/assumptions/1.md and
5.md). -/
def Obligations.PeriodTimerExpiryStartsOrHolds : Prop :=
  (∀ s : State, s.scan.periodTimer ≠ some 0 → exec .periodTimerExpiry s = .next s)
  ∧ ∀ s : State, s.por = false → s.scan.periodTimer = some 0 →
    (s.scan.cycleState = .idle → ScannerAtRest s → DueInList s →
      ∃ t, exec .periodTimerExpiry s = .next t ∧ ChangesOnly [.scan, .arb, .hreq] s t ∧ CycleWalks s t
        ∧ t.scan.scanState = s.scan.scanState ∧ t.scan.period = s.scan.period)
    ∧ (s.scan.cycleState = .idle → ScannerAtRest s → ¬ DueInList s →
      ∃ t, exec .periodTimerExpiry s = .next t ∧ ChangesOnly [.scan, .notices, .ports, .routes, .hreq] s t ∧ CycleEmpty s t
        ∧ t.scan.scanState = s.scan.scanState ∧ t.scan.period = s.scan.period
        ∧ (s.scan.overrun = false → ChangesOnly [.scan, .hreq] s t))
    ∧ (s.scan.cycleState = .walking →
      ∃ t, exec .periodTimerExpiry s = .next t ∧ ChangesOnly [.scan, .notices, .ports, .routes, .hreq] s t
        ∧ t.scan = { s.scan with heldStart := true, periodTimer := none, overrun := true }
        ∧ (s.scan.overrun = true → ChangesOnly [.scan, .hreq] s t)
        ∧ (s.scan.overrun = false → (∀ n ∈ s.notices.entries, n.id ≠ .internal .scanOverrun) →
          s.notices.entries.length < 64 → Entered (.internal .scanOverrun) 12 s t))

/-- The Scanner's read completes: each served entry that has not left the list takes one sample, an entry that has left takes none,
and the walk goes on from its position. A cycle that completes with the held start set is followed at once by the next, whose entries
are asked for, or which completes too where nothing is due. -/
def Obligations.ReadCompletionTakesSamples : Prop :=
  ∀ (s : State) (x : Transaction) (es : List ServedEntry), s.por = false → s.bus.ended = some x → x.requester = .scanner →
    s.scan.inFlight = some es → (es.map (·.point)).Nodup →
    ∃ t, exec .readCompletion s = .next t
      ∧ ChangesOnly [.points, .scan, .bus, .arb, .clock, .notices, .ports, .routes, .acts, .hreq] s t
      ∧ t.bus = { s.bus with ended := none } ∧ t.arb.tenure = none ∧ t.scan.inFlight = none
      ∧ (∀ e ∈ es, e.left = false → ∀ d, s.descOf e.point = some d →
        (t.point e.point).live = sampledLive d s.scan.cycleNumber (s.point e.point) (sampleFrom x d)
          ∧ (t.point e.point).scanMark = markAfter (s.point e.point) (sampleFrom x d))
      ∧ (∀ i, (∀ e ∈ es, e.point = i → e.left = true) →
        (t.point i).live = (s.point i).live ∧ (t.point i).scanMark = (s.point i).scanMark)
      ∧ (∀ i, (t.point i).state = (s.point i).state)
      ∧ (s.scan.cycleState = .walking → s.arb.waiting.scanner = false →
        (anyDueAhead s = true → t.scan = { s.scan with inFlight := none } ∧ t.arb.waiting.scanner = true)
        ∧ (anyDueAhead s = false → s.scan.heldStart = false →
          t.scan.cycleState = .idle ∧ t.scan.cycleNumber = s.scan.cycleNumber + 1 ∧ t.scan.passed = s.scan.list
            ∧ t.scan.ahead = [] ∧ t.scan.overrun = false ∧ t.scan.periodTimer = s.scan.periodTimer
            ∧ t.arb.waiting.scanner = false)
        ∧ (anyDueAhead s = false → s.scan.heldStart = true → s.scan.scanState = .running →
          t.scan.heldStart = false ∧ t.scan.scanState = .running ∧ t.scan.period = s.scan.period
            ∧ t.scan.periodTimer = some (if t.clock.clockState = .economy then 4 * s.scan.period else s.scan.period)
            ∧ (DueInList (s.setScan { s.scan with cycleNumber := s.scan.cycleNumber + 1 }) →
              t.scan.cycleState = .walking ∧ t.scan.cycleNumber = s.scan.cycleNumber + 1 ∧ t.scan.passed = []
                ∧ t.scan.ahead = s.scan.list ∧ t.scan.overrun = s.scan.overrun ∧ t.arb.waiting.scanner = true)
            ∧ (¬ DueInList (s.setScan { s.scan with cycleNumber := s.scan.cycleNumber + 1 }) →
              t.scan.cycleState = .idle ∧ t.scan.cycleNumber = s.scan.cycleNumber + 2 ∧ t.scan.passed = s.scan.list
                ∧ t.scan.ahead = [] ∧ t.scan.overrun = false ∧ t.arb.waiting.scanner = false)))

/-! ## Conversion -/

/-- The scaled value is (r − zero) × slope ÷ 256 rounded to nearest, halves away from zero, and clamped; `sat` tells whether the
clamp changed it. -/
def Obligations.ScaledValueRoundsAndClamps : Prop :=
  ∀ (a : AnalogPart) (r : Int), ∃ q : Int,
    (r - a.zero) * a.slope - 128 ≤ 256 * q ∧ 256 * q ≤ (r - a.zero) * a.slope + 128
      ∧ ((r - a.zero) * a.slope = 256 * q - 128 → 0 < (r - a.zero) * a.slope)
      ∧ ((r - a.zero) * a.slope = 256 * q + 128 → (r - a.zero) * a.slope < 0)
      ∧ (q < -32768 → scaled a r = (-32768, true)) ∧ (32767 < q → scaled a r = (32767, true))
      ∧ (-32768 ≤ q → q ≤ 32767 → scaled a r = (q, false))

/-- The target band is the first row of R26 that holds; persistence counts toward it by the cases of R27 and accepts it when the
count reaches the setting n. -/
def Obligations.BandDecidedAndPersisted : Prop :=
  (∀ (a : AnalogPart) (b : Band) (f : Int),
    let hyst : Int := a.hysteresis
    let row1 := ∃ t, a.hh = some t ∧ (t ≤ f ∨ b = .highhigh ∧ t - hyst < f)
    let row2 := ∃ t, a.h = some t ∧ (t ≤ f ∨ (b = .high ∨ b = .highhigh) ∧ t - hyst < f)
    let row3 := ∃ t, a.ll = some t ∧ (f ≤ t ∨ b = .lowlow ∧ f < t + hyst)
    let row4 := ∃ t, a.l = some t ∧ (f ≤ t ∨ (b = .low ∨ b = .lowlow) ∧ f < t + hyst)
    (row1 → targetBand a b f = .highhigh) ∧ (¬ row1 → row2 → targetBand a b f = .high)
      ∧ (¬ row1 → ¬ row2 → row3 → targetBand a b f = .lowlow)
      ∧ (¬ row1 → ¬ row2 → ¬ row3 → row4 → targetBand a b f = .low)
      ∧ (¬ row1 → ¬ row2 → ¬ row3 → ¬ row4 → targetBand a b f = .normal))
  ∧ (∀ (n : Nat) (present t : Target) (c : Option Target) (k : Nat),
    (t = present → persist n present t c k = ⟨false, none, 0⟩)
      ∧ (t ≠ present → c = some t → k + 1 < n → persist n present t c k = ⟨false, some t, k + 1⟩)
      ∧ (t ≠ present → c = some t → n ≤ k + 1 → persist n present t c k = ⟨true, none, 0⟩)
      ∧ (t ≠ present → c ≠ some t → 1 < n → persist n present t c k = ⟨false, some t, 1⟩)
      ∧ (t ≠ present → c ≠ some t → n ≤ 1 → persist n present t c k = ⟨true, none, 0⟩))

/-- What a sample makes of a live record: good and failed samples, of an analog point, a discrete point and a FORCED one. The band of
an analog point and the level of a discrete one move as persistence decides, from the count that stands or afresh; an accepted
level is an edge, which sets or clears `asserted` as R30 states, and a level set at the scan-entry mark is none. -/
def Obligations.SamplesMakeLiveRecord : Prop :=
  ∀ (d : Descriptor) (cycle : Word16) (e : PointEntry) (raw : Word16),
    (e.live.quality = .forced → sampledLive d cycle e (.good raw) = { e.live with raw := raw, failCount := 0 })
    ∧ (e.live.quality ≠ .forced → ∀ new, sampledLive d cycle e (.good raw) = new →
      new.raw = raw ∧ new.failCount = 0 ∧ new.quality = .good ∧ new.lastCycle = cycle
        ∧ new.forcedValue = e.live.forcedValue
        ∧ (∀ a, d.part = .analog a → ∀ v target, (scaled a (interpret d.width d.signed raw)).1 = v →
          targetBand a e.live.band new.filtered = target →
          new.value = v ∧ new.sat = (scaled a (interpret d.width d.signed raw)).2
          ∧ new.asserted = e.live.asserted ∧ new.level = e.live.level
          ∧ ((e.scanMark = true ∨ e.live.quality = .unscanned ∨ e.live.quality = .stale ∨ e.live.quality = .failed) →
            new.filtered = v
              ∧ ∀ r, persist d.persistence (.band e.live.band) (.band target) none 0 = r →
                new.band = (if r.accepted then target else e.live.band) ∧ new.candidate = r.candidate ∧ new.count = r.count)
          ∧ (e.scanMark = false → e.live.quality = .good →
            (a.filterShift = 0 → new.filtered = v)
            ∧ (a.filterShift ≠ 0 → new.filtered = e.live.filtered + Int.tdiv (v - e.live.filtered) (2 ^ a.filterShift))
            ∧ ∀ r, persist d.persistence (.band e.live.band) (.band target) e.live.candidate e.live.count = r →
              new.band = (if r.accepted then target else e.live.band) ∧ new.candidate = r.candidate ∧ new.count = r.count))
        ∧ (∀ x, d.part = .discrete x → ∀ bit, sampleBit d x raw = bit →
          new.value = bit.toNat ∧ new.filtered = bit.toNat ∧ new.sat = false ∧ new.band = e.live.band
          ∧ (e.scanMark = true → new.level = bit ∧ new.candidate = none ∧ new.count = 0
            ∧ (x.mode = .sticky → new.asserted = e.live.asserted)
            ∧ (x.mode = .level → x.edge = .rising → new.asserted = bit)
            ∧ (x.mode = .level → x.edge = .falling → new.asserted = !bit))
          ∧ (e.scanMark = false → ∀ candidate count r,
            ((e.live.quality = .unscanned ∨ e.live.quality = .stale ∨ e.live.quality = .failed) → candidate = none ∧ count = 0) →
            (e.live.quality = .good → candidate = e.live.candidate ∧ count = e.live.count) →
            persist d.persistence (.level e.live.level) (.level bit) candidate count = r →
            new.level = (if r.accepted then bit else e.live.level) ∧ new.candidate = r.candidate ∧ new.count = r.count
              ∧ (r.accepted = false → new.asserted = e.live.asserted)
              ∧ (r.accepted = true → new.asserted
                = (if x.edge = .both ∨ x.edge = .rising ∧ bit = true ∨ x.edge = .falling ∧ bit = false then true
                  else decide (x.mode = .sticky) && e.live.asserted)))))
    ∧ (∀ why, sampledLive d cycle e (.failed why) = { e.live with
        failCount := min 255 (e.live.failCount + 1)
        quality := if e.live.quality = .forced then .forced
          else if 3 ≤ min 255 (e.live.failCount + 1) then .failed
          else if e.live.quality = .good then .stale else e.live.quality })

/-- The ASSERTED condition of a point is active while the point is discrete, its flag is set and its gate is open; the gate point's
flag alone decides the gate. -/
def Obligations.AssertedWhileGateOpen : Prop :=
  ∀ (s : State) (i : PointIx), assertedActive s i = true ↔
    ∃ d x, s.descOf i = some d ∧ d.part = .discrete x ∧ (s.point i).live.asserted = true
      ∧ (x.gate = none ∨ ∃ g, x.gate = some g ∧ ((g.sense = .openWhileSet ∧ (s.point g.point).live.asserted = true)
        ∨ (g.sense = .openWhileClear ∧ (s.point g.point).live.asserted = false)))

/-! ## The point bus and its clock -/

/-- SET MODULE CLASS, ASSIGN MODULE CLASS and READ MODULE CLASSES: what is refused, what is replaced, what is answered. -/
def Obligations.ModuleClassesServed : Prop :=
  ∀ (p : Port) (s : State) (req : Request) (b : List Byte), req.body = b →
    (Asked .setModuleClass p s req →
      ((7 < (byteAt b 0).toNat ∨ (byteAt b 1 ≠ 8 ∧ byteAt b 1 ≠ 16) ∨ 15 < (byteAt b 2).toNat ∨ (byteAt b 3).toNat = 0
          ∨ 7 < (byteAt b 4).toNat ∨ 1 < (byteAt b 5).toNat) →
        AnswersOnly (.setModuleClass p) p req .outOfRange [] s)
      ∧ (∀ k : ClassIx, (byteAt b 0).toNat = k.val → (byteAt b 1 = 8 ∨ byteAt b 1 = 16) → (byteAt b 2).toNat ≤ 15 →
        (byteAt b 3).toNat ≠ 0 → (byteAt b 4).toNat ≤ 7 → (byteAt b 5).toNat ≤ 1 →
        ∃ t, exec (.setModuleClass p) s = .next t
          ∧ Answered p req .ok [byteAt b 0, byteAt b 1, byteAt b 2, byteAt b 3, byteAt b 4, byteAt b 5] s t
          ∧ ChangesOnly [.bus, .ports, .routes, .hreq] s t ∧ t.bus = { s.bus with classes := t.bus.classes }
          ∧ t.bus.classes.get k = ⟨if byteAt b 1 = 8 then .w8 else .w16, (byteAt b 2).toNat, (byteAt b 3).toNat,
              (byteAt b 4).toNat, decide (byteAt b 5 = 1)⟩
          ∧ ∀ j, j ≠ k → t.bus.classes.get j = s.bus.classes.get j))
    ∧ (Asked .assignModuleClass p s req →
      ((127 < (byteAt b 0).toNat ∨ 7 < (byteAt b 1).toNat) → AnswersOnly (.assignModuleClass p) p req .outOfRange [] s)
      ∧ (∀ (m : ModIx) (k : ClassIx), (byteAt b 0).toNat = m.val → (byteAt b 1).toNat = k.val →
        ∃ t, exec (.assignModuleClass p) s = .next t ∧ Answered p req .ok [byteAt b 0, byteAt b 1] s t
          ∧ ChangesOnly [.bus, .ports, .routes, .hreq] s t ∧ t.bus = { s.bus with map := t.bus.map }
          ∧ t.bus.map.get m = k ∧ ∀ j, j ≠ m → t.bus.map.get j = s.bus.map.get j))
    ∧ (Asked .readModuleClasses p s req →
      AnswersOnly (.readModuleClasses p) p req .ok ((s.bus.classes.toList.flatMap fun c =>
          [(match c.width with | .w8 => (8 : Byte) | .w16 => 16), natByte c.settle, natByte c.timeout, natByte c.recovery,
            (if c.lineReads then 1 else 0)])
        ++ (s.bus.map.toList.map fun k => natByte k.val)
        ++ [(match s.bus.busState with | .idle => (0 : Byte) | .active => 1 | .recovery => 2),
          (match s.clock.clockState with | .full => 0 | .toEconomy => 1 | .economy => 2 | .toFull => 3)]) s)

/-- READ MODULE and WRITE MODULE are checked in the order of R78; a request that passes places its port's direct bus request and
holds the executor. -/
def Obligations.DirectRequestsChecked : Prop :=
  ∀ (p : Port) (s : State) (req : Request) (b : List Byte), req.body = b →
    (Asked .readModule p s req →
      ((127 < (byteAt b 0).toNat ∨ 2 < (byteAt b 2).toNat) → AnswersOnly (.readModule p) p req .outOfRange [] s)
      ∧ (∀ (m : ModIx) (w : DirectWidth), (byteAt b 0).toNat = m.val → byteAt b 2 = w.code →
        (¬ InWindow s p m → AnswersOnly (.readModule p) p req .portProtected [] s)
        ∧ (InWindow s p m → ¬ Servable (s.classOf m) w (byteAt b 1) false → AnswersOnly (.readModule p) p req .outOfRange [] s)
        ∧ (InWindow s p m → Servable (s.classOf m) w (byteAt b 1) false → DirectPlaced (.readModule p) p req s)))
    ∧ (Asked .writeModule p s req →
      ((127 < (byteAt b 0).toNat ∨ 1 < (byteAt b 2).toNat ∨ (byteAt b 2).toNat = 0 ∧ 255 < (word16At b 3).toNat) →
        AnswersOnly (.writeModule p) p req .outOfRange [] s)
      ∧ (∀ (m : ModIx) (w : DirectWidth), (byteAt b 0).toNat = m.val → byteAt b 2 = w.code → w ≠ .line →
        (w = .byte → (word16At b 3).toNat ≤ 255) →
        (¬ InWindow s p m → AnswersOnly (.writeModule p) p req .portProtected [] s)
        ∧ (InWindow s p m → ¬ Servable (s.classOf m) w (byteAt b 1) true → AnswersOnly (.writeModule p) p req .outOfRange [] s)
        ∧ (InWindow s p m → Servable (s.classOf m) w (byteAt b 1) true → DirectPlaced (.writeModule p) p req s)))

/-- A beat's outcome at its ending clock, and what follows it: the next beat, under the line's one strobe or after a gap clock, or
the end of the transaction with its recovery and the lines released. The results wait for the requester, whose tenure goes on until
it takes them (notes/assumptions/8.md); with a supervision restart running they are discarded, and the tenure closes. The recovery
ends with the bus IDLE, its count taken to 0 in one step (notes/assumptions/9.md). That the data and write lines of a gap clock and the
write line in RECOVERY are released is the model's choice (notes/assumptions/32.md). -/
def Obligations.BeatsAndRecoveryEnd : Prop :=
  (∀ (s : State) (x : Transaction) (b : Beat) (clock : Nat) (answer error inhibit : Bool) (data : Word16), s.por = false →
    s.bus.inFlight = some x → x.beats[x.pos]? = some b → x.cls.settle < clock → clock ≤ 16 * x.cls.timeout →
    (answer = true ∨ error = true ∨ clock = 16 * x.cls.timeout) →
    ∃ t, exec (.beatEnd clock answer error inhibit data) s = .next t
      ∧ (error = true → EndsAs { x with failure := some .error } s t)
      ∧ (error = false → answer = false → EndsAs { x with failure := some .timeout } s t)
      ∧ (error = false → answer = true → ∃ delivered,
        (b.data = none → b.addr ∈ x.needed → delivered = x.delivered ++ [(b.addr, match x.cls.width with
            | .w8 => data &&& 0xFF#16
            | .w16 => data)])
        ∧ ((b.data ≠ none ∨ b.addr ∉ x.needed) → delivered = x.delivered)
        ∧ ((x.kind ≠ .lineRead ∨ x.pos ≠ 0 ∨ inhibit = false) →
          (x.pos + 1 < x.beats.length →
            GoesOnAs { x with pos := x.pos + 1, answered := x.answered + 1, delivered := delivered } s t)
          ∧ (x.beats.length ≤ x.pos + 1 → EndsAs { x with answered := x.answered + 1, delivered := delivered } s t))
        ∧ (x.kind = .lineRead → x.pos = 0 → inhibit = true → ∀ beats,
          beats = b :: (x.beats.drop 1).filter (fun c => decide (c.addr ∈ x.needed)) →
          (1 < beats.length → GoesOnAs { x with
            pos := 1, answered := x.answered + 1, delivered := delivered, inhibited := true, beats := beats } s t)
          ∧ (beats.length = 1 → EndsAs { x with
            answered := x.answered + 1, delivered := delivered, inhibited := true, beats := beats } s t))))
  ∧ (∀ s : State, s.por = false → s.bus.busState = .recovery →
    ∃ t, exec .busRecoveryEnd s = .next t ∧ ChangesOnly [.bus, .hreq] s t
      ∧ t.bus = { s.bus with busState := .idle, recovery := 0 })

/-- A pending switch begins its handover of 32 microseconds on an idle bus with no tenure, and its end enters the new clock state
and clears the grant hold; on entry into ECONOMY the condition starts. A handover whose time has not passed, or that no switch
has, does not end (notes/assumptions/1.md and 5.md). -/
def Obligations.HandoverSwitchesClock : Prop :=
  (∀ s : State, (s.clock.handover ≠ some 0 ∨ s.clock.clockState = .full ∨ s.clock.clockState = .economy) →
    exec .handoverEnd s = .next s)
  ∧ ∀ s : State, s.por = false →
    ((s.clock.clockState = .toEconomy ∨ s.clock.clockState = .toFull) → s.clock.handover = none → s.bus.busState = .idle →
      s.arb.tenure = none → s.arb.locked = .closed →
      ∃ t, exec .handoverBegin s = .next t ∧ ChangesOnly [.clock, .hreq] s t
        ∧ t.clock = { s.clock with handover := some 32 })
    ∧ (s.clock.clockState = .toFull → s.clock.handover = some 0 →
      ∃ t, exec .handoverEnd s = .next t ∧ ChangesOnly [.clock, .arb, .hreq] s t
        ∧ t.clock = { s.clock with clockState := .full, handover := none } ∧ t.arb = { s.arb with grantHold := false })
    ∧ (s.clock.clockState = .toEconomy → s.clock.handover = some 0 →
      ∃ t, exec .handoverEnd s = .next t ∧ ChangesOnly [.clock, .arb, .notices, .ports, .routes, .hreq] s t
        ∧ t.clock = { s.clock with clockState := .economy, handover := none, economyReported := true }
        ∧ t.arb = { s.arb with grantHold := false }
        ∧ (s.clock.economyReported = true → ChangesOnly [.clock, .arb, .hreq] s t)
        ∧ (s.clock.economyReported = false → (∀ n ∈ s.notices.entries, n.id ≠ .internal .economy) →
          s.notices.entries.length < 64 → Entered (.internal .economy) 8 s t))

/-- SET ECONOMY sets the mode and re-evaluates the wanted state, which acts on the clock state by the rows of R92. -/
def Obligations.EconomyModeActsOnClock : Prop :=
  ∀ (s : State) (req : Request), Asked .setEconomy .hut s req →
    (2 < (byteAt req.body 0).toNat → AnswersOnly .setEconomy .hut req .outOfRange [] s)
    ∧ (∀ m : EconomyMode, byteAt req.body 0 = m.code →
      ∃ t, exec .setEconomy s = .next t
        ∧ AnsweredAfter .hut req .ok [byteAt req.body 0, t.clock.wanted.code, t.clock.clockState.code] s t
        ∧ ChangesOnly [.clock, .arb, .notices, .ports, .routes, .hreq] s t ∧ t.clock.mode = m
        ∧ t.arb = { s.arb with grantHold := t.arb.grantHold }
        ∧ (m = .forceFull → t.clock.wanted = .full) ∧ (m = .forceEconomy → t.clock.wanted = .economy)
        ∧ (m = .auto → (t.clock.wanted = .economy ↔ ∃ i, s.economyTrigger = some i
          ∧ ((s.point i).live.band = .low ∨ (s.point i).live.band = .lowlow)))
        ∧ (t.clock.wanted = s.clock.wanted → t.clock = { s.clock with mode := m } ∧ t.arb = s.arb ∧ t.notices = s.notices)
        ∧ (t.clock.wanted ≠ s.clock.wanted →
          (s.clock.clockState = .full → t.clock.wanted = .economy → t.clock.clockState = .toEconomy ∧ t.arb.grantHold = true
            ∧ t.notices = s.notices)
          ∧ (s.clock.clockState = .economy → t.clock.wanted = .full → t.clock.clockState = .toFull ∧ t.arb.grantHold = true
            ∧ t.clock.economyReported = false ∧ (s.clock.economyReported = true → NoticesSound s →
              OnlyReturned (.internal .economy) t))
          ∧ (s.clock.clockState = .toEconomy → t.clock.wanted = .full → t.clock.clockState = .full ∧ t.clock.handover = none
            ∧ t.arb.grantHold = false ∧ t.notices = s.notices)
          ∧ (s.clock.clockState = .toFull → t.clock.wanted = .economy → t.clock.clockState = .economy
            ∧ t.clock.handover = none ∧ t.arb.grantHold = false ∧ t.clock.economyReported = true)))

/-- A free grant goes to the requester that the rows of R86 name, which leaves the waiting set and composes its transaction under
its module's class as it stands, if there is one to run: the Actuator Unit its first item, a direct requester its transfer, the
Scanner its read. The first clauses say what is composed. An item whose write cannot be composed fails with reason ADDRESS; an
exchange goes on to its feedback read, its actuator in flight as EXCHANGE by the model's reading (notes/assumptions/22.md). Due entries
that cannot be read take failed samples, and a grant that finds none to read ends with the cycle, which a held start makes the next one
follow. That the response of an item that so fails joins a queue of 7 frames although the event raises the port's own summary rests on
the model's reading of R124, by which the response is placed before the port's ATTENTION is decided (notes/assumptions/14.md). The
moments of queuing are the model's own (notes/assumptions/10.md). -/
def Obligations.FreeGrantRunsChosen : Prop :=
  (∀ (s : State) (who : Requester) (m : ModIx) (o : Byte) (v : Word16),
    ((s.classOf m).width = .w8 →
      composeWrite s who m .byte o v = some (composed s who .singleWrite m [⟨o.toNat, some (v &&& 0xFF#16)⟩] [])
      ∧ composeRead s who m .byte o = some (composed s who .singleRead m [⟨o.toNat, none⟩] [o.toNat])
      ∧ (o.toNat = 255 → composeWrite s who m .word o v = none ∧ composeRead s who m .word o = none)
      ∧ (o.toNat ≠ 255 →
        composeWrite s who m .word o v = some (composed s who .doubleWrite m
          [⟨o.toNat, some (v &&& 0xFF#16)⟩, ⟨o.toNat + 1, some (v >>> 8)⟩] [])
        ∧ composeRead s who m .word o = some (composed s who .doubleRead m
          [⟨o.toNat, none⟩, ⟨o.toNat + 1, none⟩] [o.toNat, o.toNat + 1])))
    ∧ ((s.classOf m).width = .w16 →
      composeWrite s who m .byte o v = some (composed s who .singleWrite m
        [⟨o.toNat / 2, some (if o.toNat % 2 = 1 then v <<< 8 else v &&& 0xFF#16)⟩] [])
      ∧ composeRead s who m .byte o = some (composed s who .singleRead m [⟨o.toNat / 2, none⟩] [o.toNat / 2])
      ∧ (o.toNat % 2 = 1 → composeWrite s who m .word o v = none ∧ composeRead s who m .word o = none)
      ∧ (o.toNat % 2 = 0 →
        composeWrite s who m .word o v = some (composed s who .singleWrite m [⟨o.toNat / 2, some v⟩] [])
        ∧ composeRead s who m .word o = some (composed s who .singleRead m [⟨o.toNat / 2, none⟩] [o.toNat / 2]))))
  ∧ (∀ (s : State) (p : Port) (m : ModIx) (o : Byte) (v : Word16),
    (∀ (dw : DirectWidth) (w : Width), (dw = .byte ∧ w = .byte ∨ dw = .word ∧ w = .word) →
      composeDirect s p ⟨m, o, dw, some v⟩ = composeWrite s (.direct p) m w o v
      ∧ composeDirect s p ⟨m, o, dw, none⟩ = composeRead s (.direct p) m w o)
    ∧ ((s.classOf m).width = .w16 → (s.classOf m).lineReads = true → o.toNat % 2 = 0 →
      composeDirect s p ⟨m, o, .line, none⟩ = some (composed s (.direct p) .lineRead m
        ((wrapOrder (o.toNat / 2)).map fun a => ⟨a, none⟩) (wrapOrder (o.toNat / 2))))
    ∧ (((s.classOf m).width = .w8 ∨ (s.classOf m).lineReads = false ∨ o.toNat % 2 = 1) →
      composeDirect s p ⟨m, o, .line, none⟩ = none))
  ∧ (∀ (s : State) (e : PointIx) (d : Descriptor) (rest : List PointIx), s.descOf e = some d → isReadable s d = true →
    (((s.classOf d.modAddr).width = .w8 ∨ (s.classOf d.modAddr).lineReads = false) →
      composeScan s e d rest = (composeRead s .scanner d.modAddr d.width d.offset, [e]))
    ∧ ((s.classOf d.modAddr).width = .w16 → (s.classOf d.modAddr).lineReads = true →
      ∀ served, served = e :: included s d.modAddr (d.offset.toNat / 2 / 4) rest →
      (composeScan s e d rest).2 = served
      ∧ ((∀ j ∈ served, ∀ dj, s.descOf j = some dj → dj.offset.toNat / 2 = d.offset.toNat / 2) →
        (composeScan s e d rest).1 = composeRead s .scanner d.modAddr d.width d.offset)
      ∧ ((∃ j ∈ served, ∃ dj, s.descOf j = some dj ∧ dj.offset.toNat / 2 ≠ d.offset.toNat / 2) →
        ∃ needed, (composeScan s e d rest).1 = some (composed s .scanner .lineRead d.modAddr
            ((wrapOrder (d.offset.toNat / 2)).map fun a => ⟨a, none⟩) needed)
          ∧ needed.Nodup ∧ ∀ a, a ∈ needed ↔ ∃ j ∈ served, ∃ dj, s.descOf j = some dj ∧ dj.offset.toNat / 2 = a)))
  ∧ ∀ s : State, Grantable s →
    (UnitNext s → s.acts.workList = [] →
      ∃ t, exec .freeGrant s = .next t ∧ ChangesOnly [.arb, .hreq] s t
        ∧ t.arb = { s.arb with
          waiting := { s.arb.waiting with actuatorUnit := false }
          scannerWait := countedWait s })
    ∧ (UnitNext s → ∀ (w : WorkItem) (d : ActDescriptor) (v : Word16), FirstItem s.acts w → (s.actuator w.target).desc = some d →
        w.value d (s.actuator w.target) = v →
      (∀ x, composeWrite s .actuatorUnit d.modAddr d.width d.offset v = some x →
        ∃ t, exec .freeGrant s = .next t ∧ ChangesOnly [.bus, .arb, .acts, .hreq] s t
          ∧ t.bus = { s.bus with busState := .active, inFlight := some { x with exchangeWrite := isExchange w } }
          ∧ t.arb = { s.arb with
            waiting := { s.arb.waiting with actuatorUnit := false }
            tenure := some .actuatorUnit
            scannerWait := countedWait s
            locked := if isExchange w then .first else .closed }
          ∧ t.acts.workList = s.acts.workList.erase w
          ∧ t.acts.running = some ⟨w, v, true, none⟩
          ∧ t.actuator w.target = { s.actuator w.target with inFlight := if isExchange w then .exchange else .write }
          ∧ ∀ i, i ≠ w.target → t.actuator i = s.actuator i)
      ∧ (composeWrite s .actuatorUnit d.modAddr d.width d.offset v = none → isExchange w = false →
        ∃ t, exec .freeGrant s = .next t ∧ ChangesOnly [.arb, .acts, .notices, .ports, .routes, .hreq] s t
          ∧ t.arb = { s.arb with
            waiting := { s.arb.waiting with actuatorUnit := decide (s.acts.workList.erase w ≠ []) }
            scannerWait := countedWait s }
          ∧ t.acts.workList = s.acts.workList.erase w ∧ t.acts.running = s.acts.running
          ∧ AddressCounted w.target v s t ∧ (t.actuator w.target).inFlight = (s.actuator w.target).inFlight
          ∧ ((s.actuator w.target).fault = (t.actuator w.target).fault → t.notices = s.notices)
          ∧ (∀ p req, w.port = some p → (s.port p).executor = .serving req → (s.port p).output.length < 8 →
            HeldAnswered p req .outOfRange (claimPart w.target (t.actuator w.target) ++ send16 v
              ++ [0, actFlags (t.actuator w.target)] ++ sendOpt send16 [0, 0] (t.actuator w.target).output
              ++ [natByte (t.actuator w.target).faultCount]) t))
      ∧ (composeWrite s .actuatorUnit d.modAddr d.width d.offset v = none → isExchange w = true →
        (∀ y, composeFeedback s w.target = some y →
          ∃ t, exec .freeGrant s = .next t ∧ ChangesOnly [.bus, .arb, .acts, .notices, .ports, .routes, .hreq] s t
            ∧ t.bus = { s.bus with busState := .active, inFlight := some y }
            ∧ t.arb = { s.arb with
              waiting := { s.arb.waiting with actuatorUnit := false }
              tenure := some .actuatorUnit
              scannerWait := countedWait s }
            ∧ t.acts.workList = s.acts.workList.erase w
            ∧ t.acts.running = some ⟨w, v, true, some ⟨some .address, 0⟩⟩
            ∧ AddressCounted w.target v s t ∧ (t.actuator w.target).inFlight = .exchange
            ∧ ((s.actuator w.target).fault = (t.actuator w.target).fault → t.notices = s.notices))
        ∧ (composeFeedback s w.target = none →
          ∃ t, exec .freeGrant s = .next t ∧ ChangesOnly [.points, .arb, .acts, .clock, .notices, .ports, .routes, .hreq] s t
            ∧ t.arb.tenure = none ∧ t.arb.locked = .closed ∧ t.acts.workList = s.acts.workList.erase w
            ∧ t.acts.running = none ∧ AddressCounted w.target v s t ∧ (t.actuator w.target).inFlight = .no
            ∧ (∀ j e, feedbackOf s w.target = some (j, e) →
              (t.point j).live = sampledLive e s.scan.cycleNumber (s.point j) (.failed .address)
              ∧ ((s.actuator w.target).fault = (t.actuator w.target).fault → NoFailedStart j s → t.notices = s.notices)
              ∧ ((s.actuator w.target).fault = (t.actuator w.target).fault → s.notices.entries.length < 64 →
                t.notices.lost = s.notices.lost))
            ∧ (∀ p req, w.port = some p → (s.port p).executor = .serving req → (s.port p).output.length < 8 →
              HeldAnswered p req .outOfRange (exchangePart w.target (t.actuator w.target) v 0 (some .address) 0 0) t))))
    ∧ ((s.arb.waiting.scanner = true → s.arb.scannerWait < 4) → s.arb.waiting.actuatorUnit = false →
      ∀ (p : Port) (req : Request) (j : DirectJob), s.arb.rotation.find? s.arb.waiting.direct.get = some p →
        (s.port p).executor = .serving req → jobOf req = some j →
        (∀ x, composeDirect s p j = some x →
          ∃ t, exec .freeGrant s = .next t ∧ ChangesOnly [.bus, .arb, .hreq] s t
            ∧ t.bus = { s.bus with busState := .active, inFlight := some x }
            ∧ t.arb = { s.arb with
              waiting := { s.arb.waiting with direct := s.arb.waiting.direct.set p false }
              tenure := some (.direct p)
              rotation := s.arb.rotation.filter (fun q => decide (q ≠ p)) ++ [p]
              scannerWait := countedWait s })
        ∧ (composeDirect s p j = none → (s.port p).output.length < 8 →
          ∃ t, exec .freeGrant s = .next t ∧ ChangesOnly [.arb, .ports, .routes, .hreq] s t ∧ t.arb.tenure = none
            ∧ t.arb.waiting = { s.arb.waiting with direct := s.arb.waiting.direct.set p false }
            ∧ HeldAnswered p req .outOfRange [] t))
    ∧ (ScannerNext s →
      (∀ (pre rest : List PointIx) (e : PointIx) (d : Descriptor) (x : Transaction) (served : List PointIx),
        s.scan.ahead = pre ++ e :: rest → NoneReadable s pre → isDue s e = true → s.descOf e = some d →
        isReadable s d = true → composeScan s e d rest = (some x, served) → s.scan.ahead.Nodup →
        ∃ t upto after, exec .freeGrant s = .next t
          ∧ ChangesOnly [.points, .bus, .arb, .scan, .notices, .ports, .routes, .hreq] s t
          ∧ ((∀ i ∈ pre, isDue s i = false) → ChangesOnly [.bus, .arb, .scan, .hreq] s t)
          ∧ AddressesFailed pre s t
          ∧ t.bus = { s.bus with busState := .active, inFlight := some x }
          ∧ t.arb = { s.arb with
            waiting := { s.arb.waiting with scanner := false }
            tenure := some .scanner
            scannerWait := 0 }
          ∧ s.scan.ahead = upto ++ after ∧ upto.getLast? = some (served.getLastD e)
          ∧ t.scan = { s.scan with
            passed := s.scan.passed ++ upto
            ahead := after
            inFlight := some (served.map fun i => ⟨i, false⟩) })
      ∧ (NoneReadable s s.scan.ahead → s.scan.ahead.Nodup → s.scan.cycleState = .walking → s.scan.inFlight = none →
        s.scan.heldStart = false →
        ∃ t, exec .freeGrant s = .next t ∧ ChangesOnly [.points, .arb, .scan, .notices, .ports, .routes, .hreq] s t
          ∧ AddressesFailed s.scan.ahead s t
          ∧ t.arb = { s.arb with waiting := { s.arb.waiting with scanner := false }, scannerWait := 0 }
          ∧ t.scan = { s.scan with
            cycleState := .idle
            cycleNumber := s.scan.cycleNumber + 1
            passed := s.scan.list
            ahead := []
            overrun := false })
      ∧ (NoneReadable s s.scan.ahead → s.scan.ahead.Nodup → s.scan.cycleState = .walking → s.scan.inFlight = none →
        s.scan.heldStart = true → s.scan.scanState = .running → ∀ next,
        next = s.setScan { s.scan with cycleNumber := s.scan.cycleNumber + 1 } →
        ∃ t, exec .freeGrant s = .next t ∧ ChangesOnly [.points, .arb, .scan, .notices, .ports, .routes, .hreq] s t
          ∧ AddressesFailed s.scan.ahead s t
          ∧ (DueInList next → t.arb = { s.arb with scannerWait := 0 }
            ∧ t.scan = { s.scan with
              cycleState := .walking
              cycleNumber := s.scan.cycleNumber + 1
              passed := []
              ahead := s.scan.list
              heldStart := false
              periodTimer := some (if s.clock.clockState = .economy then 4 * s.scan.period else s.scan.period) })
          ∧ (¬ DueInList next →
            t.arb = { s.arb with waiting := { s.arb.waiting with scanner := false }, scannerWait := 0 }
            ∧ t.scan = { s.scan with
              cycleState := .idle
              cycleNumber := s.scan.cycleNumber + 2
              passed := s.scan.list
              ahead := []
              overrun := false
              heldStart := false
              periodTimer := some (if s.clock.clockState = .economy then 4 * s.scan.period else s.scan.period) })))

/-- The reserved grant, made once the exchange's write has completed and the bus is idle: the feedback read is composed and the
locked tenure becomes SECOND. With an unreadable feedback address the exchange completes at once, and the tenure closes. That its
response joins a queue of 7 frames although the failed sample raises the port's own summary rests on the model's reading of R124, by
which the response is placed before the port's ATTENTION is decided (notes/assumptions/14.md). -/
def Obligations.ReservedGrantReadsFeedback : Prop :=
  ∀ (s : State) (x : RunningItem) (o : WriteOutcome), s.por = false → s.acts.running = some x → x.outcome = some o →
    s.arb.locked = .first → s.bus.busState = .idle → s.bus.ended = none → NotRestarting s →
    ItemsHeld s →
    (∀ y, composeFeedback s x.item.target = some y →
      ∃ t, exec .reservedGrant s = .next t ∧ ChangesOnly [.bus, .arb, .hreq] s t
        ∧ t.bus = { s.bus with busState := .active, inFlight := some y }
        ∧ t.arb = { s.arb with locked := .second, scannerWait := countedWait s })
    ∧ (composeFeedback s x.item.target = none → expiryDue s x.item.target = false →
      ∃ t, exec .reservedGrant s = .next t ∧ t.arb.tenure = none ∧ t.arb.locked = .closed ∧ t.acts.running = none
        ∧ (t.actuator x.item.target).inFlight = .no
        ∧ ChangesOnly [.points, .arb, .acts, .clock, .notices, .ports, .routes, .hreq] s t
        ∧ (∀ j d, feedbackOf s x.item.target = some (j, d) →
          (t.point j).live = sampledLive d s.scan.cycleNumber (s.point j) (.failed .address))
        ∧ (∀ p req, x.answer = true → x.item.port = some p → (s.port p).executor = .serving req →
          (s.port p).output.length < 8 →
          HeldAnswered p req (exchangeResult o.failure (some .address)) (exchangePart x.item.target
            (t.actuator x.item.target) x.value o.beats (some .address) 0 0) t))

/-- A direct transaction's results are taken: the tenure ends and the response is placed, waits for room, or is discarded with its
request. A LINE response carries the burst-inhibit flag and an entry for each of the four words in beat order. The codes of that
flag and of an entry's delivered flag are the model's choice (notes/assumptions/31.md). -/
def Obligations.DirectTransferCompletes : Prop :=
  ∀ (s : State) (x : Transaction) (p : Port), s.por = false → s.bus.ended = some x → x.requester = .direct p →
    (x.discarded = true → ∃ t, exec .directTransferCompletion s = .next t ∧ ChangesOnly [.bus, .arb, .hreq] s t
      ∧ t.bus = { s.bus with ended := none } ∧ t.arb = { s.arb with tenure := none })
    ∧ (∀ req j, x.discarded = false → (s.port p).executor = .serving req → jobOf req = some j →
      ∃ t, exec .directTransferCompletion s = .next t ∧ ChangesOnly [.bus, .arb, .ports, .routes, .hreq] s t
        ∧ t.bus = { s.bus with ended := none } ∧ t.arb = { s.arb with tenure := none }
        ∧ ((s.port p).output.length < 8 → t.ports = s.ports.set p { s.port p with
            executor := .idle
            output := (s.port p).output ++ [responseFrame req.kind req.tag (txResult x).code (s.port p).summary
              (directBody x j) .response] })
        ∧ (8 ≤ (s.port p).output.length →
          t.ports = s.ports.set p { s.port p with executor := .waitingForRoom req ⟨txResult x, directBody x j⟩ }
            ∧ t.routes = s.routes)
        ∧ (x.failure = none → txResult x = .ok) ∧ (x.failure = some .timeout → txResult x = .busTimeout)
        ∧ (x.failure = some .error → txResult x = .busError)
        ∧ (j.value.isSome = true → directBody x j = [natByte j.modAddr.val, j.offset, j.width.code, natByte x.clsNo.val,
          x.cls.width.code, natByte x.answered])
        ∧ (j.value = none → j.width ≠ .line → x.failure.isSome = true → directBody x j = [natByte j.modAddr.val, j.offset,
          j.width.code, natByte x.clsNo.val, x.cls.width.code])
        ∧ (∀ v, j.value = none → j.width = .byte → x.failure = none → directValue x .byte j.offset = some v →
          directBody x j = [natByte j.modAddr.val, j.offset, 0, natByte x.clsNo.val, x.cls.width.code] ++ send16 v)
        ∧ (∀ v, j.value = none → j.width = .word → x.failure = none → directValue x .word j.offset = some v →
          directBody x j = [natByte j.modAddr.val, j.offset, 1, natByte x.clsNo.val, x.cls.width.code] ++ send16 v)
        ∧ (j.value = none → j.width = .line → ∃ entry : Nat → List Byte,
          directBody x j = [natByte j.modAddr.val, j.offset, 2, natByte x.clsNo.val, x.cls.width.code,
              if x.inhibited then 1 else 0] ++ (wrapOrder (j.offset.toNat / 2)).flatMap entry
            ∧ ∀ a, (∀ v, deliveredAt x.delivered a = some v → entry a = [natByte a, 1] ++ send16 v)
              ∧ (deliveredAt x.delivered a = none → entry a = [natByte a, 0, 0, 0])))

/-! ## The Notice Table and its delivery -/

/-- ACK NOTICE acts by the rows of R109. -/
def Obligations.NoticeAcknowledgedByRows : Prop :=
  ∀ (p : Port) (s : State) (req : Request) (b : List Byte), Asked .ackNotice p s req → req.body = b →
    (noticeIdOf (byteAt b 0) (byteAt b 1) (byteAt b 2) = none → AnswersOnly (.ackNotice p) p req .outOfRange [] s)
    ∧ (∀ id, noticeIdOf (byteAt b 0) (byteAt b 1) (byteAt b 2) = some id →
      ((∀ n ∈ s.notices.entries, n.id ≠ id) → AnswersOnly (.ackNotice p) p req .notFound [] s)
      ∧ (∀ n ∈ s.notices.entries, n.id = id → NoticesSound s →
        ((maskOfNotice s n).get p = false → AnswersOnly (.ackNotice p) p req .portProtected [] s)
        ∧ ((maskOfNotice s n).get p = true → n.state = .acked →
          AnswersOnly (.ackNotice p) p req .alreadyAcked [holderCode n.ackedBy] s)
        ∧ ((maskOfNotice s n).get p = true → n.state = .raised →
          ∃ t, exec (.ackNotice p) s = .next t ∧ AnsweredAfter p req .ok [2] s t ∧ SummariesFollow t
            ∧ ChangesOnly [.notices, .ports, .routes, .hreq] s t
            ∧ t.notices = { s.notices with entries := s.notices.entries.map fun m =>
                if m.id = id then { m with state := .acked, ackedBy := some p } else m })
        ∧ ((maskOfNotice s n).get p = true → n.state = .returned →
          ∃ t, exec (.ackNotice p) s = .next t ∧ AnsweredAfter p req .ok [0] s t ∧ SummariesFollow t
            ∧ ChangesOnly [.notices, .ports, .routes, .hreq] s t
            ∧ t.notices = { s.notices with entries := s.notices.entries.filter fun m => decide (m.id ≠ id) })))

/-- POST and UNPOST: what is refused, what the slot and its entry become. That a mask with bits 3 to 7 is refused, that NOT_POSTER of
a free slot carries nothing, and that the oldest stamp is the least unsigned number, also across a wrap of the uptime, is the model's
choice (notes/assumptions/20.md, 18.md and 16.md). -/
def Obligations.PostedSlotsPostedAndFreed : Prop :=
  ∀ (p : Port) (s : State) (req : Request) (b : List Byte), req.body = b →
    (Asked .post p s req →
      ((7 < (byteAt b 0).toNat ∨ (byteAt b 1).toNat = 0 ∨ 31 < (byteAt b 1).toNat ∨ (byteAt b 4).toNat = 0
          ∨ 7 < (byteAt b 4).toNat) →
        AnswersOnly (.post p) p req .outOfRange [] s)
      ∧ (∀ (k : SlotIx) (m : PortSet), (byteAt b 0).toNat = k.val → 1 ≤ (byteAt b 1).toNat → (byteAt b 1).toNat ≤ 31 →
        maskOf (byteAt b 4) = some m → m.isEmpty = false →
        (∀ x, s.notices.slots.get k = some x → x.poster ≠ p → AnswersOnly (.post p) p req .notPoster [Port.code x.poster] s)
        ∧ ((∀ x, s.notices.slots.get k = some x → x.poster = p) → NoticesSound s →
          ∃ t, exec (.post p) s = .next t ∧ SummariesFollow t ∧ ChangesOnly [.notices, .ports, .routes, .hreq] s t
            ∧ AnsweredAfter p req .ok [byteAt b 0, Port.code p, entryOutcome t k] s t
            ∧ t.notices.slots.get k = some ⟨p, (byteAt b 1).toNat, word16At b 2, m⟩
            ∧ (∀ j, j ≠ k → t.notices.slots.get j = s.notices.slots.get j) ∧ t.notices.thresholds = s.notices.thresholds
            ∧ (∀ n ∈ s.notices.entries, n.id = .posted k → entryOutcome t k = 1 ∧ t.notices.lost = s.notices.lost
              ∧ t.notices.entries = s.notices.entries.map fun e => if e.id = .posted k then { e with
                tag := 0
                severity := none
                priority := (byteAt b 1).toNat
                group := 0
                state := .raised
                stamp := s.uptime
                value := none
                ackedBy := none
                delivered := .empty
                code := some (word16At b 2)
                postedMask := some m } else e)
            ∧ ((∀ n ∈ s.notices.entries, n.id ≠ .posted k) → s.notices.entries.length < 64 →
              entryOutcome t k = 1 ∧ t.notices.lost = s.notices.lost
              ∧ t.notices.entries = s.notices.entries ++ [⟨.posted k, 0, none, (byteAt b 1).toNat, 0, .raised, s.uptime, none,
                none, some (word16At b 2), some m, .empty⟩])
            ∧ ((∀ n ∈ s.notices.entries, n.id ≠ .posted k) → s.notices.entries.length = 64 → ∀ v ∈ s.notices.entries,
              v.state = .returned → v.priority ≤ (byteAt b 1).toNat →
              (∀ n ∈ s.notices.entries, n.state = .returned → n.id = v.id ∨ v.priority < n.priority
                ∨ v.priority = n.priority ∧ (v.stamp.toNat < n.stamp.toNat
                  ∨ v.stamp = n.stamp ∧ identityKey v.id < identityKey n.id)) →
              entryOutcome t k = 1 ∧ t.notices.lost = s.notices.lost
              ∧ t.notices.entries = s.notices.entries.map fun e => if e.id = v.id then ⟨.posted k, 0, none,
                (byteAt b 1).toNat, 0, .raised, s.uptime, none, none, some (word16At b 2), some m, .empty⟩ else e)
            ∧ ((∀ n ∈ s.notices.entries, n.id ≠ .posted k) → s.notices.entries.length = 64 →
              (∀ n ∈ s.notices.entries, n.state = .returned → (byteAt b 1).toNat < n.priority) →
              entryOutcome t k = 0 ∧ t.notices.entries = s.notices.entries ∧ t.notices.lost = .all))))
    ∧ (Asked .unpost p s req →
      (7 < (byteAt b 0).toNat → AnswersOnly (.unpost p) p req .outOfRange [] s)
      ∧ (∀ k : SlotIx, (byteAt b 0).toNat = k.val →
        (s.notices.slots.get k = none → AnswersOnly (.unpost p) p req .notPoster [] s)
        ∧ (∀ x, s.notices.slots.get k = some x →
          (x.poster ≠ p → AnswersOnly (.unpost p) p req .notPoster [Port.code x.poster] s)
          ∧ (x.poster = p → NoticesSound s →
            ∃ t, exec (.unpost p) s = .next t ∧ SummariesFollow t ∧ ChangesOnly [.notices, .ports, .routes, .hreq] s t
              ∧ AnsweredAfter p req .ok [entryOutcome t k] s t
              ∧ t.notices.slots.get k = none ∧ (∀ j, j ≠ k → t.notices.slots.get j = s.notices.slots.get j)
              ∧ t.notices.thresholds = s.notices.thresholds ∧ t.notices.lost = s.notices.lost
              ∧ (∀ n ∈ s.notices.entries, n.id ≠ .posted k → n ∈ t.notices.entries)
              ∧ (∀ n ∈ s.notices.entries, n.id = .posted k → n.state = .acked → entryOutcome t k = 0)
              ∧ (∀ n ∈ s.notices.entries, n.id = .posted k → n.state ≠ .acked → entryOutcome t k = 3)
              ∧ ((∀ n ∈ s.notices.entries, n.id ≠ .posted k) → entryOutcome t k = 0
                ∧ t.notices.entries = s.notices.entries)))))

/-- SET GROUP THRESHOLD replaces one group's threshold, and SET LEVEL the port's service level clamped to 31; each is answered after
the summaries were recomputed. -/
def Obligations.ThresholdAndLevelSet : Prop :=
  ∀ (p : Port) (s : State) (req : Request) (b : List Byte), req.body = b →
    (Asked .setGroupThreshold p s req →
      (((byteAt b 0).toNat = 0 ∨ 7 < (byteAt b 0).toNat ∨ 31 < (byteAt b 1).toNat) →
        AnswersOnly (.setGroupThreshold p) p req .outOfRange [] s)
      ∧ (∀ k : Fin 7, (byteAt b 0).toNat = k.val + 1 → (byteAt b 1).toNat ≤ 31 →
        ∃ t, exec (.setGroupThreshold p) s = .next t ∧ SummariesFollow t ∧ ChangesOnly [.notices, .ports, .routes, .hreq] s t
          ∧ AnsweredAfter p req .ok (t.notices.thresholds.toList.map natByte) s t
          ∧ t.notices = { s.notices with thresholds := t.notices.thresholds }
          ∧ t.notices.thresholds.get k = (byteAt b 1).toNat
          ∧ ∀ j, j ≠ k → t.notices.thresholds.get j = s.notices.thresholds.get j))
    ∧ (Asked .setLevel p s req →
      ∃ t, exec (.setLevel p) s = .next t ∧ SummariesFollow t ∧ ChangesOnly [.ports, .routes, .hreq] s t
        ∧ (t.port p).level = min 31 (byteAt b 0).toNat
        ∧ (t.port p).output.getLast? = some (responseFrame req.kind req.tag 0 (t.port p).summary
          [natByte (min 31 (byteAt b 0).toNat)] .response)
        ∧ (t.port p).executor = .idle ∧ (t.port p).requests = (s.port p).requests.tail
        ∧ ∀ q, q ≠ p → DeliveryOnly (s.port q) (t.port q))

/-- FETCH NOTICE without an identity returns the most urgent entry offerable to the port and marks it delivered to that port. That
the oldest stamp is the least unsigned number, also across a wrap of the uptime, is the model's reading (notes/assumptions/16.md). -/
def Obligations.FetchReturnsMostUrgent : Prop :=
  ∀ (p : Port) (s : State) (req : Request), Asked .fetchNotice p s req → req.body = [] →
    (offered s p = [] → AnswersOnly (.fetchNotice p) p req .noneOffered [] s)
    ∧ (∀ n ∈ offered s p,
      (∀ m ∈ offered s p, m.id = n.id ∨ m.priority < n.priority ∨ m.priority = n.priority ∧ (n.stamp.toNat < m.stamp.toNat
        ∨ n.stamp = m.stamp ∧ identityKey n.id < identityKey m.id)) → NoticesSound s →
      ∃ t, exec (.fetchNotice p) s = .next t ∧ SummariesFollow t ∧ ChangesOnly [.notices, .ports, .routes, .hreq] s t
        ∧ AnsweredAfter p req .ok (noticeRecord t p { n with delivered := n.delivered.set p true }) s t
        ∧ t.notices = { s.notices with entries := s.notices.entries.map fun m =>
          if m.id = n.id then { m with delivered := m.delivered.set p true } else m }
        ∧ ∀ m ∈ offered t p, m ∈ offered s p ∧ m.id ≠ n.id)

/-- FETCH NOTICE with an identity returns the entry and changes no state; READ SUMMARY returns the summary record and clears the
port's lost flag. -/
def Obligations.RecordsReadBack : Prop :=
  ∀ (p : Port) (s : State) (req : Request) (b : List Byte), req.body = b →
    (Asked .fetchNotice p s req → b ≠ [] →
      (noticeIdOf (byteAt b 0) (byteAt b 1) (byteAt b 2) = none → AnswersOnly (.fetchNoticeIdentity p) p req .outOfRange [] s)
      ∧ (∀ id, noticeIdOf (byteAt b 0) (byteAt b 1) (byteAt b 2) = some id →
        ((∀ n ∈ s.notices.entries, n.id ≠ id) → AnswersOnly (.fetchNoticeIdentity p) p req .notFound [] s)
        ∧ (∀ n ∈ s.notices.entries, n.id = id → NoticesSound s →
          ((maskOfNotice s n).get p = false → AnswersOnly (.fetchNoticeIdentity p) p req .portProtected [] s)
          ∧ ((maskOfNotice s n).get p = true →
            AnswersOnly (.fetchNoticeIdentity p) p req .ok (noticeRecord s p n) s))))
    ∧ (Asked .readSummary p s req →
      ∃ t, exec (.readSummary p) s = .next t ∧ ChangesOnly [.notices, .ports, .routes, .hreq] s t
        ∧ Answered p req .ok ([natByte (s.port p).level, natByte (offered s p).length,
            natByte (s.notices.entries.filter (fun n => decide (n.state = .raised))).length,
            natByte (s.notices.entries.filter (fun n => decide (n.state = .acked))).length,
            natByte (s.notices.entries.filter (fun n => decide (n.state = .returned))).length,
            (if s.notices.lost.get p then 1 else 0), s.clock.clockState.code, s.scan.scanState.code,
            natByte ((if (s.route .east).linkUp then 1 else 0) + if (s.route .west).linkUp then 2 else 0)]
          ++ send32 s.uptime) s t
        ∧ t.notices = { s.notices with lost := s.notices.lost.set p false })

/-! ## The Actuator Unit -/

/-- DEFINE ACTUATOR and UNDEFINE ACTUATOR: what is refused, and what an accepted one leaves of the entry, its pending item and its
notice. No expiry of the claim is due. -/
def Obligations.ActuatorDefinedAndUndefined : Prop :=
  ∀ (p : Port) (s : State) (req : Request) (i : ActIx), (byteAt req.body 0).toNat = i.val → expiryDue s i = false →
    (Asked .defineActuator p s req → actDescriptorOf (req.body.drop 1) = none →
      AnswersOnly (.defineActuator p) p req .outOfRange [] s)
    ∧ (∀ b, req.body.drop 1 = b → (127 < (byteAt b 0).toNat
        ∨ word16At b 7 < word16At b 5 ∨ (byteAt b 2).toNat % 2 = 0 ∧ 255 < (word16At b 7).toNat ∨ 31 < (byteAt b 11).toNat) →
      actDescriptorOf b = none)
    ∧ (Asked .defineActuator p s req → ∀ new, actDescriptorOf (req.body.drop 1) = some new →
      (((s.actuator i).holder.isSome = true ∨ (s.actuator i).inFlight ≠ .no) →
        AnswersOnly (.defineActuator p) p req .inUse [] s)
      ∧ ((s.actuator i).holder = none → (s.actuator i).inFlight = .no →
        ((feedbackDefined s new = false ∨ actuatorAddressable s new = false) →
          AnswersOnly (.defineActuator p) p req .badLimits [] s)
        ∧ (feedbackDefined s new = true → actuatorAddressable s new = true →
          ∃ t, exec (.defineActuator p) s = .next t ∧ SummariesFollow t
            ∧ ChangesOnly [.acts, .arb, .notices, .ports, .routes, .hreq] s t
            ∧ AnsweredAfter p req .ok (natByte i.val :: actDescriptorBytes new) s t
            ∧ t.actuator i = { ActuatorEntry.initial with
                desc := some new
                refreshTimer := if new.kind = .held then some new.interval else none }
            ∧ (∀ j, j ≠ i → t.actuator j = s.actuator j) ∧ t.acts.running = s.acts.running
            ∧ t.acts.workList = s.acts.workList.filter (fun w => decide (w ≠ .policy i) && decide (w ≠ .refresh i))
              ++ (if new.kind = .held then [.policy i] else [])
            ∧ ((s.actuator i).fault = false → t.notices = s.notices)
            ∧ ((s.actuator i).fault = true → NoticesSound s → OnlyReturned (.actuator i) t))))
    ∧ (Asked .undefineActuator p s req →
      ((s.actuator i).desc = none → AnswersOnly (.undefineActuator p) p req .notDefined [] s)
      ∧ ((s.actuator i).desc ≠ none → ((s.actuator i).holder.isSome = true ∨ (s.actuator i).inFlight ≠ .no) →
        AnswersOnly (.undefineActuator p) p req .inUse [] s)
      ∧ ((s.actuator i).desc ≠ none → (s.actuator i).holder = none → (s.actuator i).inFlight = .no →
        ∃ t, exec (.undefineActuator p) s = .next t ∧ SummariesFollow t ∧ ChangesOnly [.acts, .notices, .ports, .routes, .hreq] s t
          ∧ AnsweredAfter p req .ok [] s t ∧ t.actuator i = ActuatorEntry.initial
          ∧ (∀ j, j ≠ i → t.actuator j = s.actuator j) ∧ t.acts.running = s.acts.running
          ∧ t.acts.workList = s.acts.workList.filter (fun w => decide (w ≠ .policy i) && decide (w ≠ .refresh i))
          ∧ t.notices = { s.notices with entries := s.notices.entries.filter fun n => decide (n.id ≠ .actuator i) }))

/-- CLAIM, EXCHANGE, COMMAND and RELEASE are refused in the order of R143, with no expiry of the actuator's claim due; an index
above 31 refuses READ ACTUATOR, DEFINE ACTUATOR and UNDEFINE ACTUATOR too. -/
def Obligations.ActuatorRequestsRefusedInOrder : Prop :=
  (∀ (p : Port) (s : State) (req : Request) (k : Kind) (c : Instr), 31 < (byteAt req.body 0).toNat →
    ((k, c) = (.claim, .claim p) ∨ (k, c) = (.exchange, .exchange p) ∨ (k, c) = (.command, .command p)
      ∨ (k, c) = (.release, .release p) ∨ (k, c) = (.readActuator, .readActuator p)
      ∨ (k, c) = (.defineActuator, .defineActuator p) ∨ (k, c) = (.undefineActuator, .undefineActuator p)) →
    Asked k p s req → AnswersOnly c p req .outOfRange [] s)
  ∧ ∀ (p : Port) (s : State) (req : Request) (i : ActIx), (byteAt req.body 0).toNat = i.val → expiryDue s i = false →
    ∀ (k : Kind) (c : Instr), ((k, c) = (.claim, .claim p) ∨ (k, c) = (.exchange, .exchange p) ∨ (k, c) = (.command, .command p)
      ∨ (k, c) = (.release, .release p)) → Asked k p s req →
    ((s.actuator i).desc = none → AnswersOnly c p req .notDefined [] s)
    ∧ (∀ d, (s.actuator i).desc = some d →
      (k = .exchange → d.feedback = none → AnswersOnly c p req .noFeedback [] s)
      ∧ ((k = .claim ∨ k = .exchange ∧ d.feedback ≠ none) →
        (d.portMask.get p = false → AnswersOnly c p req .portProtected [] s)
        ∧ (d.portMask.get p = true → p ≠ .hut → siteAsserted s = true → AnswersOnly c p req .siteLocal [] s)
        ∧ (d.portMask.get p = true → (p = .hut ∨ siteAsserted s = false) →
          (∀ q, (s.actuator i).holder = some q → q ≠ p → AnswersOnly c p req .heldBy (claimPart i (s.actuator i)) s)
          ∧ (((s.actuator i).holder = none ∨ (s.actuator i).holder = some p) → k = .exchange →
            d.maxValue.toNat < (word16At req.body 1).toNat → AnswersOnly c p req .outOfRange [] s)))
      ∧ ((k = .command ∨ k = .release) →
        ((s.actuator i).holder ≠ some p → AnswersOnly c p req .notHolder (claimPart i (s.actuator i)) s)
        ∧ ((s.actuator i).holder = some p → k = .command → d.maxValue.toNat < (word16At req.body 1).toNat →
          AnswersOnly c p req .outOfRange [] s)))

/-- A claim is granted or renewed for the clamped lease, released by its holder, or ends at its expiry; READ ACTUATOR reads the
entry. The moments of queuing are the model's own (notes/assumptions/10.md). -/
def Obligations.ClaimsGrantedReadAndEnded : Prop :=
  (∀ (p : Port) (s : State) (req : Request) (i : ActIx) (d : ActDescriptor), (byteAt req.body 0).toNat = i.val →
    expiryDue s i = false → (s.actuator i).desc = some d →
    (Asked .claim p s req → d.portMask.get p = true → (p = .hut ∨ siteAsserted s = false) →
      ((s.actuator i).holder = none ∨ (s.actuator i).holder = some p) →
      ∃ t, exec (.claim p) s = .next t ∧ ChangesOnly [.acts, .ports, .routes, .hreq] s t
        ∧ Answered p req .ok ([byteAt req.body 0, Port.code p] ++ sendNat16 (min 3600 (max 1 (word16At req.body 1).toNat))) s t
        ∧ t.acts = (s.setActuator i { s.actuator i with
            holder := some p
            lease := min 3600 (max 1 (word16At req.body 1).toNat) }).acts)
    ∧ (Asked .release p s req → (s.actuator i).holder = some p → NoItems p s →
      ∃ t, exec (.release p) s = .next t ∧ ChangesOnly [.acts, .arb, .ports, .routes, .hreq] s t
        ∧ Answered p req .ok ([byteAt req.body 0, 3] ++ sendNat16 0) s t ∧ ClaimEnded i s t
        ∧ (∀ j, j ≠ i → t.actuator j = s.actuator j) ∧ t.acts.running = s.acts.running
        ∧ (d.policy = .keep → t.acts.workList = s.acts.workList ∧ t.arb = s.arb)
        ∧ (d.policy = .safe → .policy i ∉ s.acts.workList →
          t.acts.moments.queuedAt.get i = s.acts.moments.now + 1 ∧ t.acts.moments.now = s.acts.moments.now + 2))
    ∧ (Asked .readActuator p s req →
      AnswersOnly (.readActuator p) p req .ok
        ([1] ++ actDescriptorBytes d ++ actLiveBytes i s.acts.workList (s.actuator i)) s))
  ∧ (∀ (p : Port) (s : State) (req : Request) (i : ActIx), (byteAt req.body 0).toNat = i.val → expiryDue s i = false →
    (s.actuator i).desc = none → Asked .readActuator p s req → AnswersOnly (.readActuator p) p req .ok [0] s)
  ∧ (∀ (s : State) (i : ActIx) (p : Port), s.por = false → (s.actuator i).holder = some p → (s.actuator i).lease = 0 →
    ∃ t, exec (.leaseExpiry i.val) s = .next t ∧ ChangesOnly [.acts, .arb, .ports, .routes, .hreq] s t ∧ ClaimEnded i s t
      ∧ (∀ j, j ≠ i → t.actuator j = s.actuator j)
      ∧ (∀ d, (s.actuator i).desc = some d → d.policy = .safe → .policy i ∉ s.acts.workList →
        t.acts.moments.queuedAt.get i = s.acts.moments.ticked)
      ∧ (NoItems p s → t.ports = s.ports ∧ t.routes = s.routes)
      ∧ (∀ w req, w ∈ s.acts.workList → w.port = some p → w.target = i → (s.port p).executor = .serving req →
        (s.port p).output.length < 8 →
        HeldAnswered p req .notHolder ([natByte i.val, 3] ++ sendNat16 0) t
          ∧ ∀ v ∈ t.acts.workList, v.port = some p → v.target ≠ i))

/-- An accepted COMMAND, and an accepted EXCHANGE with its claim, join the work list and hold the executor. -/
def Obligations.CommandAndExchangeQueued : Prop :=
  ∀ (p : Port) (s : State) (req : Request) (i : ActIx) (d : ActDescriptor) (v : Word16), (byteAt req.body 0).toNat = i.val →
    expiryDue s i = false → (s.actuator i).desc = some d → word16At req.body 1 = v → v.toNat ≤ d.maxValue.toNat →
    (Taken s p req → kindOf req.kind = some .command → (s.actuator i).holder = some p →
      ∃ t, exec (.command p) s = .next t ∧ Holding p req s t ∧ ChangesOnly [.acts, .arb, .ports, .hreq] s t
        ∧ t.acts = { (s.setActuator i { s.actuator i with requested := some v }).acts with
            workList := s.acts.workList ++ [.command p i v] }
        ∧ t.arb = { s.arb with waiting := { s.arb.waiting with
            actuatorUnit := s.arb.waiting.actuatorUnit || decide (s.arb.tenure ≠ some .actuatorUnit) } })
    ∧ (Taken s p req → kindOf req.kind = some .exchange → d.feedback ≠ none → d.portMask.get p = true →
      (p = .hut ∨ siteAsserted s = false) → ((s.actuator i).holder = none ∨ (s.actuator i).holder = some p) →
      ∃ t lease, exec (.exchange p) s = .next t ∧ Holding p req s t ∧ ChangesOnly [.acts, .arb, .ports, .hreq] s t
        ∧ t.acts = { (s.setActuator i { s.actuator i with
            requested := some v
            holder := some p
            lease := lease }).acts with
          workList := s.acts.workList ++ [.exchange p i v] }
        ∧ (word16At req.body 3 = 0 → (s.actuator i).holder = none → lease = 60)
        ∧ (word16At req.body 3 = 0 → (s.actuator i).holder = some p → lease = (s.actuator i).lease)
        ∧ (word16At req.body 3 ≠ 0 → lease = min 3600 (word16At req.body 3).toNat)
        ∧ t.arb = { s.arb with waiting := { s.arb.waiting with
            actuatorUnit := s.arb.waiting.actuatorUnit || decide (s.arb.tenure ≠ some .actuatorUnit) } })

/-- The write of an item completes: its outcome updates the actuator, and the tenure ends, but for an exchange, whose tenure goes
on to the feedback read. A successful COMMAND or exchange write takes a pending REFRESH of the actuator out of the work list. That
the response joins a queue of 7 frames although the FAULT report raises the port's own summary rests on the model's reading of R124, by
which the response is placed before the port's ATTENTION is decided (notes/assumptions/14.md). -/
def Obligations.ActuatorWriteCompletes : Prop :=
  ∀ (s : State) (x : Transaction) (y : RunningItem) (i : ActIx), s.por = false → s.bus.ended = some x →
    s.acts.running = some y → x.requester = .actuatorUnit → (x.kind = .singleWrite ∨ x.kind = .doubleWrite) →
    y.item.target = i → expiryDue s i = false → ItemsHeld s →
    ∃ t, exec .actuatorWriteCompletion s = .next t
      ∧ ChangesOnly [.bus, .arb, .acts, .notices, .ports, .routes, .hreq] s t ∧ t.bus = { s.bus with ended := none }
      ∧ WriteCounted (s.actuator i) y.value x.failure (t.actuator i) ∧ (∀ j, j ≠ i → t.actuator j = s.actuator j)
      ∧ (x.failure = none → ∀ d, (s.actuator i).desc = some d → (t.actuator i).refreshTimer
        = if d.kind = .held ∧ y.item ≠ .refresh i then some d.interval else (s.actuator i).refreshTimer)
      ∧ t.acts.workList = (if x.failure = none ∧ y.item ≠ .policy i ∧ y.item ≠ .refresh i
        then s.acts.workList.filter (fun w => decide (w ≠ .refresh i)) else s.acts.workList)
      ∧ ((s.actuator i).fault = false → (t.actuator i).fault = true → (∀ n ∈ s.notices.entries, n.id ≠ .actuator i) →
        s.notices.entries.length < 64 → ∀ d, (s.actuator i).desc = some d → d.faultPriority ≠ 0 →
        Entered (.actuator i) d.faultPriority s t)
      ∧ ((s.actuator i).fault = (t.actuator i).fault → t.notices = s.notices)
      ∧ ((s.actuator i).fault = true → (t.actuator i).fault = false → NoticesSound s → OnlyReturned (.actuator i) t)
      ∧ (x.exchangeWrite = true → t.acts.running = some { y with outcome := some ⟨x.failure, x.answered⟩ }
        ∧ t.arb = s.arb ∧ (t.actuator i).inFlight = (s.actuator i).inFlight)
      ∧ (x.exchangeWrite = false → t.acts.running = none ∧ t.arb.tenure = none ∧ (t.actuator i).inFlight = .no
        ∧ (t.acts.workList ≠ [] → t.arb.waiting.actuatorUnit = true)
        ∧ (∀ p req, y.answer = true → y.item.port = some p → (s.port p).executor = .serving req →
          (s.port p).output.length < 8 →
          HeldAnswered p req (txResult x) (claimPart i (t.actuator i) ++ send16 y.value
            ++ [natByte x.answered, actFlags (t.actuator i)] ++ sendOpt send16 [0, 0] (t.actuator i).output
            ++ [natByte (t.actuator i).faultCount]) t))

/-- The feedback read of an exchange completes: the tenure and the locked tenure close, the feedback point takes its sample, and
the response carries the outcomes of both parts. That it joins a queue of 7 frames although the sample's report raises the port's own
summary rests on the model's reading of R124, by which the response is placed before the port's ATTENTION is decided
(notes/assumptions/14.md). -/
def Obligations.ExchangeReadCompletes : Prop :=
  ∀ (s : State) (x : Transaction) (y : RunningItem) (o : WriteOutcome) (j : PointIx) (d : Descriptor), s.por = false →
    s.bus.ended = some x → s.acts.running = some y → x.requester = .actuatorUnit →
    (x.kind = .singleRead ∨ x.kind = .doubleRead) → y.outcome = some o → feedbackOf s y.item.target = some (j, d) →
    expiryDue s y.item.target = false → ItemsHeld s →
    ∃ t, exec .exchangeReadCompletion s = .next t
      ∧ ChangesOnly [.points, .bus, .arb, .acts, .clock, .notices, .ports, .routes, .hreq] s t
      ∧ t.bus = { s.bus with ended := none } ∧ t.arb.tenure = none ∧ t.arb.locked = .closed ∧ t.acts.running = none
      ∧ (t.actuator y.item.target).inFlight = .no ∧ (t.actuator y.item.target).output = (s.actuator y.item.target).output
      ∧ (t.point j).live = sampledLive d s.scan.cycleNumber (s.point j) (sampleFrom x d)
      ∧ (t.point j).scanMark = markAfter (s.point j) (sampleFrom x d) ∧ OtherPointsKept j s t
      ∧ (∀ p req, y.answer = true → y.item.port = some p → (s.port p).executor = .serving req →
        (s.port p).output.length < 8 →
        HeldAnswered p req (exchangeResult o.failure (sampleFrom x d).failure) (exchangePart y.item.target
          (t.actuator y.item.target) y.value o.beats (sampleFrom x d).failure (readReport s y.item.target (sampleFrom x d)).1
          (readReport s y.item.target (sampleFrom x d)).2) t)

/-- A tick of the second timebase raises the uptime, wrapping, and lowers every lease by 1; the expiry of a refresh timer restarts
it and queues a REFRESH unless the actuator has a pending item, and a refresh timer that has not reached 0 has no expiry
(notes/assumptions/1.md and 5.md). That a claim whose lease the tick takes to 0 keeps its holder until
LEASE_EXPIRY, or until a command reads it, is the model's choice (notes/assumptions/11.md), and the moments of queuing are the
model's own (notes/assumptions/10.md). -/
def Obligations.TicksAndRefreshes : Prop :=
  (∀ s : State, s.por = false →
    ∃ t, exec .secondTick s = .next t ∧ ChangesOnly [.acts, .uptime, .hreq] s t ∧ t.uptime = s.uptime + 1
      ∧ (∀ i, t.actuator i = { s.actuator i with lease := (s.actuator i).lease - 1 })
      ∧ t.acts.workList = s.acts.workList ∧ t.acts.running = s.acts.running
      ∧ t.acts.moments = { s.acts.moments with now := s.acts.moments.now + 1, ticked := s.acts.moments.now + 1 })
  ∧ (∀ (s : State) (i : ActIx), (s.actuator i).refreshTimer ≠ some 0 → exec (.refreshTimerExpiry i.val) s = .next s)
  ∧ (∀ (s : State) (i : ActIx) (d : ActDescriptor), s.por = false → (s.actuator i).refreshTimer = some 0 →
    (s.actuator i).desc = some d → d.kind = .held →
    ∃ t, exec (.refreshTimerExpiry i.val) s = .next t ∧ ChangesOnly [.acts, .arb, .hreq] s t
      ∧ t.actuator i = { s.actuator i with refreshTimer := some d.interval } ∧ (∀ j, j ≠ i → t.actuator j = s.actuator j)
      ∧ t.acts.running = s.acts.running
      ∧ ((WorkItem.policy i ∈ s.acts.workList ∨ WorkItem.refresh i ∈ s.acts.workList) →
        t.acts.workList = s.acts.workList ∧ t.arb = s.arb ∧ t.acts.moments = s.acts.moments)
      ∧ (WorkItem.policy i ∉ s.acts.workList → WorkItem.refresh i ∉ s.acts.workList →
        t.acts.workList = s.acts.workList ++ [.refresh i] ∧ t.acts.moments.queuedAt.get i = s.acts.moments.now
          ∧ t.acts.moments.now = s.acts.moments.now
          ∧ (s.arb.tenure ≠ some .actuatorUnit → t.arb.waiting.actuatorUnit = true)))

/-! ## The Hut Link Unit -/

/-- A referred request fills the FREE slot of lowest number, or is answered MALFORMED, NO_ANSWER or BUSY; TAKE REFERRAL gives the
oldest UNTAKEN one. -/
def Obligations.ReferralMadeAndTaken : Prop :=
  (∀ (r : RoutePort) (s : State) (req : Request), 0xE0 ≤ req.kind.toNat →
    (238 < req.body.length → Ready s (toPort r) req → AnswersOnly (.referral r) (toPort r) req .malformed [] s)
    ∧ (req.body.length ≤ 238 → s.link.pulse = true → Ready s (toPort r) req →
      AnswersOnly (.referral r) (toPort r) req .noAnswer [] s)
    ∧ (req.body.length ≤ 238 → s.link.pulse = false → (∀ k, s.slot k ≠ .free) → Ready s (toPort r) req →
      AnswersOnly (.referral r) (toPort r) req .busy [] s)
    ∧ (∀ k, req.body.length ≤ 238 → s.link.pulse = false → s.slot k = .free → (∀ j, j < k → s.slot j ≠ .free) →
      Taken s (toPort r) req →
      ∃ t, exec (.referral r) s = .next t ∧ ChangesOnly [.link, .ports, .hreq] s t
        ∧ t.ports = s.ports.set (toPort r) { s.port (toPort r) with
            requests := (s.port (toPort r)).requests.tail
            executor := .idle }
        ∧ t.link = { (s.setSlot k (.untaken ⟨r, req.tag, req.kind, req.body, s.link.makingOrder + 1⟩ (some 10000))).link with
            makingOrder := s.link.makingOrder + 1 }
        ∧ t.hreq = true))
  ∧ (∀ (s : State) (req : Request), Asked .takeReferral .hut s req →
    ((∀ k, (s.slot k).isUntaken = false) → AnswersOnly .takeReferral .hut req .notFound [] s)
    ∧ (∀ k q age, s.slot k = .untaken q age →
      (∀ j x a, j ≠ k → s.slot j = .untaken x a → referralAge s x < referralAge s q) →
      ∃ t, exec .takeReferral s = .next t ∧ ChangesOnly [.link, .ports, .routes, .hreq] s t
        ∧ t.link = (s.setSlot k (.taken q age)).link
        ∧ Answered .hut req .ok (referralBytes k q (age.getD 0) (untakenCount s - 1)) s t))

/-- ANSWER REFERRAL and a referral's timeout place their response in the origin's output queue, freeing the slot, or hold it there
for room. A slot whose age timer has not reached 0, or that has none, does not time out (notes/assumptions/1.md and 5.md). -/
def Obligations.ReferralAnsweredOrTimedOut : Prop :=
  (∀ (s : State) (req : Request) (b : List Byte), Asked .answerReferral .hut s req → req.body = b →
    ((3 < (byteAt b 0).toNat ∨ 22 < (byteAt b 1).toNat) → AnswersOnly .answerReferral .hut req .outOfRange [] s)
    ∧ (∀ k : ReferralIx, (byteAt b 0).toNat = k.val → (byteAt b 1).toNat ≤ 22 →
      ((∀ q age, s.slot k ≠ .taken q age) → AnswersOnly .answerReferral .hut req .stale [] s)
      ∧ (∀ q age, s.slot k = .taken q age →
        ∃ t, exec .answerReferral s = .next t ∧ ChangesOnly [.link, .ports, .routes, .hreq] s t
          ∧ (t.port .hut).executor = .idle ∧ (t.port .hut).requests = (s.port .hut).requests.tail
          ∧ (t.port .hut).output = (s.port .hut).output ++ [responseFrame req.kind req.tag 0 (s.port .hut).summary
            [byteAt b 0, RoutePort.code q.origin, q.tag, q.kind,
              (if (s.port (toPort q.origin)).output.length < 8 then 1 else 0)] .response]
          ∧ ((s.port (toPort q.origin)).output.length < 8 →
            t.port (toPort q.origin) = { s.port (toPort q.origin) with
              output := (s.port (toPort q.origin)).output ++ [responseFrame q.kind q.tag (byteAt b 1)
                (s.port (toPort q.origin)).summary (b.drop 2) .response] }
            ∧ t.link = (s.setSlot k .free).link)
          ∧ (8 ≤ (s.port (toPort q.origin)).output.length →
            t.port (toPort q.origin) = s.port (toPort q.origin)
            ∧ t.link = (s.setSlot k (.answered q ⟨byteAt b 1, b.drop 2⟩)).link))))
  ∧ (∀ (s : State) (k : ReferralIx), (∀ q, s.slot k ≠ .untaken q (some 0)) → (∀ q, s.slot k ≠ .taken q (some 0)) →
    exec (.referralTimeout k.val) s = .next s)
  ∧ (∀ (s : State) (k : ReferralIx) (q : Referral), s.por = false →
    (s.slot k = .untaken q (some 0) ∨ s.slot k = .taken q (some 0)) →
    ∃ t, exec (.referralTimeout k.val) s = .next t ∧ ChangesOnly [.link, .ports, .routes, .hreq] s t
      ∧ ((s.port (toPort q.origin)).output.length < 8 →
        t.ports = s.ports.set (toPort q.origin) { s.port (toPort q.origin) with
          output := (s.port (toPort q.origin)).output ++ [responseFrame q.kind q.tag 0x14
            (s.port (toPort q.origin)).summary [] .response] }
        ∧ t.link = (s.setSlot k .free).link)
      ∧ (8 ≤ (s.port (toPort q.origin)).output.length →
        t.ports = s.ports ∧ t.link = (s.setSlot k (.answered q ⟨0x14, []⟩)).link))

/-- RESTART HUT CONTROLLER starts the pulse: HCRST asserted for 200 ms, the Hut Port's queues emptied, its direct request, items
and claims ended, the silence timer stopped, and every UNTAKEN or TAKEN referral answered NO_ANSWER: the answer joins its origin's
output queue and frees the slot where there is room, and is held in the slot where there is none. That the OK comes before the
answers, and the answers in ascending slot order, is the model's choice (notes/assumptions/13.md). -/
def Obligations.HutRestartStartsPulse : Prop :=
  ∀ (r : RoutePort) (s : State) (req : Request), Asked .restartHutController (toPort r) s req →
    (s.link.pulse = true → AnswersOnly (.restartHutController r) (toPort r) req .busy [] s)
    ∧ (s.link.pulse = false →
      ∃ t, exec (.restartHutController r) s = .next t ∧ ChangesOnly [.link, .ports, .routes, .arb, .bus, .acts, .hreq] s t
        ∧ t.link.pulse = true ∧ t.link.hcrst = true ∧ t.link.pulseTimer = some 200 ∧ t.link.silenceTimer = none
        ∧ t.link.silence = s.link.silence ∧ t.link.makingOrder = s.link.makingOrder
        ∧ t.port .hut = { s.port .hut with requests := [], executor := .idle, output := [], transmitter := .idle }
        ∧ (t.port (toPort r)).executor = .idle ∧ (t.port (toPort r)).requests = (s.port (toPort r)).requests.tail
        ∧ (∀ q base room, base = (s.port (toPort q)).output ++ (if q = r then [responseFrame req.kind req.tag 0
            (s.port (toPort r)).summary [] .response] else []) → room = 8 - base.length →
          (t.port (toPort q)).output = base ++ ((openOf s q).take room).map (fun x =>
              responseFrame x.2.kind x.2.tag 0x14 (s.port (toPort q)).summary [] .response)
            ∧ (∀ x ∈ (openOf s q).take room, t.slot x.1 = .free)
            ∧ (∀ x ∈ (openOf s q).drop room, t.slot x.1 = .answered x.2 ⟨0x14, []⟩)
            ∧ (q ≠ r → t.port (toPort q) = { s.port (toPort q) with output := (t.port (toPort q)).output })
            ∧ ((q = r ∨ 0 < room ∧ openOf s q ≠ []) →
              t.route q = { s.route q with lastReported := (s.port (toPort q)).summary })
            ∧ (q ≠ r → (room = 0 ∨ openOf s q = []) → t.route q = s.route q))
        ∧ (∀ k, (s.slot k = .free → t.slot k = .free) ∧ ∀ q a, s.slot k = .answered q a → t.slot k = .answered q a)
        ∧ t.arb.waiting.direct.hut = false ∧ t.arb.waiting.direct.east = s.arb.waiting.direct.east
        ∧ t.arb.waiting.direct.west = s.arb.waiting.direct.west ∧ t.arb.tenure = s.arb.tenure
        ∧ (∀ x, s.bus.inFlight = some x → t.bus.inFlight
          = some (if x.requester = .direct .hut then { x with discarded := true } else x))
        ∧ (∀ w ∈ t.acts.workList, w.port ≠ some .hut)
        ∧ (∀ i, (s.actuator i).holder = some .hut → ClaimEnded i s t)
        ∧ (∀ i, (s.actuator i).holder ≠ some .hut → t.actuator i = s.actuator i))

/-- The pulse ends with HCRST released and the silence timer at 60 s; the expiry of the silence timer makes the silence active and
starts HUT_SILENT with priority 24. A timer that has not reached 0, as after a valid frame has restarted it, or that is stopped has no
expiry, and the command changes nothing (notes/assumptions/1.md and 5.md). -/
def Obligations.PulseAndSilenceExpire : Prop :=
  (∀ s : State, (s.link.pulseTimer ≠ some 0 → exec .pulseTimerExpiry s = .next s)
    ∧ (s.link.silenceTimer ≠ some 0 → exec .silenceTimerExpiry s = .next s))
  ∧ ∀ s : State, s.por = false →
    (s.link.pulseTimer = some 0 →
      ∃ t, exec .pulseTimerExpiry s = .next t ∧ ChangesOnly [.link, .hreq] s t
        ∧ t.link = { s.link with pulse := false, hcrst := false, pulseTimer := none, silenceTimer := some 60000 })
    ∧ (s.link.silenceTimer = some 0 →
      ∃ t, exec .silenceTimerExpiry s = .next t ∧ ChangesOnly [.link, .notices, .ports, .routes, .hreq] s t
        ∧ t.link = { s.link with silenceTimer := none, silence := true }
        ∧ ((∀ n ∈ s.notices.entries, n.id ≠ .internal .hutSilent) → s.notices.entries.length < 64 →
          Entered (.internal .hutSilent) 24 s t))

/-! ## Settings and supervision restart -/

/-- SET PERMISSIONS replaces all six settings, SET SITE POINTS both references, and IDENTIFY reports the part. The response to a
command that a new site-local point dismisses carries the summary after the event. -/
def Obligations.SettingsReplacedAndIdentified : Prop :=
  (∀ (s : State) (req : Request), Asked .setPermissions .hut s req →
    ((permissionOf req.body 0 = none ∨ permissionOf req.body 3 = none) →
      AnswersOnly .setPermissions .hut req .outOfRange [] s)
    ∧ (∀ e w, permissionOf req.body 0 = some e → permissionOf req.body 3 = some w →
      ∃ t, exec .setPermissions s = .next t ∧ ChangesOnly [.ports, .routes, .hreq] s t
        ∧ t.route .east = { s.route .east with config := e.1, mayRestart := e.2.1, window := e.2.2 }
        ∧ t.route .west = { s.route .west with config := w.1, mayRestart := w.2.1, window := w.2.2 }
        ∧ t.ports = s.ports.set .hut (answeredPort (s.port .hut) (responseFrame req.kind req.tag 0 (s.port .hut).summary
          (permissionBytes (t.route .east) ++ permissionBytes (t.route .west)) .response))))
  ∧ (∀ (s : State) (req : Request) (x y : Option PointIx), Asked .setSitePoints .hut s req →
    sitePointOf req.body 0 = x → sitePointOf req.body 2 = y →
    (((∃ i, x = some i ∧ s.descOf i = none) ∨ ∃ i, y = some i ∧ s.descOf i = none) →
      AnswersOnly .setSitePoints .hut req .notDefined [] s)
    ∧ ((∀ i, x = some i ∨ y = some i → (s.descOf i).isSome = true) →
      ((∃ i d, x = some i ∧ s.descOf i = some d ∧ d.isDiscrete = false)
        ∨ ∃ i d, y = some i ∧ s.descOf i = some d ∧ d.isDiscrete = true) →
      AnswersOnly .setSitePoints .hut req .badLimits [] s)
    ∧ ((∀ i, x = some i → ∃ d, s.descOf i = some d ∧ d.isDiscrete = true) →
      (∀ i, y = some i → ∃ d, s.descOf i = some d ∧ d.isDiscrete = false) →
      ∃ t, exec .setSitePoints s = .next t
        ∧ ChangesOnly [.site, .acts, .clock, .arb, .notices, .ports, .routes, .hreq] s t
        ∧ t.siteLocal = x ∧ t.economyTrigger = y
        ∧ AnsweredLast .hut req .ok (sitePointBytes x ++ sitePointBytes y) s t
        ∧ (x ≠ s.siteLocal → siteAsserted t = true → ∀ i, ((s.actuator i).holder = some .east
          ∨ (s.actuator i).holder = some .west) → ClaimEnded i s t)
        ∧ (x ≠ s.siteLocal → siteAsserted t = true → ∀ i p w held, p ≠ .hut → (s.actuator i).holder = some p →
          w ∈ s.acts.workList → w.port = some p → w.target = i → (∀ v ∈ s.acts.workList, v.port = some p → v = w) →
          (s.port p).executor = .serving held → (s.port p).output.length < 7 →
          HeldAnswered p held .notHolder ([natByte i.val, 3] ++ sendNat16 0) t)
        ∧ ((x = s.siteLocal ∨ siteAsserted t = false) → t.acts = s.acts)
        ∧ (y = s.economyTrigger → t.clock = s.clock ∧ t.notices = s.notices)
        ∧ (y ≠ s.economyTrigger → t.clock.wanted = wantedClock t)))
  ∧ (∀ (p : Port) (s : State) (req : Request), Asked .identify p s req →
    AnswersOnly (.identify p) p req .ok ([(0x4B : Byte), 0x57, 0x04, 0x40, 0x01, 1, 0, 1, 0, 128, 8, 32, 64, 8, 4, 4, 8, 244,
      (match s.baud with | .b9600 => 0 | .b38400 => 1 | .b115200 => 2)] ++ send32 s.uptime) s)

/-- RESTART SUPERVISION is answered OK, and the placing of the OK makes the restart due; its first step withdraws every bus request
and empties the work list. That the step is a command of its own, that a tenure between its transactions and a locked tenure close
at it, and that results which wait to be taken are discarded with it, is the model's reading (notes/assumptions/29.md, 12.md and
26.md). -/
def Obligations.SupervisionRestartBegins : Prop :=
  (∀ (p : Port) (s : State) (req : Request), Asked .restartSupervision p s req →
    ∃ t, exec (.restartSupervision p) s = .next t ∧ ChangesOnly [.ports, .routes, .restart, .hreq] s t
      ∧ t.restart = .due p ∧ t.routes = reportedRoutes p (s.port p).summary s.routes
      ∧ t.ports = s.ports.set p (answeredPort (s.port p)
        (responseFrame req.kind req.tag 0 (s.port p).summary [] .restartOk)))
  ∧ (∀ (p : Port) (s : State), s.por = false → s.restart = .due p →
    ∃ t, exec .supervisionRestart s = .next t ∧ ChangesOnly [.scan, .arb, .acts, .bus, .restart, .hreq] s t
      ∧ t.restart = .running p ∧ t.acts.workList = []
      ∧ t.arb.waiting = ⟨false, ⟨false, false, false⟩, false⟩ ∧ t.arb.scannerWait = 0
      ∧ t.arb.rotation = [.east, .west, .hut]
      ∧ t.scan.heldStart = false ∧ t.scan.periodTimer = none ∧ t.scan.overrun = false
      ∧ t.scan.list = s.scan.list ∧ t.scan.scanState = s.scan.scanState ∧ t.scan.period = s.scan.period
      ∧ t.bus.inFlight = s.bus.inFlight
      ∧ (s.bus.inFlight.isSome = true → t.bus = s.bus ∧ t.arb.tenure = s.arb.tenure ∧ t.acts.running = s.acts.running)
      ∧ (s.bus.inFlight = none → t.arb.tenure = none ∧ t.arb.locked = .closed ∧ t.acts.running = none ∧ t.bus.ended = none))

/-- Steps 2 to 8 of supervision restart, with no transaction in flight: what they clear, what they keep, cycle 0
in RUNNING, what becomes of the clock at step 8, and that the executors resume. -/
def Obligations.SupervisionRestartStepsRun : Prop :=
  ∀ (p : Port) (s : State), s.por = false → s.restart = .running p → s.bus.inFlight = none →
    ∃ t, exec .supervisionRestartSteps s = .next t ∧ t.restart = .idle
      ∧ ChangesOnly [.points, .scan, .arb, .clock, .notices, .ports, .routes, .acts, .link, .restart, .uptime, .hreq] s t
      ∧ (∀ q, (t.port q).requests = [] ∧ (t.port q).executor = .idle ∧ (t.port q).level = 0
        ∧ (t.port q).receiver = (s.port q).receiver ∧ (t.port q).transmitter = (s.port q).transmitter
        ∧ (∀ f ∈ (t.port q).output, f.mark = .attention ∨ f.mark = .restartOk ∧ q = p))
      ∧ (∀ r, (t.route r).linkUp = false ∧ (t.route r).linkTimer = none ∧ (t.route r).config = (s.route r).config
        ∧ (t.route r).window = (s.route r).window ∧ (t.route r).mayRestart = (s.route r).mayRestart)
      ∧ (∀ n ∈ t.notices.entries, n.id = .internal .economy) ∧ (∀ k, t.notices.slots.get k = none)
      ∧ t.notices.lost = .empty ∧ t.notices.thresholds = s.notices.thresholds
      ∧ (∀ i, t.actuator i = { s.actuator i with
          holder := none
          lease := 0
          requested := none
          faultCount := 0
          fault := false
          inFlight := .no
          refreshTimer := match (s.actuator i).desc with
            | some d => if d.kind = .held then some d.interval else none
            | none => none })
      ∧ t.acts.running = none
      ∧ (∀ i d, (s.actuator i).desc = some d → d.policy = .safe → .policy i ∈ t.acts.workList)
      ∧ (∀ k, t.slot k = .free) ∧ t.link.silence = false ∧ t.link.makingOrder = 0
      ∧ t.link.silenceTimer = (if s.link.pulse then none else some 60000)
      ∧ t.link.pulse = s.link.pulse ∧ t.link.pulseTimer = s.link.pulseTimer ∧ t.link.hcrst = s.link.hcrst
      ∧ (∀ i, t.point i = ⟨(s.point i).state, .initial, true, false⟩)
      ∧ t.uptime = 0 ∧ t.scan.scanState = s.scan.scanState ∧ t.scan.list = s.scan.list ∧ t.scan.period = s.scan.period
      ∧ t.scan.inFlight = none ∧ (s.scan.scanState = .stopped → t.scan.cycleState = .idle ∧ t.scan.cycleNumber = 0)
      ∧ (s.scan.scanState = .running → s.arb.waiting.scanner = false → s.arb.tenure ≠ some .scanner → ScanListSound s →
        t.scan.heldStart = false
          ∧ t.scan.periodTimer = some (if s.clock.clockState = .economy then 4 * s.scan.period else s.scan.period)
          ∧ (s.scan.list ≠ [] → t.scan.cycleState = .walking ∧ t.scan.cycleNumber = 0 ∧ t.scan.passed = []
            ∧ t.scan.ahead = s.scan.list ∧ t.scan.overrun = s.scan.overrun ∧ t.arb.waiting.scanner = true)
          ∧ (s.scan.list = [] → t.scan.cycleState = .idle ∧ t.scan.cycleNumber = 1 ∧ t.scan.overrun = false
            ∧ t.arb.waiting.scanner = false))
      ∧ t.clock.mode = s.clock.mode ∧ t.clock.wanted = (if s.clock.mode = .forceEconomy then .economy else .full)
      ∧ (t.clock.wanted = s.clock.wanted → t.clock.clockState = s.clock.clockState ∧ t.clock.handover = s.clock.handover
        ∧ t.arb.grantHold = s.arb.grantHold)
      ∧ (t.clock.wanted ≠ s.clock.wanted →
        (s.clock.clockState = .full → t.clock.wanted = .economy → t.clock.clockState = .toEconomy ∧ t.arb.grantHold = true
          ∧ t.clock.handover = s.clock.handover)
        ∧ (s.clock.clockState = .economy → t.clock.wanted = .full → t.clock.clockState = .toFull ∧ t.arb.grantHold = true
          ∧ t.clock.handover = s.clock.handover)
        ∧ (s.clock.clockState = .toEconomy → t.clock.wanted = .full → t.clock.clockState = .full ∧ t.clock.handover = none
          ∧ t.arb.grantHold = false)
        ∧ (s.clock.clockState = .toFull → t.clock.wanted = .economy → t.clock.clockState = .economy
          ∧ t.clock.handover = none ∧ t.arb.grantHold = false))
      ∧ t.clock.economyReported = decide (t.clock.clockState = .economy)
      ∧ (t.clock.clockState ≠ .economy → t.notices.entries = [])
      ∧ (t.clock.clockState = .economy → ∃ n, t.notices.entries = [n] ∧ n.id = .internal .economy ∧ n.state = .raised
        ∧ n.priority = 8 ∧ n.stamp = 0)

/-! ## Invariants that every step keeps -/

/-- A step keeps an invariant, from every state that meets it, whether or not a run reaches that state. -/
def Obligations.QueuesStayBounded : Prop := ∀ s t, QueuesBounded s → step s = .next t → QueuesBounded t

/-- The Notice Table stays sound at every step, and takes each report by the rows of R105 to R108, with the new entry of R111 and the
lost flags of R112. That the oldest stamp is the least unsigned number is the model's reading (notes/assumptions/16.md). -/
def Obligations.NoticeTableStaysSound : Prop :=
  (∀ s t, NoticesSound s → step s = .next t → NoticesSound t)
  ∧ (∀ (s : State) (id : NoticeId), NoticesSound s → (∀ n ∈ s.notices.entries, n.id ≠ id) →
    applyReport id .finish s = s
    ∧ ∀ (r : Report) (sev : Option Severity), (r = .start sev ∨ ∃ v, r = .change v ∧ sev = some v) →
      (priorityOf s id sev = 0 → applyReport id r s = s)
      ∧ (priorityOf s id sev ≠ 0 → s.notices.entries.length < 64 →
        EntriesBecome (s.notices.entries ++ [raisedNotice s id sev]) s (applyReport id r s))
      ∧ (priorityOf s id sev ≠ 0 → s.notices.entries.length = 64 → ∀ v, VictimFor (priorityOf s id sev) s v →
        EntriesBecome (s.notices.entries.map fun m => if m.id = v.id then raisedNotice s id sev else m) s (applyReport id r s))
      ∧ (priorityOf s id sev ≠ 0 → s.notices.entries.length = 64 →
        (∀ n ∈ s.notices.entries, n.state = .returned → priorityOf s id sev < n.priority) →
        applyReport id r s = { s with notices := { s.notices with lost := .all } }))
  ∧ (∀ (s : State) (n : Notice), NoticesSound s → n ∈ s.notices.entries → n.state = .returned →
    applyReport n.id .finish s = s
    ∧ ∀ (r : Report) (sev : Option Severity), (r = .start sev ∨ ∃ v, r = .change v ∧ sev = some v) →
      (priorityOf s n.id sev = 0 → EntryRemoved n.id s (applyReport n.id r s))
      ∧ (priorityOf s n.id sev ≠ 0 → EntryBecomes n.id (fun m => { raisedNotice s n.id sev with
          code := m.code
          postedMask := m.postedMask }) s (applyReport n.id r s)))
  ∧ (∀ (s : State) (n : Notice), NoticesSound s → n ∈ s.notices.entries → n.state ≠ .returned →
    (n.state = .raised → EntryBecomes n.id (fun m => { m with
        state := .returned
        value := reportValue s n.id
        delivered := .empty }) s (applyReport n.id .finish s))
    ∧ (n.state = .acked → EntryRemoved n.id s (applyReport n.id .finish s))
    ∧ EntryBecomes n.id (fun m => { m with value := reportValue s n.id }) s (applyReport n.id (.start none) s)
    ∧ ∀ (r : Report) (old new : Severity), n.severity = some old → (r = .start (some new) ∨ r = .change new) →
      (old = new → EntryBecomes n.id (fun m => { m with value := reportValue s n.id }) s (applyReport n.id r s))
      ∧ (old ≠ new → priorityOf s n.id (some new) = 0 → EntryRemoved n.id s (applyReport n.id r s))
      ∧ (priorityOf s n.id (some new) ≠ 0 → (¬ OfRankTwo old ∧ OfRankTwo new ∨ ¬ (OnLowSide old ↔ OnLowSide new)) →
        EntryBecomes n.id (fun m => { raisedNotice s n.id (some new) with
          code := m.code
          postedMask := m.postedMask }) s (applyReport n.id r s))
      ∧ (priorityOf s n.id (some new) ≠ 0 → OfRankTwo old → ¬ OfRankTwo new → (OnLowSide old ↔ OnLowSide new) →
        EntryBecomes n.id (fun m => { m with
          tag := tagOf s n.id
          severity := some new
          priority := priorityOf s n.id (some new)
          group := groupOf s n.id
          value := reportValue s n.id
          delivered := .empty }) s (applyReport n.id r s)))
  ∧ (∀ (s : State) (i : PointIx) (k : PointCondition) (sev : Option Severity) (d : Descriptor), s.descOf i = some d →
    tagOf s (.point i k) = d.tag ∧ groupOf s (.point i k) = d.group
      ∧ reportValue s (.point i k) = some (s.point i).live.filtered
      ∧ ((sev = some .lowlow ∨ sev = some .highhigh) → priorityOf s (.point i k) sev = d.urgentPriority)
      ∧ ((sev = none ∨ sev = some .low ∨ sev = some .high) → priorityOf s (.point i k) sev = d.alarmPriority))

/-- HREQ is asserted while the Hut Port's summary is above 0, a frame waits in its output queue, or a referral is UNTAKEN, and is
released while none holds: at every step. -/
def Obligations.HreqFollowsEveryStep : Prop :=
  (∀ s t, HreqFollows s → step s = .next t → HreqFollows t)
  ∧ ∀ s : State, HreqFollows s → (s.hreq = true ↔ 0 < (s.port .hut).summary ∨ (s.port .hut).output ≠ []
    ∨ ∃ k q age, s.slot k = .untaken q age)

/-- A port's summary is at every step the greatest priority offerable to it, offerable by the five terms of R122 with the
suppression of R114 and the masks of R103; and a route port's ATTENTION state is decided by the rows of R127. -/
def Obligations.SummariesFollowEveryStep : Prop :=
  (∀ s t, SummariesFollow s → step s = .next t → SummariesFollow t)
  ∧ (∀ (s : State) (p : Port), SummariesFollow s →
    (∀ n ∈ s.notices.entries, offerable s p n = true → n.priority ≤ (s.port p).summary)
    ∧ ((s.port p).summary = 0 ∨ ∃ n ∈ s.notices.entries, offerable s p n = true ∧ n.priority = (s.port p).summary))
  ∧ (∀ (s : State) (p : Port) (n : Notice),
    (offerable s p n = true ↔ (maskOfNotice s n).get p = true ∧ (n.state = .raised ∨ n.state = .returned)
      ∧ n.delivered.get p = false ∧ (s.port p).level < n.priority ∧ suppressed s n = false)
    ∧ (n.group = 0 → suppressed s n = false)
    ∧ (∀ k : Fin 7, n.group = k.val + 1 → (suppressed s n = true ↔ s.notices.thresholds.get k ≠ 0
      ∧ ∃ m ∈ s.notices.entries, m.group = n.group ∧ (m.state = .raised ∨ m.state = .acked)
        ∧ s.notices.thresholds.get k ≤ m.priority ∧ n.priority < m.priority))
    ∧ (∀ i k d, n.id = .point i k → s.descOf i = some d → maskOfNotice s n = d.routeMask)
    ∧ (∀ i d, n.id = .actuator i → (s.actuator i).desc = some d → maskOfNotice s n = d.portMask)
    ∧ (∀ k, n.id = .internal k → maskOfNotice s n = .all)
    ∧ (∀ k m, n.id = .posted k → n.postedMask = some m → maskOfNotice s n = m))
  ∧ ∀ (s : State) (r : RoutePort) (p : Port) (v : Nat), toPort r = p → (s.port p).summary = v →
    ((∃ f ∈ (s.port p).output, f.mark = .attention ∧ f.body ≠ [natByte v]) →
      decideAttention r s = (s.setPort p { s.port p with
        output := (s.port p).output.map fun f => if f.mark = .attention then ⟨0x80#8, 0, [natByte v], .attention⟩ else f
        }).setRoute r { s.route r with lastReported := v })
    ∧ ((∃ f ∈ (s.port p).output, f.mark = .attention) →
      (∀ f ∈ (s.port p).output, f.mark = .attention → f.body = [natByte v]) → decideAttention r s = s)
    ∧ ((∀ f ∈ (s.port p).output, f.mark ≠ .attention) →
      ((s.route r).lastReported < v → (s.port p).output.length < 8 →
        decideAttention r s = (s.setPort p { s.port p with
          output := (s.port p).output ++ [⟨0x80#8, 0, [natByte v], .attention⟩] }).setRoute r { s.route r with lastReported := v })
      ∧ ((s.route r).lastReported < v → 8 ≤ (s.port p).output.length →
        decideAttention r s = s.setRoute r { s.route r with attentionOwed := true })
      ∧ (v ≤ (s.route r).lastReported → decideAttention r s = s.setRoute r { s.route r with attentionOwed := false }))

/-- Claims stay held by ports of the mask with a bounded lease, and by no route port while the site-local flag is set. -/
def Obligations.ClaimsStaySound : Prop :=
  ∀ s t, step s = .next t → (ClaimsSound s → ClaimsSound t) ∧ (SiteLocalSound s → SiteLocalSound t)

/-- The bus is ACTIVE exactly with a transaction in flight, the arbiter's counts stay bounded and its order an order of the ports,
and HCRST follows the restart pulse. -/
def Obligations.BusArbiterAndPulseStaySound : Prop :=
  ∀ s t, step s = .next t →
    (BusSound s → BusSound t) ∧ (ArbiterSound s → ArbiterSound t) ∧ (PulseSound s → PulseSound t)

/-- Tags stay unique, the scan list stays the list of the SCANNED points, and every reported ASSERTED activity stays the point's
own. -/
def Obligations.PointTableStaysSound : Prop :=
  ∀ s t, step s = .next t →
    (TagsUnique s → TagsUnique t) ∧ (ScanListSound s → ScanListSound t) ∧ (AssertedReported s → AssertedReported t)

/-- A port never has two COMMANDs or EXCHANGEs, and its executor holds on the one it has. -/
def Obligations.ItemsStayHeld : Prop := ∀ s t, ItemsHeld s → step s = .next t → ItemsHeld t
end

