-- ==== Sys2Proof/Laws/State.lean ====
section
/-! SUPPORT. One lemma for each field and each reading of the state under each named update, true by unfolding, and the
read-after-write laws of the tables. -/

namespace Sys2Proof.Machine

variable (s : State)

/-! ### setPort -/

@[simp] theorem setPort_por (p : Port) (x : PortState) : (s.setPort p x).por = s.por := rfl
@[simp] theorem setPort_strapsRead (p : Port) (x : PortState) : (s.setPort p x).strapsRead = s.strapsRead := rfl
@[simp] theorem setPort_baud (p : Port) (x : PortState) : (s.setPort p x).baud = s.baud := rfl
@[simp] theorem setPort_points (p : Port) (x : PortState) : (s.setPort p x).points = s.points := rfl
@[simp] theorem setPort_siteLocal (p : Port) (x : PortState) : (s.setPort p x).siteLocal = s.siteLocal := rfl
@[simp] theorem setPort_economyTrigger (p : Port) (x : PortState) : (s.setPort p x).economyTrigger = s.economyTrigger := rfl
@[simp] theorem setPort_scan (p : Port) (x : PortState) : (s.setPort p x).scan = s.scan := rfl
@[simp] theorem setPort_bus (p : Port) (x : PortState) : (s.setPort p x).bus = s.bus := rfl
@[simp] theorem setPort_arb (p : Port) (x : PortState) : (s.setPort p x).arb = s.arb := rfl
@[simp] theorem setPort_clock (p : Port) (x : PortState) : (s.setPort p x).clock = s.clock := rfl
@[simp] theorem setPort_notices (p : Port) (x : PortState) : (s.setPort p x).notices = s.notices := rfl
@[simp] theorem setPort_ports (p : Port) (x : PortState) : (s.setPort p x).ports = s.ports.set p x := rfl
@[simp] theorem setPort_routes (p : Port) (x : PortState) : (s.setPort p x).routes = s.routes := rfl
@[simp] theorem setPort_hreq (p : Port) (x : PortState) : (s.setPort p x).hreq = s.hreq := rfl
@[simp] theorem setPort_acts (p : Port) (x : PortState) : (s.setPort p x).acts = s.acts := rfl
@[simp] theorem setPort_link (p : Port) (x : PortState) : (s.setPort p x).link = s.link := rfl
@[simp] theorem setPort_restart (p : Port) (x : PortState) : (s.setPort p x).restart = s.restart := rfl
@[simp] theorem setPort_uptime (p : Port) (x : PortState) : (s.setPort p x).uptime = s.uptime := rfl
@[simp] theorem setPort_pending (p : Port) (x : PortState) : (s.setPort p x).pending = s.pending := rfl
@[simp] theorem setPort_route (p : Port) (x : PortState) (q : RoutePort) : (s.setPort p x).route q = s.route q := rfl
@[simp] theorem setPort_point (p : Port) (x : PortState) (j : PointIx) : (s.setPort p x).point j = s.point j := rfl
@[simp] theorem setPort_actuator (p : Port) (x : PortState) (j : ActIx) : (s.setPort p x).actuator j = s.actuator j := rfl
@[simp] theorem setPort_slot (p : Port) (x : PortState) (j : ReferralIx) : (s.setPort p x).slot j = s.slot j := rfl
@[simp] theorem setPort_descOf (p : Port) (x : PortState) (j : PointIx) : (s.setPort p x).descOf j = s.descOf j := rfl
@[simp] theorem setPort_classOf (p : Port) (x : PortState) (m : ModIx) : (s.setPort p x).classOf m = s.classOf m := rfl
@[simp] theorem setPort_classNoOf (p : Port) (x : PortState) (m : ModIx) : (s.setPort p x).classNoOf m = s.classNoOf m := rfl

/-! ### setRoute -/

@[simp] theorem setRoute_por (r : RoutePort) (x : RouteState) : (s.setRoute r x).por = s.por := rfl
@[simp] theorem setRoute_strapsRead (r : RoutePort) (x : RouteState) : (s.setRoute r x).strapsRead = s.strapsRead := rfl
@[simp] theorem setRoute_baud (r : RoutePort) (x : RouteState) : (s.setRoute r x).baud = s.baud := rfl
@[simp] theorem setRoute_points (r : RoutePort) (x : RouteState) : (s.setRoute r x).points = s.points := rfl
@[simp] theorem setRoute_siteLocal (r : RoutePort) (x : RouteState) : (s.setRoute r x).siteLocal = s.siteLocal := rfl
@[simp] theorem setRoute_economyTrigger (r : RoutePort) (x : RouteState) : (s.setRoute r x).economyTrigger = s.economyTrigger := rfl
@[simp] theorem setRoute_scan (r : RoutePort) (x : RouteState) : (s.setRoute r x).scan = s.scan := rfl
@[simp] theorem setRoute_bus (r : RoutePort) (x : RouteState) : (s.setRoute r x).bus = s.bus := rfl
@[simp] theorem setRoute_arb (r : RoutePort) (x : RouteState) : (s.setRoute r x).arb = s.arb := rfl
@[simp] theorem setRoute_clock (r : RoutePort) (x : RouteState) : (s.setRoute r x).clock = s.clock := rfl
@[simp] theorem setRoute_notices (r : RoutePort) (x : RouteState) : (s.setRoute r x).notices = s.notices := rfl
@[simp] theorem setRoute_ports (r : RoutePort) (x : RouteState) : (s.setRoute r x).ports = s.ports := rfl
@[simp] theorem setRoute_routes (r : RoutePort) (x : RouteState) : (s.setRoute r x).routes = s.routes.set r x := rfl
@[simp] theorem setRoute_hreq (r : RoutePort) (x : RouteState) : (s.setRoute r x).hreq = s.hreq := rfl
@[simp] theorem setRoute_acts (r : RoutePort) (x : RouteState) : (s.setRoute r x).acts = s.acts := rfl
@[simp] theorem setRoute_link (r : RoutePort) (x : RouteState) : (s.setRoute r x).link = s.link := rfl
@[simp] theorem setRoute_restart (r : RoutePort) (x : RouteState) : (s.setRoute r x).restart = s.restart := rfl
@[simp] theorem setRoute_uptime (r : RoutePort) (x : RouteState) : (s.setRoute r x).uptime = s.uptime := rfl
@[simp] theorem setRoute_pending (r : RoutePort) (x : RouteState) : (s.setRoute r x).pending = s.pending := rfl
@[simp] theorem setRoute_port (r : RoutePort) (x : RouteState) (q : Port) : (s.setRoute r x).port q = s.port q := rfl
@[simp] theorem setRoute_point (r : RoutePort) (x : RouteState) (j : PointIx) : (s.setRoute r x).point j = s.point j := rfl
@[simp] theorem setRoute_actuator (r : RoutePort) (x : RouteState) (j : ActIx) : (s.setRoute r x).actuator j = s.actuator j := rfl
@[simp] theorem setRoute_slot (r : RoutePort) (x : RouteState) (j : ReferralIx) : (s.setRoute r x).slot j = s.slot j := rfl
@[simp] theorem setRoute_descOf (r : RoutePort) (x : RouteState) (j : PointIx) : (s.setRoute r x).descOf j = s.descOf j := rfl
@[simp] theorem setRoute_classOf (r : RoutePort) (x : RouteState) (m : ModIx) : (s.setRoute r x).classOf m = s.classOf m := rfl
@[simp] theorem setRoute_classNoOf (r : RoutePort) (x : RouteState) (m : ModIx) : (s.setRoute r x).classNoOf m = s.classNoOf m := rfl

/-! ### setPoint -/

@[simp] theorem setPoint_por (i : PointIx) (x : PointEntry) : (s.setPoint i x).por = s.por := rfl
@[simp] theorem setPoint_strapsRead (i : PointIx) (x : PointEntry) : (s.setPoint i x).strapsRead = s.strapsRead := rfl
@[simp] theorem setPoint_baud (i : PointIx) (x : PointEntry) : (s.setPoint i x).baud = s.baud := rfl
@[simp] theorem setPoint_points (i : PointIx) (x : PointEntry) : (s.setPoint i x).points = s.points.set i.val x i.isLt := rfl
@[simp] theorem setPoint_siteLocal (i : PointIx) (x : PointEntry) : (s.setPoint i x).siteLocal = s.siteLocal := rfl
@[simp] theorem setPoint_economyTrigger (i : PointIx) (x : PointEntry) : (s.setPoint i x).economyTrigger = s.economyTrigger := rfl
@[simp] theorem setPoint_scan (i : PointIx) (x : PointEntry) : (s.setPoint i x).scan = s.scan := rfl
@[simp] theorem setPoint_bus (i : PointIx) (x : PointEntry) : (s.setPoint i x).bus = s.bus := rfl
@[simp] theorem setPoint_arb (i : PointIx) (x : PointEntry) : (s.setPoint i x).arb = s.arb := rfl
@[simp] theorem setPoint_clock (i : PointIx) (x : PointEntry) : (s.setPoint i x).clock = s.clock := rfl
@[simp] theorem setPoint_notices (i : PointIx) (x : PointEntry) : (s.setPoint i x).notices = s.notices := rfl
@[simp] theorem setPoint_ports (i : PointIx) (x : PointEntry) : (s.setPoint i x).ports = s.ports := rfl
@[simp] theorem setPoint_routes (i : PointIx) (x : PointEntry) : (s.setPoint i x).routes = s.routes := rfl
@[simp] theorem setPoint_hreq (i : PointIx) (x : PointEntry) : (s.setPoint i x).hreq = s.hreq := rfl
@[simp] theorem setPoint_acts (i : PointIx) (x : PointEntry) : (s.setPoint i x).acts = s.acts := rfl
@[simp] theorem setPoint_link (i : PointIx) (x : PointEntry) : (s.setPoint i x).link = s.link := rfl
@[simp] theorem setPoint_restart (i : PointIx) (x : PointEntry) : (s.setPoint i x).restart = s.restart := rfl
@[simp] theorem setPoint_uptime (i : PointIx) (x : PointEntry) : (s.setPoint i x).uptime = s.uptime := rfl
@[simp] theorem setPoint_pending (i : PointIx) (x : PointEntry) : (s.setPoint i x).pending = s.pending := rfl
@[simp] theorem setPoint_port (i : PointIx) (x : PointEntry) (q : Port) : (s.setPoint i x).port q = s.port q := rfl
@[simp] theorem setPoint_route (i : PointIx) (x : PointEntry) (q : RoutePort) : (s.setPoint i x).route q = s.route q := rfl
@[simp] theorem setPoint_actuator (i : PointIx) (x : PointEntry) (j : ActIx) : (s.setPoint i x).actuator j = s.actuator j := rfl
@[simp] theorem setPoint_slot (i : PointIx) (x : PointEntry) (j : ReferralIx) : (s.setPoint i x).slot j = s.slot j := rfl
@[simp] theorem setPoint_classOf (i : PointIx) (x : PointEntry) (m : ModIx) : (s.setPoint i x).classOf m = s.classOf m := rfl
@[simp] theorem setPoint_classNoOf (i : PointIx) (x : PointEntry) (m : ModIx) : (s.setPoint i x).classNoOf m = s.classNoOf m := rfl

/-! ### setActuator -/

@[simp] theorem setActuator_por (i : ActIx) (x : ActuatorEntry) : (s.setActuator i x).por = s.por := rfl
@[simp] theorem setActuator_strapsRead (i : ActIx) (x : ActuatorEntry) : (s.setActuator i x).strapsRead = s.strapsRead := rfl
@[simp] theorem setActuator_baud (i : ActIx) (x : ActuatorEntry) : (s.setActuator i x).baud = s.baud := rfl
@[simp] theorem setActuator_points (i : ActIx) (x : ActuatorEntry) : (s.setActuator i x).points = s.points := rfl
@[simp] theorem setActuator_siteLocal (i : ActIx) (x : ActuatorEntry) : (s.setActuator i x).siteLocal = s.siteLocal := rfl
@[simp] theorem setActuator_economyTrigger (i : ActIx) (x : ActuatorEntry) : (s.setActuator i x).economyTrigger = s.economyTrigger := rfl
@[simp] theorem setActuator_scan (i : ActIx) (x : ActuatorEntry) : (s.setActuator i x).scan = s.scan := rfl
@[simp] theorem setActuator_bus (i : ActIx) (x : ActuatorEntry) : (s.setActuator i x).bus = s.bus := rfl
@[simp] theorem setActuator_arb (i : ActIx) (x : ActuatorEntry) : (s.setActuator i x).arb = s.arb := rfl
@[simp] theorem setActuator_clock (i : ActIx) (x : ActuatorEntry) : (s.setActuator i x).clock = s.clock := rfl
@[simp] theorem setActuator_notices (i : ActIx) (x : ActuatorEntry) : (s.setActuator i x).notices = s.notices := rfl
@[simp] theorem setActuator_ports (i : ActIx) (x : ActuatorEntry) : (s.setActuator i x).ports = s.ports := rfl
@[simp] theorem setActuator_routes (i : ActIx) (x : ActuatorEntry) : (s.setActuator i x).routes = s.routes := rfl
@[simp] theorem setActuator_hreq (i : ActIx) (x : ActuatorEntry) : (s.setActuator i x).hreq = s.hreq := rfl
@[simp] theorem setActuator_acts (i : ActIx) (x : ActuatorEntry) : (s.setActuator i x).acts = { s.acts with entries := s.acts.entries.set i.val x i.isLt } := rfl
@[simp] theorem setActuator_link (i : ActIx) (x : ActuatorEntry) : (s.setActuator i x).link = s.link := rfl
@[simp] theorem setActuator_restart (i : ActIx) (x : ActuatorEntry) : (s.setActuator i x).restart = s.restart := rfl
@[simp] theorem setActuator_uptime (i : ActIx) (x : ActuatorEntry) : (s.setActuator i x).uptime = s.uptime := rfl
@[simp] theorem setActuator_pending (i : ActIx) (x : ActuatorEntry) : (s.setActuator i x).pending = s.pending := rfl
@[simp] theorem setActuator_port (i : ActIx) (x : ActuatorEntry) (q : Port) : (s.setActuator i x).port q = s.port q := rfl
@[simp] theorem setActuator_route (i : ActIx) (x : ActuatorEntry) (q : RoutePort) : (s.setActuator i x).route q = s.route q := rfl
@[simp] theorem setActuator_point (i : ActIx) (x : ActuatorEntry) (j : PointIx) : (s.setActuator i x).point j = s.point j := rfl
@[simp] theorem setActuator_slot (i : ActIx) (x : ActuatorEntry) (j : ReferralIx) : (s.setActuator i x).slot j = s.slot j := rfl
@[simp] theorem setActuator_descOf (i : ActIx) (x : ActuatorEntry) (j : PointIx) : (s.setActuator i x).descOf j = s.descOf j := rfl
@[simp] theorem setActuator_classOf (i : ActIx) (x : ActuatorEntry) (m : ModIx) : (s.setActuator i x).classOf m = s.classOf m := rfl
@[simp] theorem setActuator_classNoOf (i : ActIx) (x : ActuatorEntry) (m : ModIx) : (s.setActuator i x).classNoOf m = s.classNoOf m := rfl

/-! ### setSlot -/

@[simp] theorem setSlot_por (k : ReferralIx) (x : ReferralSlot) : (s.setSlot k x).por = s.por := rfl
@[simp] theorem setSlot_strapsRead (k : ReferralIx) (x : ReferralSlot) : (s.setSlot k x).strapsRead = s.strapsRead := rfl
@[simp] theorem setSlot_baud (k : ReferralIx) (x : ReferralSlot) : (s.setSlot k x).baud = s.baud := rfl
@[simp] theorem setSlot_points (k : ReferralIx) (x : ReferralSlot) : (s.setSlot k x).points = s.points := rfl
@[simp] theorem setSlot_siteLocal (k : ReferralIx) (x : ReferralSlot) : (s.setSlot k x).siteLocal = s.siteLocal := rfl
@[simp] theorem setSlot_economyTrigger (k : ReferralIx) (x : ReferralSlot) : (s.setSlot k x).economyTrigger = s.economyTrigger := rfl
@[simp] theorem setSlot_scan (k : ReferralIx) (x : ReferralSlot) : (s.setSlot k x).scan = s.scan := rfl
@[simp] theorem setSlot_bus (k : ReferralIx) (x : ReferralSlot) : (s.setSlot k x).bus = s.bus := rfl
@[simp] theorem setSlot_arb (k : ReferralIx) (x : ReferralSlot) : (s.setSlot k x).arb = s.arb := rfl
@[simp] theorem setSlot_clock (k : ReferralIx) (x : ReferralSlot) : (s.setSlot k x).clock = s.clock := rfl
@[simp] theorem setSlot_notices (k : ReferralIx) (x : ReferralSlot) : (s.setSlot k x).notices = s.notices := rfl
@[simp] theorem setSlot_ports (k : ReferralIx) (x : ReferralSlot) : (s.setSlot k x).ports = s.ports := rfl
@[simp] theorem setSlot_routes (k : ReferralIx) (x : ReferralSlot) : (s.setSlot k x).routes = s.routes := rfl
@[simp] theorem setSlot_hreq (k : ReferralIx) (x : ReferralSlot) : (s.setSlot k x).hreq = s.hreq := rfl
@[simp] theorem setSlot_acts (k : ReferralIx) (x : ReferralSlot) : (s.setSlot k x).acts = s.acts := rfl
@[simp] theorem setSlot_link (k : ReferralIx) (x : ReferralSlot) : (s.setSlot k x).link = { s.link with slots := s.link.slots.set k.val x k.isLt } := rfl
@[simp] theorem setSlot_restart (k : ReferralIx) (x : ReferralSlot) : (s.setSlot k x).restart = s.restart := rfl
@[simp] theorem setSlot_uptime (k : ReferralIx) (x : ReferralSlot) : (s.setSlot k x).uptime = s.uptime := rfl
@[simp] theorem setSlot_pending (k : ReferralIx) (x : ReferralSlot) : (s.setSlot k x).pending = s.pending := rfl
@[simp] theorem setSlot_port (k : ReferralIx) (x : ReferralSlot) (q : Port) : (s.setSlot k x).port q = s.port q := rfl
@[simp] theorem setSlot_route (k : ReferralIx) (x : ReferralSlot) (q : RoutePort) : (s.setSlot k x).route q = s.route q := rfl
@[simp] theorem setSlot_point (k : ReferralIx) (x : ReferralSlot) (j : PointIx) : (s.setSlot k x).point j = s.point j := rfl
@[simp] theorem setSlot_actuator (k : ReferralIx) (x : ReferralSlot) (j : ActIx) : (s.setSlot k x).actuator j = s.actuator j := rfl
@[simp] theorem setSlot_descOf (k : ReferralIx) (x : ReferralSlot) (j : PointIx) : (s.setSlot k x).descOf j = s.descOf j := rfl
@[simp] theorem setSlot_classOf (k : ReferralIx) (x : ReferralSlot) (m : ModIx) : (s.setSlot k x).classOf m = s.classOf m := rfl
@[simp] theorem setSlot_classNoOf (k : ReferralIx) (x : ReferralSlot) (m : ModIx) : (s.setSlot k x).classNoOf m = s.classNoOf m := rfl

/-! ### setScan -/

@[simp] theorem setScan_por (x : Scanner) : (s.setScan x).por = s.por := rfl
@[simp] theorem setScan_strapsRead (x : Scanner) : (s.setScan x).strapsRead = s.strapsRead := rfl
@[simp] theorem setScan_baud (x : Scanner) : (s.setScan x).baud = s.baud := rfl
@[simp] theorem setScan_points (x : Scanner) : (s.setScan x).points = s.points := rfl
@[simp] theorem setScan_siteLocal (x : Scanner) : (s.setScan x).siteLocal = s.siteLocal := rfl
@[simp] theorem setScan_economyTrigger (x : Scanner) : (s.setScan x).economyTrigger = s.economyTrigger := rfl
@[simp] theorem setScan_scan (x : Scanner) : (s.setScan x).scan = x := rfl
@[simp] theorem setScan_bus (x : Scanner) : (s.setScan x).bus = s.bus := rfl
@[simp] theorem setScan_arb (x : Scanner) : (s.setScan x).arb = s.arb := rfl
@[simp] theorem setScan_clock (x : Scanner) : (s.setScan x).clock = s.clock := rfl
@[simp] theorem setScan_notices (x : Scanner) : (s.setScan x).notices = s.notices := rfl
@[simp] theorem setScan_ports (x : Scanner) : (s.setScan x).ports = s.ports := rfl
@[simp] theorem setScan_routes (x : Scanner) : (s.setScan x).routes = s.routes := rfl
@[simp] theorem setScan_hreq (x : Scanner) : (s.setScan x).hreq = s.hreq := rfl
@[simp] theorem setScan_acts (x : Scanner) : (s.setScan x).acts = s.acts := rfl
@[simp] theorem setScan_link (x : Scanner) : (s.setScan x).link = s.link := rfl
@[simp] theorem setScan_restart (x : Scanner) : (s.setScan x).restart = s.restart := rfl
@[simp] theorem setScan_uptime (x : Scanner) : (s.setScan x).uptime = s.uptime := rfl
@[simp] theorem setScan_pending (x : Scanner) : (s.setScan x).pending = s.pending := rfl
@[simp] theorem setScan_port (x : Scanner) (q : Port) : (s.setScan x).port q = s.port q := rfl
@[simp] theorem setScan_route (x : Scanner) (q : RoutePort) : (s.setScan x).route q = s.route q := rfl
@[simp] theorem setScan_point (x : Scanner) (j : PointIx) : (s.setScan x).point j = s.point j := rfl
@[simp] theorem setScan_actuator (x : Scanner) (j : ActIx) : (s.setScan x).actuator j = s.actuator j := rfl
@[simp] theorem setScan_slot (x : Scanner) (j : ReferralIx) : (s.setScan x).slot j = s.slot j := rfl
@[simp] theorem setScan_descOf (x : Scanner) (j : PointIx) : (s.setScan x).descOf j = s.descOf j := rfl
@[simp] theorem setScan_classOf (x : Scanner) (m : ModIx) : (s.setScan x).classOf m = s.classOf m := rfl
@[simp] theorem setScan_classNoOf (x : Scanner) (m : ModIx) : (s.setScan x).classNoOf m = s.classNoOf m := rfl

/-! ### setBus -/

@[simp] theorem setBus_por (x : Bus) : (s.setBus x).por = s.por := rfl
@[simp] theorem setBus_strapsRead (x : Bus) : (s.setBus x).strapsRead = s.strapsRead := rfl
@[simp] theorem setBus_baud (x : Bus) : (s.setBus x).baud = s.baud := rfl
@[simp] theorem setBus_points (x : Bus) : (s.setBus x).points = s.points := rfl
@[simp] theorem setBus_siteLocal (x : Bus) : (s.setBus x).siteLocal = s.siteLocal := rfl
@[simp] theorem setBus_economyTrigger (x : Bus) : (s.setBus x).economyTrigger = s.economyTrigger := rfl
@[simp] theorem setBus_scan (x : Bus) : (s.setBus x).scan = s.scan := rfl
@[simp] theorem setBus_bus (x : Bus) : (s.setBus x).bus = x := rfl
@[simp] theorem setBus_arb (x : Bus) : (s.setBus x).arb = s.arb := rfl
@[simp] theorem setBus_clock (x : Bus) : (s.setBus x).clock = s.clock := rfl
@[simp] theorem setBus_notices (x : Bus) : (s.setBus x).notices = s.notices := rfl
@[simp] theorem setBus_ports (x : Bus) : (s.setBus x).ports = s.ports := rfl
@[simp] theorem setBus_routes (x : Bus) : (s.setBus x).routes = s.routes := rfl
@[simp] theorem setBus_hreq (x : Bus) : (s.setBus x).hreq = s.hreq := rfl
@[simp] theorem setBus_acts (x : Bus) : (s.setBus x).acts = s.acts := rfl
@[simp] theorem setBus_link (x : Bus) : (s.setBus x).link = s.link := rfl
@[simp] theorem setBus_restart (x : Bus) : (s.setBus x).restart = s.restart := rfl
@[simp] theorem setBus_uptime (x : Bus) : (s.setBus x).uptime = s.uptime := rfl
@[simp] theorem setBus_pending (x : Bus) : (s.setBus x).pending = s.pending := rfl
@[simp] theorem setBus_port (x : Bus) (q : Port) : (s.setBus x).port q = s.port q := rfl
@[simp] theorem setBus_route (x : Bus) (q : RoutePort) : (s.setBus x).route q = s.route q := rfl
@[simp] theorem setBus_point (x : Bus) (j : PointIx) : (s.setBus x).point j = s.point j := rfl
@[simp] theorem setBus_actuator (x : Bus) (j : ActIx) : (s.setBus x).actuator j = s.actuator j := rfl
@[simp] theorem setBus_slot (x : Bus) (j : ReferralIx) : (s.setBus x).slot j = s.slot j := rfl
@[simp] theorem setBus_descOf (x : Bus) (j : PointIx) : (s.setBus x).descOf j = s.descOf j := rfl

/-! ### setArb -/

@[simp] theorem setArb_por (x : Arbiter) : (s.setArb x).por = s.por := rfl
@[simp] theorem setArb_strapsRead (x : Arbiter) : (s.setArb x).strapsRead = s.strapsRead := rfl
@[simp] theorem setArb_baud (x : Arbiter) : (s.setArb x).baud = s.baud := rfl
@[simp] theorem setArb_points (x : Arbiter) : (s.setArb x).points = s.points := rfl
@[simp] theorem setArb_siteLocal (x : Arbiter) : (s.setArb x).siteLocal = s.siteLocal := rfl
@[simp] theorem setArb_economyTrigger (x : Arbiter) : (s.setArb x).economyTrigger = s.economyTrigger := rfl
@[simp] theorem setArb_scan (x : Arbiter) : (s.setArb x).scan = s.scan := rfl
@[simp] theorem setArb_bus (x : Arbiter) : (s.setArb x).bus = s.bus := rfl
@[simp] theorem setArb_arb (x : Arbiter) : (s.setArb x).arb = x := rfl
@[simp] theorem setArb_clock (x : Arbiter) : (s.setArb x).clock = s.clock := rfl
@[simp] theorem setArb_notices (x : Arbiter) : (s.setArb x).notices = s.notices := rfl
@[simp] theorem setArb_ports (x : Arbiter) : (s.setArb x).ports = s.ports := rfl
@[simp] theorem setArb_routes (x : Arbiter) : (s.setArb x).routes = s.routes := rfl
@[simp] theorem setArb_hreq (x : Arbiter) : (s.setArb x).hreq = s.hreq := rfl
@[simp] theorem setArb_acts (x : Arbiter) : (s.setArb x).acts = s.acts := rfl
@[simp] theorem setArb_link (x : Arbiter) : (s.setArb x).link = s.link := rfl
@[simp] theorem setArb_restart (x : Arbiter) : (s.setArb x).restart = s.restart := rfl
@[simp] theorem setArb_uptime (x : Arbiter) : (s.setArb x).uptime = s.uptime := rfl
@[simp] theorem setArb_pending (x : Arbiter) : (s.setArb x).pending = s.pending := rfl
@[simp] theorem setArb_port (x : Arbiter) (q : Port) : (s.setArb x).port q = s.port q := rfl
@[simp] theorem setArb_route (x : Arbiter) (q : RoutePort) : (s.setArb x).route q = s.route q := rfl
@[simp] theorem setArb_point (x : Arbiter) (j : PointIx) : (s.setArb x).point j = s.point j := rfl
@[simp] theorem setArb_actuator (x : Arbiter) (j : ActIx) : (s.setArb x).actuator j = s.actuator j := rfl
@[simp] theorem setArb_slot (x : Arbiter) (j : ReferralIx) : (s.setArb x).slot j = s.slot j := rfl
@[simp] theorem setArb_descOf (x : Arbiter) (j : PointIx) : (s.setArb x).descOf j = s.descOf j := rfl
@[simp] theorem setArb_classOf (x : Arbiter) (m : ModIx) : (s.setArb x).classOf m = s.classOf m := rfl
@[simp] theorem setArb_classNoOf (x : Arbiter) (m : ModIx) : (s.setArb x).classNoOf m = s.classNoOf m := rfl

/-! ### setClock -/

@[simp] theorem setClock_por (x : ClockControl) : (s.setClock x).por = s.por := rfl
@[simp] theorem setClock_strapsRead (x : ClockControl) : (s.setClock x).strapsRead = s.strapsRead := rfl
@[simp] theorem setClock_baud (x : ClockControl) : (s.setClock x).baud = s.baud := rfl
@[simp] theorem setClock_points (x : ClockControl) : (s.setClock x).points = s.points := rfl
@[simp] theorem setClock_siteLocal (x : ClockControl) : (s.setClock x).siteLocal = s.siteLocal := rfl
@[simp] theorem setClock_economyTrigger (x : ClockControl) : (s.setClock x).economyTrigger = s.economyTrigger := rfl
@[simp] theorem setClock_scan (x : ClockControl) : (s.setClock x).scan = s.scan := rfl
@[simp] theorem setClock_bus (x : ClockControl) : (s.setClock x).bus = s.bus := rfl
@[simp] theorem setClock_arb (x : ClockControl) : (s.setClock x).arb = s.arb := rfl
@[simp] theorem setClock_clock (x : ClockControl) : (s.setClock x).clock = x := rfl
@[simp] theorem setClock_notices (x : ClockControl) : (s.setClock x).notices = s.notices := rfl
@[simp] theorem setClock_ports (x : ClockControl) : (s.setClock x).ports = s.ports := rfl
@[simp] theorem setClock_routes (x : ClockControl) : (s.setClock x).routes = s.routes := rfl
@[simp] theorem setClock_hreq (x : ClockControl) : (s.setClock x).hreq = s.hreq := rfl
@[simp] theorem setClock_acts (x : ClockControl) : (s.setClock x).acts = s.acts := rfl
@[simp] theorem setClock_link (x : ClockControl) : (s.setClock x).link = s.link := rfl
@[simp] theorem setClock_restart (x : ClockControl) : (s.setClock x).restart = s.restart := rfl
@[simp] theorem setClock_uptime (x : ClockControl) : (s.setClock x).uptime = s.uptime := rfl
@[simp] theorem setClock_pending (x : ClockControl) : (s.setClock x).pending = s.pending := rfl
@[simp] theorem setClock_port (x : ClockControl) (q : Port) : (s.setClock x).port q = s.port q := rfl
@[simp] theorem setClock_route (x : ClockControl) (q : RoutePort) : (s.setClock x).route q = s.route q := rfl
@[simp] theorem setClock_point (x : ClockControl) (j : PointIx) : (s.setClock x).point j = s.point j := rfl
@[simp] theorem setClock_actuator (x : ClockControl) (j : ActIx) : (s.setClock x).actuator j = s.actuator j := rfl
@[simp] theorem setClock_slot (x : ClockControl) (j : ReferralIx) : (s.setClock x).slot j = s.slot j := rfl
@[simp] theorem setClock_descOf (x : ClockControl) (j : PointIx) : (s.setClock x).descOf j = s.descOf j := rfl
@[simp] theorem setClock_classOf (x : ClockControl) (m : ModIx) : (s.setClock x).classOf m = s.classOf m := rfl
@[simp] theorem setClock_classNoOf (x : ClockControl) (m : ModIx) : (s.setClock x).classNoOf m = s.classNoOf m := rfl

/-! ### setNotices -/

@[simp] theorem setNotices_por (x : NoticeTable) : (s.setNotices x).por = s.por := rfl
@[simp] theorem setNotices_strapsRead (x : NoticeTable) : (s.setNotices x).strapsRead = s.strapsRead := rfl
@[simp] theorem setNotices_baud (x : NoticeTable) : (s.setNotices x).baud = s.baud := rfl
@[simp] theorem setNotices_points (x : NoticeTable) : (s.setNotices x).points = s.points := rfl
@[simp] theorem setNotices_siteLocal (x : NoticeTable) : (s.setNotices x).siteLocal = s.siteLocal := rfl
@[simp] theorem setNotices_economyTrigger (x : NoticeTable) : (s.setNotices x).economyTrigger = s.economyTrigger := rfl
@[simp] theorem setNotices_scan (x : NoticeTable) : (s.setNotices x).scan = s.scan := rfl
@[simp] theorem setNotices_bus (x : NoticeTable) : (s.setNotices x).bus = s.bus := rfl
@[simp] theorem setNotices_arb (x : NoticeTable) : (s.setNotices x).arb = s.arb := rfl
@[simp] theorem setNotices_clock (x : NoticeTable) : (s.setNotices x).clock = s.clock := rfl
@[simp] theorem setNotices_notices (x : NoticeTable) : (s.setNotices x).notices = x := rfl
@[simp] theorem setNotices_ports (x : NoticeTable) : (s.setNotices x).ports = s.ports := rfl
@[simp] theorem setNotices_routes (x : NoticeTable) : (s.setNotices x).routes = s.routes := rfl
@[simp] theorem setNotices_hreq (x : NoticeTable) : (s.setNotices x).hreq = s.hreq := rfl
@[simp] theorem setNotices_acts (x : NoticeTable) : (s.setNotices x).acts = s.acts := rfl
@[simp] theorem setNotices_link (x : NoticeTable) : (s.setNotices x).link = s.link := rfl
@[simp] theorem setNotices_restart (x : NoticeTable) : (s.setNotices x).restart = s.restart := rfl
@[simp] theorem setNotices_uptime (x : NoticeTable) : (s.setNotices x).uptime = s.uptime := rfl
@[simp] theorem setNotices_pending (x : NoticeTable) : (s.setNotices x).pending = s.pending := rfl
@[simp] theorem setNotices_port (x : NoticeTable) (q : Port) : (s.setNotices x).port q = s.port q := rfl
@[simp] theorem setNotices_route (x : NoticeTable) (q : RoutePort) : (s.setNotices x).route q = s.route q := rfl
@[simp] theorem setNotices_point (x : NoticeTable) (j : PointIx) : (s.setNotices x).point j = s.point j := rfl
@[simp] theorem setNotices_actuator (x : NoticeTable) (j : ActIx) : (s.setNotices x).actuator j = s.actuator j := rfl
@[simp] theorem setNotices_slot (x : NoticeTable) (j : ReferralIx) : (s.setNotices x).slot j = s.slot j := rfl
@[simp] theorem setNotices_descOf (x : NoticeTable) (j : PointIx) : (s.setNotices x).descOf j = s.descOf j := rfl
@[simp] theorem setNotices_classOf (x : NoticeTable) (m : ModIx) : (s.setNotices x).classOf m = s.classOf m := rfl
@[simp] theorem setNotices_classNoOf (x : NoticeTable) (m : ModIx) : (s.setNotices x).classNoOf m = s.classNoOf m := rfl

/-! ### setEntries -/

@[simp] theorem setEntries_por (x : List Notice) : (s.setEntries x).por = s.por := rfl
@[simp] theorem setEntries_strapsRead (x : List Notice) : (s.setEntries x).strapsRead = s.strapsRead := rfl
@[simp] theorem setEntries_baud (x : List Notice) : (s.setEntries x).baud = s.baud := rfl
@[simp] theorem setEntries_points (x : List Notice) : (s.setEntries x).points = s.points := rfl
@[simp] theorem setEntries_siteLocal (x : List Notice) : (s.setEntries x).siteLocal = s.siteLocal := rfl
@[simp] theorem setEntries_economyTrigger (x : List Notice) : (s.setEntries x).economyTrigger = s.economyTrigger := rfl
@[simp] theorem setEntries_scan (x : List Notice) : (s.setEntries x).scan = s.scan := rfl
@[simp] theorem setEntries_bus (x : List Notice) : (s.setEntries x).bus = s.bus := rfl
@[simp] theorem setEntries_arb (x : List Notice) : (s.setEntries x).arb = s.arb := rfl
@[simp] theorem setEntries_clock (x : List Notice) : (s.setEntries x).clock = s.clock := rfl
@[simp] theorem setEntries_notices (x : List Notice) : (s.setEntries x).notices = { s.notices with entries := x } := rfl
@[simp] theorem setEntries_ports (x : List Notice) : (s.setEntries x).ports = s.ports := rfl
@[simp] theorem setEntries_routes (x : List Notice) : (s.setEntries x).routes = s.routes := rfl
@[simp] theorem setEntries_hreq (x : List Notice) : (s.setEntries x).hreq = s.hreq := rfl
@[simp] theorem setEntries_acts (x : List Notice) : (s.setEntries x).acts = s.acts := rfl
@[simp] theorem setEntries_link (x : List Notice) : (s.setEntries x).link = s.link := rfl
@[simp] theorem setEntries_restart (x : List Notice) : (s.setEntries x).restart = s.restart := rfl
@[simp] theorem setEntries_uptime (x : List Notice) : (s.setEntries x).uptime = s.uptime := rfl
@[simp] theorem setEntries_pending (x : List Notice) : (s.setEntries x).pending = s.pending := rfl
@[simp] theorem setEntries_port (x : List Notice) (q : Port) : (s.setEntries x).port q = s.port q := rfl
@[simp] theorem setEntries_route (x : List Notice) (q : RoutePort) : (s.setEntries x).route q = s.route q := rfl
@[simp] theorem setEntries_point (x : List Notice) (j : PointIx) : (s.setEntries x).point j = s.point j := rfl
@[simp] theorem setEntries_actuator (x : List Notice) (j : ActIx) : (s.setEntries x).actuator j = s.actuator j := rfl
@[simp] theorem setEntries_slot (x : List Notice) (j : ReferralIx) : (s.setEntries x).slot j = s.slot j := rfl
@[simp] theorem setEntries_descOf (x : List Notice) (j : PointIx) : (s.setEntries x).descOf j = s.descOf j := rfl
@[simp] theorem setEntries_classOf (x : List Notice) (m : ModIx) : (s.setEntries x).classOf m = s.classOf m := rfl
@[simp] theorem setEntries_classNoOf (x : List Notice) (m : ModIx) : (s.setEntries x).classNoOf m = s.classNoOf m := rfl

/-! ### setWorkList -/

@[simp] theorem setWorkList_por (x : List WorkItem) : (s.setWorkList x).por = s.por := rfl
@[simp] theorem setWorkList_strapsRead (x : List WorkItem) : (s.setWorkList x).strapsRead = s.strapsRead := rfl
@[simp] theorem setWorkList_baud (x : List WorkItem) : (s.setWorkList x).baud = s.baud := rfl
@[simp] theorem setWorkList_points (x : List WorkItem) : (s.setWorkList x).points = s.points := rfl
@[simp] theorem setWorkList_siteLocal (x : List WorkItem) : (s.setWorkList x).siteLocal = s.siteLocal := rfl
@[simp] theorem setWorkList_economyTrigger (x : List WorkItem) : (s.setWorkList x).economyTrigger = s.economyTrigger := rfl
@[simp] theorem setWorkList_scan (x : List WorkItem) : (s.setWorkList x).scan = s.scan := rfl
@[simp] theorem setWorkList_bus (x : List WorkItem) : (s.setWorkList x).bus = s.bus := rfl
@[simp] theorem setWorkList_arb (x : List WorkItem) : (s.setWorkList x).arb = s.arb := rfl
@[simp] theorem setWorkList_clock (x : List WorkItem) : (s.setWorkList x).clock = s.clock := rfl
@[simp] theorem setWorkList_notices (x : List WorkItem) : (s.setWorkList x).notices = s.notices := rfl
@[simp] theorem setWorkList_ports (x : List WorkItem) : (s.setWorkList x).ports = s.ports := rfl
@[simp] theorem setWorkList_routes (x : List WorkItem) : (s.setWorkList x).routes = s.routes := rfl
@[simp] theorem setWorkList_hreq (x : List WorkItem) : (s.setWorkList x).hreq = s.hreq := rfl
@[simp] theorem setWorkList_acts (x : List WorkItem) : (s.setWorkList x).acts = { s.acts with workList := x } := rfl
@[simp] theorem setWorkList_link (x : List WorkItem) : (s.setWorkList x).link = s.link := rfl
@[simp] theorem setWorkList_restart (x : List WorkItem) : (s.setWorkList x).restart = s.restart := rfl
@[simp] theorem setWorkList_uptime (x : List WorkItem) : (s.setWorkList x).uptime = s.uptime := rfl
@[simp] theorem setWorkList_pending (x : List WorkItem) : (s.setWorkList x).pending = s.pending := rfl
@[simp] theorem setWorkList_port (x : List WorkItem) (q : Port) : (s.setWorkList x).port q = s.port q := rfl
@[simp] theorem setWorkList_route (x : List WorkItem) (q : RoutePort) : (s.setWorkList x).route q = s.route q := rfl
@[simp] theorem setWorkList_point (x : List WorkItem) (j : PointIx) : (s.setWorkList x).point j = s.point j := rfl
@[simp] theorem setWorkList_actuator (x : List WorkItem) (j : ActIx) : (s.setWorkList x).actuator j = s.actuator j := rfl
@[simp] theorem setWorkList_slot (x : List WorkItem) (j : ReferralIx) : (s.setWorkList x).slot j = s.slot j := rfl
@[simp] theorem setWorkList_descOf (x : List WorkItem) (j : PointIx) : (s.setWorkList x).descOf j = s.descOf j := rfl
@[simp] theorem setWorkList_classOf (x : List WorkItem) (m : ModIx) : (s.setWorkList x).classOf m = s.classOf m := rfl
@[simp] theorem setWorkList_classNoOf (x : List WorkItem) (m : ModIx) : (s.setWorkList x).classNoOf m = s.classNoOf m := rfl

/-! ### setRunning -/

@[simp] theorem setRunning_por (x : Option RunningItem) : (s.setRunning x).por = s.por := rfl
@[simp] theorem setRunning_strapsRead (x : Option RunningItem) : (s.setRunning x).strapsRead = s.strapsRead := rfl
@[simp] theorem setRunning_baud (x : Option RunningItem) : (s.setRunning x).baud = s.baud := rfl
@[simp] theorem setRunning_points (x : Option RunningItem) : (s.setRunning x).points = s.points := rfl
@[simp] theorem setRunning_siteLocal (x : Option RunningItem) : (s.setRunning x).siteLocal = s.siteLocal := rfl
@[simp] theorem setRunning_economyTrigger (x : Option RunningItem) : (s.setRunning x).economyTrigger = s.economyTrigger := rfl
@[simp] theorem setRunning_scan (x : Option RunningItem) : (s.setRunning x).scan = s.scan := rfl
@[simp] theorem setRunning_bus (x : Option RunningItem) : (s.setRunning x).bus = s.bus := rfl
@[simp] theorem setRunning_arb (x : Option RunningItem) : (s.setRunning x).arb = s.arb := rfl
@[simp] theorem setRunning_clock (x : Option RunningItem) : (s.setRunning x).clock = s.clock := rfl
@[simp] theorem setRunning_notices (x : Option RunningItem) : (s.setRunning x).notices = s.notices := rfl
@[simp] theorem setRunning_ports (x : Option RunningItem) : (s.setRunning x).ports = s.ports := rfl
@[simp] theorem setRunning_routes (x : Option RunningItem) : (s.setRunning x).routes = s.routes := rfl
@[simp] theorem setRunning_hreq (x : Option RunningItem) : (s.setRunning x).hreq = s.hreq := rfl
@[simp] theorem setRunning_acts (x : Option RunningItem) : (s.setRunning x).acts = { s.acts with running := x } := rfl
@[simp] theorem setRunning_link (x : Option RunningItem) : (s.setRunning x).link = s.link := rfl
@[simp] theorem setRunning_restart (x : Option RunningItem) : (s.setRunning x).restart = s.restart := rfl
@[simp] theorem setRunning_uptime (x : Option RunningItem) : (s.setRunning x).uptime = s.uptime := rfl
@[simp] theorem setRunning_pending (x : Option RunningItem) : (s.setRunning x).pending = s.pending := rfl
@[simp] theorem setRunning_port (x : Option RunningItem) (q : Port) : (s.setRunning x).port q = s.port q := rfl
@[simp] theorem setRunning_route (x : Option RunningItem) (q : RoutePort) : (s.setRunning x).route q = s.route q := rfl
@[simp] theorem setRunning_point (x : Option RunningItem) (j : PointIx) : (s.setRunning x).point j = s.point j := rfl
@[simp] theorem setRunning_actuator (x : Option RunningItem) (j : ActIx) : (s.setRunning x).actuator j = s.actuator j := rfl
@[simp] theorem setRunning_slot (x : Option RunningItem) (j : ReferralIx) : (s.setRunning x).slot j = s.slot j := rfl
@[simp] theorem setRunning_descOf (x : Option RunningItem) (j : PointIx) : (s.setRunning x).descOf j = s.descOf j := rfl
@[simp] theorem setRunning_classOf (x : Option RunningItem) (m : ModIx) : (s.setRunning x).classOf m = s.classOf m := rfl
@[simp] theorem setRunning_classNoOf (x : Option RunningItem) (m : ModIx) : (s.setRunning x).classNoOf m = s.classNoOf m := rfl

/-! ### setMoments -/

@[simp] theorem setMoments_por (x : Moments) : (s.setMoments x).por = s.por := rfl
@[simp] theorem setMoments_strapsRead (x : Moments) : (s.setMoments x).strapsRead = s.strapsRead := rfl
@[simp] theorem setMoments_baud (x : Moments) : (s.setMoments x).baud = s.baud := rfl
@[simp] theorem setMoments_points (x : Moments) : (s.setMoments x).points = s.points := rfl
@[simp] theorem setMoments_siteLocal (x : Moments) : (s.setMoments x).siteLocal = s.siteLocal := rfl
@[simp] theorem setMoments_economyTrigger (x : Moments) : (s.setMoments x).economyTrigger = s.economyTrigger := rfl
@[simp] theorem setMoments_scan (x : Moments) : (s.setMoments x).scan = s.scan := rfl
@[simp] theorem setMoments_bus (x : Moments) : (s.setMoments x).bus = s.bus := rfl
@[simp] theorem setMoments_arb (x : Moments) : (s.setMoments x).arb = s.arb := rfl
@[simp] theorem setMoments_clock (x : Moments) : (s.setMoments x).clock = s.clock := rfl
@[simp] theorem setMoments_notices (x : Moments) : (s.setMoments x).notices = s.notices := rfl
@[simp] theorem setMoments_ports (x : Moments) : (s.setMoments x).ports = s.ports := rfl
@[simp] theorem setMoments_routes (x : Moments) : (s.setMoments x).routes = s.routes := rfl
@[simp] theorem setMoments_hreq (x : Moments) : (s.setMoments x).hreq = s.hreq := rfl
@[simp] theorem setMoments_acts (x : Moments) : (s.setMoments x).acts = { s.acts with moments := x } := rfl
@[simp] theorem setMoments_link (x : Moments) : (s.setMoments x).link = s.link := rfl
@[simp] theorem setMoments_restart (x : Moments) : (s.setMoments x).restart = s.restart := rfl
@[simp] theorem setMoments_uptime (x : Moments) : (s.setMoments x).uptime = s.uptime := rfl
@[simp] theorem setMoments_pending (x : Moments) : (s.setMoments x).pending = s.pending := rfl
@[simp] theorem setMoments_port (x : Moments) (q : Port) : (s.setMoments x).port q = s.port q := rfl
@[simp] theorem setMoments_route (x : Moments) (q : RoutePort) : (s.setMoments x).route q = s.route q := rfl
@[simp] theorem setMoments_point (x : Moments) (j : PointIx) : (s.setMoments x).point j = s.point j := rfl
@[simp] theorem setMoments_actuator (x : Moments) (j : ActIx) : (s.setMoments x).actuator j = s.actuator j := rfl
@[simp] theorem setMoments_slot (x : Moments) (j : ReferralIx) : (s.setMoments x).slot j = s.slot j := rfl
@[simp] theorem setMoments_descOf (x : Moments) (j : PointIx) : (s.setMoments x).descOf j = s.descOf j := rfl
@[simp] theorem setMoments_classOf (x : Moments) (m : ModIx) : (s.setMoments x).classOf m = s.classOf m := rfl
@[simp] theorem setMoments_classNoOf (x : Moments) (m : ModIx) : (s.setMoments x).classNoOf m = s.classNoOf m := rfl

/-! ### setLink -/

@[simp] theorem setLink_por (x : HutLink) : (s.setLink x).por = s.por := rfl
@[simp] theorem setLink_strapsRead (x : HutLink) : (s.setLink x).strapsRead = s.strapsRead := rfl
@[simp] theorem setLink_baud (x : HutLink) : (s.setLink x).baud = s.baud := rfl
@[simp] theorem setLink_points (x : HutLink) : (s.setLink x).points = s.points := rfl
@[simp] theorem setLink_siteLocal (x : HutLink) : (s.setLink x).siteLocal = s.siteLocal := rfl
@[simp] theorem setLink_economyTrigger (x : HutLink) : (s.setLink x).economyTrigger = s.economyTrigger := rfl
@[simp] theorem setLink_scan (x : HutLink) : (s.setLink x).scan = s.scan := rfl
@[simp] theorem setLink_bus (x : HutLink) : (s.setLink x).bus = s.bus := rfl
@[simp] theorem setLink_arb (x : HutLink) : (s.setLink x).arb = s.arb := rfl
@[simp] theorem setLink_clock (x : HutLink) : (s.setLink x).clock = s.clock := rfl
@[simp] theorem setLink_notices (x : HutLink) : (s.setLink x).notices = s.notices := rfl
@[simp] theorem setLink_ports (x : HutLink) : (s.setLink x).ports = s.ports := rfl
@[simp] theorem setLink_routes (x : HutLink) : (s.setLink x).routes = s.routes := rfl
@[simp] theorem setLink_hreq (x : HutLink) : (s.setLink x).hreq = s.hreq := rfl
@[simp] theorem setLink_acts (x : HutLink) : (s.setLink x).acts = s.acts := rfl
@[simp] theorem setLink_link (x : HutLink) : (s.setLink x).link = x := rfl
@[simp] theorem setLink_restart (x : HutLink) : (s.setLink x).restart = s.restart := rfl
@[simp] theorem setLink_uptime (x : HutLink) : (s.setLink x).uptime = s.uptime := rfl
@[simp] theorem setLink_pending (x : HutLink) : (s.setLink x).pending = s.pending := rfl
@[simp] theorem setLink_port (x : HutLink) (q : Port) : (s.setLink x).port q = s.port q := rfl
@[simp] theorem setLink_route (x : HutLink) (q : RoutePort) : (s.setLink x).route q = s.route q := rfl
@[simp] theorem setLink_point (x : HutLink) (j : PointIx) : (s.setLink x).point j = s.point j := rfl
@[simp] theorem setLink_actuator (x : HutLink) (j : ActIx) : (s.setLink x).actuator j = s.actuator j := rfl
@[simp] theorem setLink_descOf (x : HutLink) (j : PointIx) : (s.setLink x).descOf j = s.descOf j := rfl
@[simp] theorem setLink_classOf (x : HutLink) (m : ModIx) : (s.setLink x).classOf m = s.classOf m := rfl
@[simp] theorem setLink_classNoOf (x : HutLink) (m : ModIx) : (s.setLink x).classNoOf m = s.classNoOf m := rfl

/-! ### setRestart -/

@[simp] theorem setRestart_por (x : RestartState) : (s.setRestart x).por = s.por := rfl
@[simp] theorem setRestart_strapsRead (x : RestartState) : (s.setRestart x).strapsRead = s.strapsRead := rfl
@[simp] theorem setRestart_baud (x : RestartState) : (s.setRestart x).baud = s.baud := rfl
@[simp] theorem setRestart_points (x : RestartState) : (s.setRestart x).points = s.points := rfl
@[simp] theorem setRestart_siteLocal (x : RestartState) : (s.setRestart x).siteLocal = s.siteLocal := rfl
@[simp] theorem setRestart_economyTrigger (x : RestartState) : (s.setRestart x).economyTrigger = s.economyTrigger := rfl
@[simp] theorem setRestart_scan (x : RestartState) : (s.setRestart x).scan = s.scan := rfl
@[simp] theorem setRestart_bus (x : RestartState) : (s.setRestart x).bus = s.bus := rfl
@[simp] theorem setRestart_arb (x : RestartState) : (s.setRestart x).arb = s.arb := rfl
@[simp] theorem setRestart_clock (x : RestartState) : (s.setRestart x).clock = s.clock := rfl
@[simp] theorem setRestart_notices (x : RestartState) : (s.setRestart x).notices = s.notices := rfl
@[simp] theorem setRestart_ports (x : RestartState) : (s.setRestart x).ports = s.ports := rfl
@[simp] theorem setRestart_routes (x : RestartState) : (s.setRestart x).routes = s.routes := rfl
@[simp] theorem setRestart_hreq (x : RestartState) : (s.setRestart x).hreq = s.hreq := rfl
@[simp] theorem setRestart_acts (x : RestartState) : (s.setRestart x).acts = s.acts := rfl
@[simp] theorem setRestart_link (x : RestartState) : (s.setRestart x).link = s.link := rfl
@[simp] theorem setRestart_restart (x : RestartState) : (s.setRestart x).restart = x := rfl
@[simp] theorem setRestart_uptime (x : RestartState) : (s.setRestart x).uptime = s.uptime := rfl
@[simp] theorem setRestart_pending (x : RestartState) : (s.setRestart x).pending = s.pending := rfl
@[simp] theorem setRestart_port (x : RestartState) (q : Port) : (s.setRestart x).port q = s.port q := rfl
@[simp] theorem setRestart_route (x : RestartState) (q : RoutePort) : (s.setRestart x).route q = s.route q := rfl
@[simp] theorem setRestart_point (x : RestartState) (j : PointIx) : (s.setRestart x).point j = s.point j := rfl
@[simp] theorem setRestart_actuator (x : RestartState) (j : ActIx) : (s.setRestart x).actuator j = s.actuator j := rfl
@[simp] theorem setRestart_slot (x : RestartState) (j : ReferralIx) : (s.setRestart x).slot j = s.slot j := rfl
@[simp] theorem setRestart_descOf (x : RestartState) (j : PointIx) : (s.setRestart x).descOf j = s.descOf j := rfl
@[simp] theorem setRestart_classOf (x : RestartState) (m : ModIx) : (s.setRestart x).classOf m = s.classOf m := rfl
@[simp] theorem setRestart_classNoOf (x : RestartState) (m : ModIx) : (s.setRestart x).classNoOf m = s.classNoOf m := rfl

/-! ### setHreq -/

@[simp] theorem setHreq_por (x : Bool) : (s.setHreq x).por = s.por := rfl
@[simp] theorem setHreq_strapsRead (x : Bool) : (s.setHreq x).strapsRead = s.strapsRead := rfl
@[simp] theorem setHreq_baud (x : Bool) : (s.setHreq x).baud = s.baud := rfl
@[simp] theorem setHreq_points (x : Bool) : (s.setHreq x).points = s.points := rfl
@[simp] theorem setHreq_siteLocal (x : Bool) : (s.setHreq x).siteLocal = s.siteLocal := rfl
@[simp] theorem setHreq_economyTrigger (x : Bool) : (s.setHreq x).economyTrigger = s.economyTrigger := rfl
@[simp] theorem setHreq_scan (x : Bool) : (s.setHreq x).scan = s.scan := rfl
@[simp] theorem setHreq_bus (x : Bool) : (s.setHreq x).bus = s.bus := rfl
@[simp] theorem setHreq_arb (x : Bool) : (s.setHreq x).arb = s.arb := rfl
@[simp] theorem setHreq_clock (x : Bool) : (s.setHreq x).clock = s.clock := rfl
@[simp] theorem setHreq_notices (x : Bool) : (s.setHreq x).notices = s.notices := rfl
@[simp] theorem setHreq_ports (x : Bool) : (s.setHreq x).ports = s.ports := rfl
@[simp] theorem setHreq_routes (x : Bool) : (s.setHreq x).routes = s.routes := rfl
@[simp] theorem setHreq_hreq (x : Bool) : (s.setHreq x).hreq = x := rfl
@[simp] theorem setHreq_acts (x : Bool) : (s.setHreq x).acts = s.acts := rfl
@[simp] theorem setHreq_link (x : Bool) : (s.setHreq x).link = s.link := rfl
@[simp] theorem setHreq_restart (x : Bool) : (s.setHreq x).restart = s.restart := rfl
@[simp] theorem setHreq_uptime (x : Bool) : (s.setHreq x).uptime = s.uptime := rfl
@[simp] theorem setHreq_pending (x : Bool) : (s.setHreq x).pending = s.pending := rfl
@[simp] theorem setHreq_port (x : Bool) (q : Port) : (s.setHreq x).port q = s.port q := rfl
@[simp] theorem setHreq_route (x : Bool) (q : RoutePort) : (s.setHreq x).route q = s.route q := rfl
@[simp] theorem setHreq_point (x : Bool) (j : PointIx) : (s.setHreq x).point j = s.point j := rfl
@[simp] theorem setHreq_actuator (x : Bool) (j : ActIx) : (s.setHreq x).actuator j = s.actuator j := rfl
@[simp] theorem setHreq_slot (x : Bool) (j : ReferralIx) : (s.setHreq x).slot j = s.slot j := rfl
@[simp] theorem setHreq_descOf (x : Bool) (j : PointIx) : (s.setHreq x).descOf j = s.descOf j := rfl
@[simp] theorem setHreq_classOf (x : Bool) (m : ModIx) : (s.setHreq x).classOf m = s.classOf m := rfl
@[simp] theorem setHreq_classNoOf (x : Bool) (m : ModIx) : (s.setHreq x).classNoOf m = s.classNoOf m := rfl

/-! ### setExecutor -/

@[simp] theorem setExecutor_por (p : Port) (x : Executor) : (s.setExecutor p x).por = s.por := rfl
@[simp] theorem setExecutor_strapsRead (p : Port) (x : Executor) : (s.setExecutor p x).strapsRead = s.strapsRead := rfl
@[simp] theorem setExecutor_baud (p : Port) (x : Executor) : (s.setExecutor p x).baud = s.baud := rfl
@[simp] theorem setExecutor_points (p : Port) (x : Executor) : (s.setExecutor p x).points = s.points := rfl
@[simp] theorem setExecutor_siteLocal (p : Port) (x : Executor) : (s.setExecutor p x).siteLocal = s.siteLocal := rfl
@[simp] theorem setExecutor_economyTrigger (p : Port) (x : Executor) : (s.setExecutor p x).economyTrigger = s.economyTrigger := rfl
@[simp] theorem setExecutor_scan (p : Port) (x : Executor) : (s.setExecutor p x).scan = s.scan := rfl
@[simp] theorem setExecutor_bus (p : Port) (x : Executor) : (s.setExecutor p x).bus = s.bus := rfl
@[simp] theorem setExecutor_arb (p : Port) (x : Executor) : (s.setExecutor p x).arb = s.arb := rfl
@[simp] theorem setExecutor_clock (p : Port) (x : Executor) : (s.setExecutor p x).clock = s.clock := rfl
@[simp] theorem setExecutor_notices (p : Port) (x : Executor) : (s.setExecutor p x).notices = s.notices := rfl
@[simp] theorem setExecutor_routes (p : Port) (x : Executor) : (s.setExecutor p x).routes = s.routes := rfl
@[simp] theorem setExecutor_hreq (p : Port) (x : Executor) : (s.setExecutor p x).hreq = s.hreq := rfl
@[simp] theorem setExecutor_acts (p : Port) (x : Executor) : (s.setExecutor p x).acts = s.acts := rfl
@[simp] theorem setExecutor_link (p : Port) (x : Executor) : (s.setExecutor p x).link = s.link := rfl
@[simp] theorem setExecutor_restart (p : Port) (x : Executor) : (s.setExecutor p x).restart = s.restart := rfl
@[simp] theorem setExecutor_uptime (p : Port) (x : Executor) : (s.setExecutor p x).uptime = s.uptime := rfl
@[simp] theorem setExecutor_pending (p : Port) (x : Executor) : (s.setExecutor p x).pending = s.pending := rfl
@[simp] theorem setExecutor_route (p : Port) (x : Executor) (q : RoutePort) : (s.setExecutor p x).route q = s.route q := rfl
@[simp] theorem setExecutor_point (p : Port) (x : Executor) (j : PointIx) : (s.setExecutor p x).point j = s.point j := rfl
@[simp] theorem setExecutor_actuator (p : Port) (x : Executor) (j : ActIx) : (s.setExecutor p x).actuator j = s.actuator j := rfl
@[simp] theorem setExecutor_slot (p : Port) (x : Executor) (j : ReferralIx) : (s.setExecutor p x).slot j = s.slot j := rfl
@[simp] theorem setExecutor_descOf (p : Port) (x : Executor) (j : PointIx) : (s.setExecutor p x).descOf j = s.descOf j := rfl
@[simp] theorem setExecutor_classOf (p : Port) (x : Executor) (m : ModIx) : (s.setExecutor p x).classOf m = s.classOf m := rfl
@[simp] theorem setExecutor_classNoOf (p : Port) (x : Executor) (m : ModIx) : (s.setExecutor p x).classNoOf m = s.classNoOf m := rfl

/-! ### setLive -/

@[simp] theorem setLive_por (i : PointIx) (x : LiveRecord) : (s.setLive i x).por = s.por := rfl
@[simp] theorem setLive_strapsRead (i : PointIx) (x : LiveRecord) : (s.setLive i x).strapsRead = s.strapsRead := rfl
@[simp] theorem setLive_baud (i : PointIx) (x : LiveRecord) : (s.setLive i x).baud = s.baud := rfl
@[simp] theorem setLive_siteLocal (i : PointIx) (x : LiveRecord) : (s.setLive i x).siteLocal = s.siteLocal := rfl
@[simp] theorem setLive_economyTrigger (i : PointIx) (x : LiveRecord) : (s.setLive i x).economyTrigger = s.economyTrigger := rfl
@[simp] theorem setLive_scan (i : PointIx) (x : LiveRecord) : (s.setLive i x).scan = s.scan := rfl
@[simp] theorem setLive_bus (i : PointIx) (x : LiveRecord) : (s.setLive i x).bus = s.bus := rfl
@[simp] theorem setLive_arb (i : PointIx) (x : LiveRecord) : (s.setLive i x).arb = s.arb := rfl
@[simp] theorem setLive_clock (i : PointIx) (x : LiveRecord) : (s.setLive i x).clock = s.clock := rfl
@[simp] theorem setLive_notices (i : PointIx) (x : LiveRecord) : (s.setLive i x).notices = s.notices := rfl
@[simp] theorem setLive_ports (i : PointIx) (x : LiveRecord) : (s.setLive i x).ports = s.ports := rfl
@[simp] theorem setLive_routes (i : PointIx) (x : LiveRecord) : (s.setLive i x).routes = s.routes := rfl
@[simp] theorem setLive_hreq (i : PointIx) (x : LiveRecord) : (s.setLive i x).hreq = s.hreq := rfl
@[simp] theorem setLive_acts (i : PointIx) (x : LiveRecord) : (s.setLive i x).acts = s.acts := rfl
@[simp] theorem setLive_link (i : PointIx) (x : LiveRecord) : (s.setLive i x).link = s.link := rfl
@[simp] theorem setLive_restart (i : PointIx) (x : LiveRecord) : (s.setLive i x).restart = s.restart := rfl
@[simp] theorem setLive_uptime (i : PointIx) (x : LiveRecord) : (s.setLive i x).uptime = s.uptime := rfl
@[simp] theorem setLive_pending (i : PointIx) (x : LiveRecord) : (s.setLive i x).pending = s.pending := rfl
@[simp] theorem setLive_port (i : PointIx) (x : LiveRecord) (q : Port) : (s.setLive i x).port q = s.port q := rfl
@[simp] theorem setLive_route (i : PointIx) (x : LiveRecord) (q : RoutePort) : (s.setLive i x).route q = s.route q := rfl
@[simp] theorem setLive_actuator (i : PointIx) (x : LiveRecord) (j : ActIx) : (s.setLive i x).actuator j = s.actuator j := rfl
@[simp] theorem setLive_slot (i : PointIx) (x : LiveRecord) (j : ReferralIx) : (s.setLive i x).slot j = s.slot j := rfl
@[simp] theorem setLive_classOf (i : PointIx) (x : LiveRecord) (m : ModIx) : (s.setLive i x).classOf m = s.classOf m := rfl
@[simp] theorem setLive_classNoOf (i : PointIx) (x : LiveRecord) (m : ModIx) : (s.setLive i x).classNoOf m = s.classNoOf m := rfl

/-! ### Read after write -/

@[simp] theorem PerPort.get_set {α : Type} (x : PerPort α) (p q : Port) (a : α) :
    (x.set p a).get q = if q = p then a else x.get q := by
  cases p <;> cases q <;> rfl

@[simp] theorem PerRoute.get_set {α : Type} (x : PerRoute α) (p q : RoutePort) (a : α) :
    (x.set p a).get q = if q = p then a else x.get q := by
  cases p <;> cases q <;> rfl

theorem setPort_port (p q : Port) (x : PortState) : (s.setPort p x).port q = if q = p then x else s.port q :=
  PerPort.get_set s.ports p q x

@[simp] theorem setPort_port_self (p : Port) (x : PortState) : (s.setPort p x).port p = x := by simp [setPort_port]

theorem setPort_port_ne {p q : Port} (h : q ≠ p) (x : PortState) : (s.setPort p x).port q = s.port q := by
  simp [setPort_port, h]

theorem setRoute_route (p q : RoutePort) (x : RouteState) : (s.setRoute p x).route q = if q = p then x else s.route q :=
  PerRoute.get_set s.routes p q x

@[simp] theorem setRoute_route_self (p : RoutePort) (x : RouteState) : (s.setRoute p x).route p = x := by
  simp [setRoute_route]

theorem get_set_vector {α : Type} {n : Nat} (v : Vector α n) (i j : Fin n) (a : α) :
    (v.set i.val a i.isLt).get j = if j = i then a else v.get j := by
  simp only [Vector.get_eq_getElem, Vector.getElem_set, Fin.ext_iff, eq_comm]

theorem setPoint_point (i j : PointIx) (x : PointEntry) : (s.setPoint i x).point j = if j = i then x else s.point j :=
  get_set_vector s.points i j x

@[simp] theorem setPoint_point_self (i : PointIx) (x : PointEntry) : (s.setPoint i x).point i = x := by
  simp [setPoint_point]

theorem setPoint_point_ne {i j : PointIx} (h : j ≠ i) (x : PointEntry) : (s.setPoint i x).point j = s.point j := by
  simp [setPoint_point, h]

theorem setActuator_actuator (i j : ActIx) (x : ActuatorEntry) :
    (s.setActuator i x).actuator j = if j = i then x else s.actuator j :=
  get_set_vector s.acts.entries i j x

@[simp] theorem setActuator_actuator_self (i : ActIx) (x : ActuatorEntry) : (s.setActuator i x).actuator i = x := by
  simp [setActuator_actuator]

theorem setActuator_actuator_ne {i j : ActIx} (h : j ≠ i) (x : ActuatorEntry) :
    (s.setActuator i x).actuator j = s.actuator j := by
  simp [setActuator_actuator, h]

theorem setSlot_slot (i j : ReferralIx) (x : ReferralSlot) : (s.setSlot i x).slot j = if j = i then x else s.slot j :=
  get_set_vector s.link.slots i j x

@[simp] theorem setSlot_slot_self (i : ReferralIx) (x : ReferralSlot) : (s.setSlot i x).slot i = x := by
  simp [setSlot_slot]

theorem setExecutor_port (p q : Port) (x : Executor) :
    (s.setExecutor p x).port q = if q = p then { s.port p with executor := x } else s.port q :=
  setPort_port s p q _

@[simp] theorem setExecutor_port_self (p : Port) (x : Executor) :
    (s.setExecutor p x).port p = { s.port p with executor := x } := by simp [setExecutor_port]

theorem setLive_point (i j : PointIx) (x : LiveRecord) :
    (s.setLive i x).point j = if j = i then { s.point i with live := x } else s.point j :=
  setPoint_point s i j _

@[simp] theorem setLive_point_self (i : PointIx) (x : LiveRecord) :
    (s.setLive i x).point i = { s.point i with live := x } := by simp [setLive_point]

/-- A live record holds no descriptor. -/
@[simp] theorem setLive_descOf (i j : PointIx) (x : LiveRecord) : (s.setLive i x).descOf j = s.descOf j := by
  unfold State.descOf
  rw [setLive_point]
  split
  · next h => subst h; rfl
  · rfl

end Sys2Proof.Machine
end

