-- ==== Sys2Proof/Laws/Frames.lean ====
section
/-! SUPPORT. What each shared operation can change, as one lemma per operation, and what follows from such a lemma for each part
of the state. -/

set_option Elab.async false

namespace Sys2Proof.Machine

/-! ## ChangesOnly -/

theorem ChangesOnly.refl (l : List Block) (s : State) : ChangesOnly l s s := by
  intro b _
  cases b <;> simp [Block.same]

theorem Block.same_trans {b : Block} {s t u : State} (h : b.same s t) (k : b.same t u) : b.same s u := by
  cases b <;> simp_all [Block.same]

/-- One change after another, in a wider list. -/
theorem ChangesOnly.comp {l m n : List Block} {s t u : State} (h : ChangesOnly l s t) (k : ChangesOnly m t u)
    (hl : ∀ b ∈ l ++ m, b ∈ n := by decide) : ChangesOnly n s u := by
  intro b hb
  exact Block.same_trans (h b fun hm => hb (hl b (List.mem_append_left _ hm)))
    (k b fun hm => hb (hl b (List.mem_append_right _ hm)))

theorem ChangesOnly.mono {l n : List Block} {s t : State} (h : ChangesOnly l s t)
    (hl : ∀ b ∈ l, b ∈ n := by decide) : ChangesOnly n s t :=
  fun b hb => h b fun hm => hb (hl b hm)

/-- A fold changes what its steps change. -/
theorem ChangesOnly.foldl {α : Type} {l : List Block} {f : State → α → State} (h : ∀ s a, ChangesOnly l s (f s a))
    (xs : List α) (s : State) : ChangesOnly l s (xs.foldl f s) := by
  induction xs generalizing s with
  | nil => exact .refl l s
  | cons a xs ih => exact (h s a).comp (ih (f s a)) (by simp)

section parts
variable {l : List Block} {s t : State}

theorem ChangesOnly.por (h : ChangesOnly l s t) (hl : Block.pins ∉ l := by decide) : t.por = s.por := (h _ hl).1
theorem ChangesOnly.strapsRead (h : ChangesOnly l s t) (hl : Block.pins ∉ l := by decide) :
    t.strapsRead = s.strapsRead := (h _ hl).2.1
theorem ChangesOnly.baud (h : ChangesOnly l s t) (hl : Block.pins ∉ l := by decide) : t.baud = s.baud := (h _ hl).2.2
theorem ChangesOnly.points (h : ChangesOnly l s t) (hl : Block.points ∉ l := by decide) : t.points = s.points := h _ hl
theorem ChangesOnly.siteLocal (h : ChangesOnly l s t) (hl : Block.site ∉ l := by decide) : t.siteLocal = s.siteLocal :=
  (h _ hl).1
theorem ChangesOnly.economyTrigger (h : ChangesOnly l s t) (hl : Block.site ∉ l := by decide) :
    t.economyTrigger = s.economyTrigger := (h _ hl).2
theorem ChangesOnly.scan (h : ChangesOnly l s t) (hl : Block.scan ∉ l := by decide) : t.scan = s.scan := h _ hl
theorem ChangesOnly.bus (h : ChangesOnly l s t) (hl : Block.bus ∉ l := by decide) : t.bus = s.bus := h _ hl
theorem ChangesOnly.arb (h : ChangesOnly l s t) (hl : Block.arb ∉ l := by decide) : t.arb = s.arb := h _ hl
theorem ChangesOnly.clock (h : ChangesOnly l s t) (hl : Block.clock ∉ l := by decide) : t.clock = s.clock := h _ hl
theorem ChangesOnly.notices (h : ChangesOnly l s t) (hl : Block.notices ∉ l := by decide) : t.notices = s.notices := h _ hl
theorem ChangesOnly.ports (h : ChangesOnly l s t) (hl : Block.ports ∉ l := by decide) : t.ports = s.ports := h _ hl
theorem ChangesOnly.routes (h : ChangesOnly l s t) (hl : Block.routes ∉ l := by decide) : t.routes = s.routes := h _ hl
theorem ChangesOnly.hreq (h : ChangesOnly l s t) (hl : Block.hreq ∉ l := by decide) : t.hreq = s.hreq := h _ hl
theorem ChangesOnly.acts (h : ChangesOnly l s t) (hl : Block.acts ∉ l := by decide) : t.acts = s.acts := h _ hl
theorem ChangesOnly.link (h : ChangesOnly l s t) (hl : Block.link ∉ l := by decide) : t.link = s.link := h _ hl
theorem ChangesOnly.restart (h : ChangesOnly l s t) (hl : Block.restart ∉ l := by decide) : t.restart = s.restart := h _ hl
theorem ChangesOnly.uptime (h : ChangesOnly l s t) (hl : Block.uptime ∉ l := by decide) : t.uptime = s.uptime := h _ hl
theorem ChangesOnly.pending (h : ChangesOnly l s t) (hl : Block.queue ∉ l := by decide) : t.pending = s.pending := h _ hl

theorem ChangesOnly.point (h : ChangesOnly l s t) (i : PointIx) (hl : Block.points ∉ l := by decide) :
    t.point i = s.point i := by simp only [State.point, h.points hl]
theorem ChangesOnly.descOf (h : ChangesOnly l s t) (i : PointIx) (hl : Block.points ∉ l := by decide) :
    t.descOf i = s.descOf i := by simp only [State.descOf, h.point i hl]
theorem ChangesOnly.actuator (h : ChangesOnly l s t) (i : ActIx) (hl : Block.acts ∉ l := by decide) :
    t.actuator i = s.actuator i := by simp only [State.actuator, h.acts hl]
theorem ChangesOnly.port (h : ChangesOnly l s t) (p : Port) (hl : Block.ports ∉ l := by decide) :
    t.port p = s.port p := by simp only [State.port, h.ports hl]
theorem ChangesOnly.route (h : ChangesOnly l s t) (r : RoutePort) (hl : Block.routes ∉ l := by decide) :
    t.route r = s.route r := by simp only [State.route, h.routes hl]
theorem ChangesOnly.slot (h : ChangesOnly l s t) (k : ReferralIx) (hl : Block.link ∉ l := by decide) :
    t.slot k = s.slot k := by simp only [State.slot, h.link hl]

end parts

/-! ## The named updates -/

section updates
variable (s : State)

theorem setPort_frame (p : Port) (x : PortState) : ChangesOnly [.ports] s (s.setPort p x) := by
  intro b hb; cases b <;> simp_all [Block.same]
theorem setExecutor_frame (p : Port) (x : Executor) : ChangesOnly [.ports] s (s.setExecutor p x) := setPort_frame s p _
theorem setRoute_frame (r : RoutePort) (x : RouteState) : ChangesOnly [.routes] s (s.setRoute r x) := by
  intro b hb; cases b <;> simp_all [Block.same]
theorem setPoint_frame (i : PointIx) (x : PointEntry) : ChangesOnly [.points] s (s.setPoint i x) := by
  intro b hb; cases b <;> simp_all [Block.same]
theorem setLive_frame (i : PointIx) (x : LiveRecord) : ChangesOnly [.points] s (s.setLive i x) := setPoint_frame s i _
theorem setActuator_frame (i : ActIx) (x : ActuatorEntry) : ChangesOnly [.acts] s (s.setActuator i x) := by
  intro b hb; cases b <;> simp_all [Block.same]
theorem setSlot_frame (k : ReferralIx) (x : ReferralSlot) : ChangesOnly [.link] s (s.setSlot k x) := by
  intro b hb; cases b <;> simp_all [Block.same]
theorem setScan_frame (x : Scanner) : ChangesOnly [.scan] s (s.setScan x) := by
  intro b hb; cases b <;> simp_all [Block.same]
theorem setBus_frame (x : Bus) : ChangesOnly [.bus] s (s.setBus x) := by
  intro b hb; cases b <;> simp_all [Block.same]
theorem setArb_frame (x : Arbiter) : ChangesOnly [.arb] s (s.setArb x) := by
  intro b hb; cases b <;> simp_all [Block.same]
theorem setClock_frame (x : ClockControl) : ChangesOnly [.clock] s (s.setClock x) := by
  intro b hb; cases b <;> simp_all [Block.same]
theorem setNotices_frame (x : NoticeTable) : ChangesOnly [.notices] s (s.setNotices x) := by
  intro b hb; cases b <;> simp_all [Block.same]
theorem setEntries_frame (x : List Notice) : ChangesOnly [.notices] s (s.setEntries x) := by
  intro b hb; cases b <;> simp_all [Block.same]
theorem setWorkList_frame (x : List WorkItem) : ChangesOnly [.acts] s (s.setWorkList x) := by
  intro b hb; cases b <;> simp_all [Block.same]
theorem setRunning_frame (x : Option RunningItem) : ChangesOnly [.acts] s (s.setRunning x) := by
  intro b hb; cases b <;> simp_all [Block.same]
theorem setMoments_frame (x : Moments) : ChangesOnly [.acts] s (s.setMoments x) := by
  intro b hb; cases b <;> simp_all [Block.same]
theorem setLink_frame (x : HutLink) : ChangesOnly [.link] s (s.setLink x) := by
  intro b hb; cases b <;> simp_all [Block.same]
theorem setRestart_frame (x : RestartState) : ChangesOnly [.restart] s (s.setRestart x) := by
  intro b hb; cases b <;> simp_all [Block.same]
theorem setHreq_frame (x : Bool) : ChangesOnly [.hreq] s (s.setHreq x) := by
  intro b hb; cases b <;> simp_all [Block.same]
theorem decideHreq_frame : ChangesOnly [.hreq] s (decideHreq s) := setHreq_frame s _

end updates

/-! ## Frames, Notice Delivery and reports -/

section ops
variable (s : State)

theorem setReported_frame (p : Port) (v : Nat) : ChangesOnly [.routes] s (setReported p v s) := by
  unfold setReported
  split
  · exact .refl _ s
  · exact setRoute_frame s _ _

theorem pushFrame_frame (p : Port) (f : OutFrame) (v : Nat) : ChangesOnly [.ports, .routes] s (pushFrame p f v s) :=
  (setPort_frame s p _).comp (setReported_frame _ p v)

theorem placeResponse_frame (p : Port) (k t r : Byte) (b : List Byte) (m : FrameMark) :
    ChangesOnly [.ports, .routes] s (placeResponse p k t r b m s) := pushFrame_frame s p _ _

theorem placeIfRoom_frame (p : Port) (k t : Byte) (r : Result) : ChangesOnly [.ports, .routes] s (placeIfRoom p k t r s) := by
  unfold placeIfRoom
  split
  · exact placeResponse_frame s _ _ _ _ _ _
  · exact .refl _ s

theorem setOwed_frame (r : RoutePort) (b : Bool) : ChangesOnly [.routes] s (setOwed r b s) := setRoute_frame s r _

theorem refreshAttention_frame (r : RoutePort) : ChangesOnly [.ports, .routes] s (refreshAttention r s) := by
  unfold refreshAttention
  simp only []
  split
  · exact (setPort_frame s _ _).comp (setReported_frame _ _ _)
  · exact .refl _ s

theorem decideAttention_frame (r : RoutePort) : ChangesOnly [.ports, .routes] s (decideAttention r s) := by
  unfold decideAttention
  simp only []
  split
  · exact refreshAttention_frame s r
  · split
    · split
      · exact pushFrame_frame s _ _ _
      · exact (setOwed_frame s _ _).mono
    · exact (setOwed_frame s _ _).mono

theorem decideAttentionOf_frame (d : Option Port) (p : Port) : ChangesOnly [.ports, .routes] s (decideAttentionOf d p s) := by
  unfold decideAttentionOf
  split
  · exact .refl _ s
  · split
    · exact refreshAttention_frame s _
    · exact decideAttention_frame s _

theorem lowerReported_frame (p : Port) (v : Nat) : ChangesOnly [.routes] s (lowerReported p v s) := by
  unfold lowerReported
  split
  · exact .refl _ s
  · split
    · exact setReported_frame s _ _
    · exact .refl _ s

theorem recompute_frame (d : Option Port) (p : Port) : ChangesOnly [.ports, .routes] s (recompute d p s) := by
  unfold recompute
  split
  · exact .refl _ s
  · exact ((setPort_frame s p _).comp (lowerReported_frame _ p _) (n := [.ports, .routes])).comp
      (decideAttentionOf_frame _ d p)

theorem settle_frame (d : Option Port) : ChangesOnly [.ports, .routes] s (settle d s) :=
  ((recompute_frame s d .east).comp (recompute_frame _ d .west) (n := [.ports, .routes])).comp (recompute_frame _ d .hut)

theorem updateNotice_frame (id : NoticeId) (f : Notice → Notice) : ChangesOnly [.notices] s (updateNotice id f s) :=
  setEntries_frame s _

theorem removeNotice_frame (id : NoticeId) : ChangesOnly [.notices] s (removeNotice id s) := setEntries_frame s _

theorem insertNotice_frame (n : Notice) : ChangesOnly [.notices] s (insertNotice n s) := by
  unfold insertNotice
  split
  · exact setEntries_frame s _
  · split
    · exact setNotices_frame s _
    · exact setEntries_frame s _

theorem enterNotice_frame (id : NoticeId) (v : Option Severity) : ChangesOnly [.notices] s (enterNotice id v s) := by
  unfold enterNotice
  split
  · exact .refl _ s
  · exact insertNotice_frame s _

theorem reraiseNotice_frame (id : NoticeId) (v : Option Severity) : ChangesOnly [.notices] s (reraiseNotice id v s) := by
  unfold reraiseNotice
  split
  · exact removeNotice_frame s _
  · exact updateNotice_frame s _ _

theorem changeNotice_frame (n : Notice) (v : Severity) : ChangesOnly [.notices] s (changeNotice n v s) := by
  unfold changeNotice
  repeat' split
  · exact updateNotice_frame s _ _
  · exact removeNotice_frame s _
  · exact updateNotice_frame s _ _
  · exact updateNotice_frame s _ _

theorem applyReport_frame (id : NoticeId) (r : Report) : ChangesOnly [.notices] s (applyReport id r s) := by
  unfold applyReport
  repeat' split
  all_goals first
    | exact .refl _ s
    | exact enterNotice_frame s _ _
    | exact reraiseNotice_frame s _ _
    | exact changeNotice_frame s _ _
    | exact updateNotice_frame s _ _
    | exact removeNotice_frame s _

theorem report_frame (d : Option Port) (id : NoticeId) (r : Report) :
    ChangesOnly [.notices, .ports, .routes] s (report d id r s) := (applyReport_frame s id r).comp (settle_frame _ d)

theorem reportActivity_frame (d : Option Port) (id : NoticeId) (a : Bool) :
    ChangesOnly [.notices, .ports, .routes] s (reportActivity d id a s) := report_frame s d id _

theorem placeReply_frame (p : Port) (q : Request) (r : Reply) :
    ChangesOnly [.ports, .routes, .restart] s (placeReply p q r s) := by
  have h := ((placeResponse_frame s p q.kind q.tag r.result.code r.body (markOf q r)).comp (setExecutor_frame _ p .idle)
    (n := [.ports, .routes, .restart]))
  unfold placeReply
  simp only []
  split
  · exact h.comp (setRestart_frame _ _)
  · exact h

theorem respond_frame (p : Port) (r : Reply) : ChangesOnly [.ports, .routes, .restart] s (respond p r s) := by
  unfold respond
  split
  · split
    · exact placeReply_frame s p _ r
    · exact (setExecutor_frame s p _).mono
  · exact .refl _ s

theorem takeHead_frame (p : Port) : ChangesOnly [.ports] s (takeHead p s) := by
  unfold takeHead
  split
  · exact .refl _ s
  · exact setPort_frame s p _

/-! ## Clock Control -/

theorem reportEconomy_frame (d : Option Port) (a : Bool) :
    ChangesOnly [.clock, .notices, .ports, .routes] s (reportEconomy d a s) := by
  unfold reportEconomy
  split
  · exact .refl _ s
  · exact (setClock_frame s _).comp (reportActivity_frame _ d _ a)

theorem setHold_frame (b : Bool) : ChangesOnly [.arb] s (setHold b s) := setArb_frame s _

theorem beginSwitch_frame (c : ClockState) : ChangesOnly [.arb, .clock] s (beginSwitch c s) :=
  (setClock_frame s _).comp (setHold_frame _ true)

theorem abandonSwitch_frame (c : ClockState) : ChangesOnly [.arb, .clock] s (abandonSwitch c s) :=
  (setClock_frame s _).comp (setHold_frame _ false)

theorem actOnWanted_frame (d : Option Port) : ChangesOnly [.arb, .clock, .notices, .ports, .routes] s (actOnWanted d s) := by
  unfold actOnWanted
  split
  · exact (beginSwitch_frame s _).mono
  · exact (beginSwitch_frame s _).comp (reportEconomy_frame _ d _)
  · exact (abandonSwitch_frame s _).mono
  · exact (abandonSwitch_frame s _).comp (reportEconomy_frame _ d _)
  · exact .refl _ s

theorem reevaluateClock_frame (d : Option Port) :
    ChangesOnly [.arb, .clock, .notices, .ports, .routes] s (reevaluateClock d s) := by
  unfold reevaluateClock
  split
  · exact .refl _ s
  · exact (setClock_frame s _).comp (actOnWanted_frame _ d)

theorem enterClock_frame : ChangesOnly [.arb, .clock, .notices, .ports, .routes] s (enterClock s) := by
  unfold enterClock
  split
  · exact ((setClock_frame s _).comp (setHold_frame _ false) (n := [.arb, .clock, .notices, .ports, .routes])).comp
      (reportEconomy_frame _ none true)
  · exact (setClock_frame s _).comp (setHold_frame _ false)
  · exact .refl _ s

theorem restartClock_frame : ChangesOnly [.arb, .clock, .notices, .ports, .routes] s (restartClock s) := by
  unfold restartClock
  simp only []
  split
  · exact (reevaluateClock_frame s none).comp (reportEconomy_frame _ none true)
  · exact reevaluateClock_frame s none

/-! ## Claims and writes -/

theorem requestActuator_frame : ChangesOnly [.arb] s (requestActuator s) := by
  unfold requestActuator
  split
  · exact setArb_frame s _
  · exact .refl _ s

theorem dropPending_frame (i : ActIx) : ChangesOnly [.acts] s (dropPending i s) := setWorkList_frame s _
theorem dropRefresh_frame (i : ActIx) : ChangesOnly [.acts] s (dropRefresh i s) := setWorkList_frame s _

theorem recordMoment_frame (m : Nat) (i : ActIx) : ChangesOnly [.acts] s (recordMoment m i s) := setMoments_frame s _

theorem queuePolicy_frame (m : Nat) (i : ActIx) : ChangesOnly [.arb, .acts] s (queuePolicy m i s) := by
  unfold queuePolicy
  split
  · exact (requestActuator_frame s).mono
  · exact (((dropRefresh_frame s i).comp (recordMoment_frame _ m i) (n := [.arb, .acts])).comp (setWorkList_frame _ _)
      (n := [.arb, .acts])).comp (requestActuator_frame _)

theorem queueRefresh_frame (i : ActIx) : ChangesOnly [.arb, .acts] s (queueRefresh i s) := by
  unfold queueRefresh
  split
  · exact .refl _ s
  · exact ((recordMoment_frame s _ i).comp (setWorkList_frame _ _) (n := [.arb, .acts])).comp (requestActuator_frame _)

theorem dismissCommand_frame (p : Port) (i : ActIx) :
    ChangesOnly [.acts, .ports, .routes, .restart] s (dismissCommand p i s) := by
  unfold dismissCommand
  split
  · exact (setWorkList_frame s _).comp (respond_frame _ p _)
  · exact .refl _ s

theorem applyPolicy_frame (m : Nat) (i : ActIx) : ChangesOnly [.arb, .acts] s (applyPolicy m i s) := by
  unfold applyPolicy
  split
  · exact .refl _ s
  · split
    · exact queuePolicy_frame s m i
    · exact .refl _ s

/-- What the end of a claim can change. -/
abbrev claimBlocks : List Block := [.arb, .acts, .ports, .routes, .restart]

theorem endClaim_frame (m : Nat) (i : ActIx) : ChangesOnly claimBlocks s (endClaim m i s) := by
  unfold endClaim
  split
  · exact .refl _ s
  · exact ((setActuator_frame s i _).comp (dismissCommand_frame _ _ i) (n := claimBlocks)).comp (applyPolicy_frame _ m i)

theorem endClaims_frame (m : Nat) (who : Port → Bool) : ChangesOnly claimBlocks s (endClaims m who s) := by
  refine ChangesOnly.foldl (fun s i => ?_) _ s
  split
  · exact .refl _ s
  · split
    · exact endClaim_frame s _ i
    · exact .refl _ s

theorem endRouteClaims_frame : ChangesOnly claimBlocks s (endRouteClaims s) := endClaims_frame s _ _

theorem takeExpiry_frame (i : ActIx) : ChangesOnly claimBlocks s (takeExpiry i s) := by
  unfold takeExpiry
  split
  · exact endClaim_frame s _ i
  · exact .refl _ s

theorem takeExpiries_frame : ChangesOnly claimBlocks s (takeExpiries s) :=
  ChangesOnly.foldl (fun s i => takeExpiry_frame s i) _ s

theorem restartRefresh_frame (i : ActIx) : ChangesOnly [.acts] s (restartRefresh i s) := by
  unfold restartRefresh
  split
  · exact .refl _ s
  · split
    · exact setActuator_frame s i _
    · exact .refl _ s

/-- What a completed write or a request to the unit can change. -/
abbrev writeBlocks : List Block := [.acts, .notices, .ports, .routes]

theorem writeSucceeded_frame (d : Option Port) (i : ActIx) (v : Word16) : ChangesOnly writeBlocks s (writeSucceeded d i v s) := by
  unfold writeSucceeded
  simp only []
  split
  · exact (setActuator_frame s i _).comp (report_frame _ d _ _)
  · exact (setActuator_frame s i _).mono

theorem writeFailed_frame (d : Option Port) (i : ActIx) : ChangesOnly writeBlocks s (writeFailed d i s) := by
  unfold writeFailed
  simp only []
  split
  · exact (setActuator_frame s i _).comp (report_frame _ d _ _)
  · exact (setActuator_frame s i _).mono

theorem writeOutcome_frame (d : Option Port) (w : WorkItem) (i : ActIx) (v : Word16) (f : Option FailReason) :
    ChangesOnly writeBlocks s (writeOutcome d w i v f s) := by
  unfold writeOutcome
  split
  · exact writeFailed_frame s d i
  · simp only []
    split
    · refine ChangesOnly.comp (l := writeBlocks) ?_ (dropRefresh_frame _ i)
      split
      · exact (writeSucceeded_frame s d i v).comp (restartRefresh_frame _ i)
      · exact writeSucceeded_frame s d i v
    · split
      · exact (writeSucceeded_frame s d i v).comp (restartRefresh_frame _ i)
      · exact writeSucceeded_frame s d i v

theorem setInFlight_frame (i : ActIx) (x : InFlight) : ChangesOnly [.acts] s (setInFlight i x s) := setActuator_frame s i _

/-! ## Conversion -/

theorem setReportedAsserted_frame (i : PointIx) (b : Bool) : ChangesOnly [.points] s (setReportedAsserted i b s) :=
  setPoint_frame s i _

/-- What a report of a point can change. -/
abbrev reportBlocks : List Block := [.points, .notices, .ports, .routes]

theorem reevaluateAsserted_frame (d : Option Port) (i : PointIx) : ChangesOnly reportBlocks s (reevaluateAsserted d s i) := by
  unfold reevaluateAsserted
  split
  · exact .refl _ s
  · exact (setReportedAsserted_frame s i _).comp (reportActivity_frame _ d _ _)

theorem reevaluateGated_frame (d : Option Port) (i : PointIx) : ChangesOnly reportBlocks s (reevaluateGated d i s) :=
  ChangesOnly.foldl (fun s i => reevaluateAsserted_frame s d i) _ s

theorem reportBand_frame (d : Option Port) (i : PointIx) (a b : Band) :
    ChangesOnly [.notices, .ports, .routes] s (reportBand d i a b s) := by
  unfold reportBand
  split
  · exact .refl _ s
  · split
    · exact report_frame s d _ _
    · exact report_frame s d _ _
    · exact report_frame s d _ _

theorem reportFailed_frame (d : Option Port) (i : PointIx) (a b : Quality) :
    ChangesOnly [.notices, .ports, .routes] s (reportFailed d i a b s) := by
  unfold reportFailed
  repeat' split
  · exact report_frame s d _ _
  · exact report_frame s d _ _
  · exact .refl _ s

theorem reportAsserted_frame (d : Option Port) (i : PointIx) (a b : Bool) :
    ChangesOnly reportBlocks s (reportAsserted d i a b s) := by
  unfold reportAsserted
  split
  · exact .refl _ s
  · exact (reevaluateAsserted_frame s d i).comp (reevaluateGated_frame _ d i)

/-- What the hand-offs of a live record can change. -/
abbrev handBlocks : List Block := [.arb, .clock, .notices, .ports, .routes, .acts, .restart]

/-- The economy trigger's hand-off. -/
theorem handClock_frame (c : Prop) [Decidable c] (d : Option Port) :
    ChangesOnly handBlocks s (if c then reevaluateClock d s else s) := by
  split
  · exact (reevaluateClock_frame s d).mono
  · exact .refl _ s

theorem handOff_frame (d : Option Port) (i : PointIx) (a b : LiveRecord) : ChangesOnly handBlocks s (handOff d i a b s) := by
  unfold handOff
  simp only []
  have h := handClock_frame s (a.band ≠ b.band ∧ s.economyTrigger = some i) d
  generalize (if a.band ≠ b.band ∧ s.economyTrigger = some i then reevaluateClock d s else s) = u at h ⊢
  split
  · exact h.comp (endRouteClaims_frame u)
  · exact h

/-- What a new live record can change. -/
abbrev liveBlocks : List Block := .points :: handBlocks

theorem commitLive_frame (d : Option Port) (i : PointIx) (x : LiveRecord) : ChangesOnly liveBlocks s (commitLive d i x s) :=
  ((((setLive_frame s i x).comp (reportFailed_frame _ d i _ _) (n := liveBlocks)).comp (reportBand_frame _ d i _ _)
    (n := liveBlocks)).comp (reportAsserted_frame _ d i _ _) (n := liveBlocks)).comp (handOff_frame _ d i _ _)

theorem takeSample_frame (d : Option Port) (i : PointIx) (x : Sample) : ChangesOnly liveBlocks s (takeSample d i x s) := by
  unfold takeSample
  split
  · exact .refl _ s
  · exact (setPoint_frame s i _).comp (commitLive_frame _ d i _)

/-! ## The bus, the Scanner and the unit's grants -/

theorem beginTransaction_frame (t : Transaction) : ChangesOnly [.bus] s (beginTransaction t s) := setBus_frame s _

theorem dropRunning_frame : ChangesOnly [.acts] s (dropRunning s) := by
  unfold dropRunning
  split
  · exact .refl _ s
  · exact (setInFlight_frame s _ _).comp (setRunning_frame _ _)

theorem closeTenure_frame : ChangesOnly [.bus, .arb, .scan, .acts] s (closeTenure s) :=
  ((((setBus_frame s { s.bus with ended := none }).comp
    (setArb_frame _ { s.arb with tenure := none, locked := .closed }) (n := [.bus, .arb, .scan, .acts])).comp
    (setScan_frame _ { s.scan with inFlight := none }) (n := [.bus, .arb, .scan, .acts])).comp (dropRunning_frame _)
    (n := [.bus, .arb, .scan, .acts])).comp (requestActuator_frame _)

theorem endTransaction_frame (t : Transaction) : ChangesOnly [.bus, .arb, .scan, .acts] s (endTransaction t s) := by
  unfold endTransaction
  simp only []
  split
  · exact (setBus_frame s _).comp (closeTenure_frame _)
  · exact (setBus_frame s _).mono

theorem endBeat_frame (t : Transaction) (b : Beat) (a e i : Bool) (x : Word16) :
    ChangesOnly [.bus, .arb, .scan, .acts] s (endBeat t b a e i x s) := by
  unfold endBeat
  split
  · exact endTransaction_frame s _
  · simp only []
    split
    · exact (setBus_frame s _).mono
    · exact endTransaction_frame s _

theorem setDirectWaiting_frame (p : Port) (b : Bool) : ChangesOnly [.arb] s (setDirectWaiting p b s) := setArb_frame s _

theorem respondDirect_frame (p : Port) (t : Transaction) :
    ChangesOnly [.ports, .routes, .restart] s (respondDirect p t s) := by
  unfold respondDirect
  split
  · split
    · exact .refl _ s
    · exact respond_frame s p _
  · exact .refl _ s

theorem completeDirect_frame (p : Port) (t : Transaction) :
    ChangesOnly [.bus, .arb, .ports, .routes, .restart] s (completeDirect p t s) := by
  have h := (setBus_frame s { s.bus with ended := none }).comp (setArb_frame _ { s.arb with tenure := none })
    (n := [.bus, .arb, .ports, .routes, .restart])
  unfold completeDirect
  simp only []
  split
  · exact h
  · exact h.comp (respondDirect_frame _ p t)

theorem setScannerWaiting_frame (b : Bool) : ChangesOnly [.arb] s (setScannerWaiting b s) := setArb_frame s _
theorem beginCycle_frame : ChangesOnly [.scan] s (beginCycle s) := setScan_frame s _

/-- What a cycle's start and end can change. -/
abbrev cycleBlocks : List Block := [.scan, .arb, .notices, .ports, .routes]

theorem endOverrun_frame (d : Option Port) : ChangesOnly cycleBlocks s (endOverrun d s) := by
  unfold endOverrun
  split
  · exact (setScan_frame s _).comp (reportActivity_frame _ d _ _)
  · exact .refl _ s

theorem completeCycle_frame (d : Option Port) : ChangesOnly cycleBlocks s (completeCycle d s) := by
  unfold completeCycle
  simp only []
  split
  · exact (setScan_frame s _).mono
  · exact (setScan_frame s _).comp (endOverrun_frame _ d)

theorem walkOnce_frame (d : Option Port) : ChangesOnly cycleBlocks s (walkOnce d s) := by
  unfold walkOnce
  split
  · exact (setScannerWaiting_frame s _).mono
  · exact completeCycle_frame s d

theorem walk_frame (d : Option Port) : ChangesOnly cycleBlocks s (walk d s) := by
  unfold walk
  split
  · split
    · exact (setScannerWaiting_frame s _).mono
    · simp only []
      split
      · exact ((completeCycle_frame s d).comp (beginCycle_frame _) (n := cycleBlocks)).comp (walkOnce_frame _ d)
      · exact completeCycle_frame s d
  · exact .refl _ s

theorem startCycle_frame (d : Option Port) : ChangesOnly cycleBlocks s (startCycle d s) :=
  (beginCycle_frame s).comp (walk_frame _ d)

theorem periodExpired_frame : ChangesOnly cycleBlocks s (periodExpired s) := by
  unfold periodExpired
  split
  · exact startCycle_frame s none
  · simp only []
    split
    · exact (setScan_frame s _).mono
    · exact ((setScan_frame s _).comp (setScan_frame _ _) (n := cycleBlocks)).comp (reportActivity_frame _ none _ _)

theorem dropGrant_frame : ChangesOnly [.arb] s (dropGrant s) := setArb_frame s _

/-- What a grant or a completion can change. -/
abbrev grantBlocks : List Block := [.points, .scan, .bus, .arb, .clock, .notices, .ports, .routes, .acts, .restart]

theorem samples_frame (l : List PointIx) (x : Sample) :
    ChangesOnly liveBlocks s (l.foldl (fun s i => takeSample none i x s) s) :=
  ChangesOnly.foldl (fun s i => takeSample_frame s none i x) l s

theorem grantScanner_frame : ChangesOnly grantBlocks s (grantScanner s) := by
  unfold grantScanner
  simp only []
  generalize hx : examine s s.scan.ahead = x
  have h := samples_frame s x.unreadable (.failed .address)
  generalize x.unreadable.foldl (fun s i => takeSample none i (.failed .address) s) s = u at h
  split
  · exact ((h.comp (setScan_frame u _) (n := grantBlocks)).comp (dropGrant_frame _) (n := grantBlocks)).comp
      (walk_frame _ none)
  · split
    · exact ((h.comp (setScan_frame u _) (n := grantBlocks)).comp (dropGrant_frame _) (n := grantBlocks)).comp
        (walk_frame _ none)
    · exact (h.comp (setScan_frame u _) (n := grantBlocks)).comp (beginTransaction_frame _ _)

theorem handOver_frame (t : Transaction) (e : ServedEntry) : ChangesOnly liveBlocks s (handOver t s e) := by
  unfold handOver
  split
  · exact .refl _ s
  · split
    · exact .refl _ s
    · exact takeSample_frame s none _ _

theorem completeRead_frame (t : Transaction) : ChangesOnly grantBlocks s (completeRead t s) :=
  ((((setBus_frame s _).comp (dropGrant_frame _) (n := grantBlocks)).comp
    (ChangesOnly.foldl (fun s e => handOver_frame s t e) _ _) (n := grantBlocks)).comp (setScan_frame _ _)
    (n := grantBlocks)).comp (walk_frame _ none)

theorem respondItem_frame (x : RunningItem) (r : Reply) :
    ChangesOnly [.ports, .routes, .restart] s (respondItem x r s) := by
  unfold respondItem
  split
  · split
    · exact .refl _ s
    · exact respond_frame s _ r
  · exact .refl _ s

theorem closeLocked_frame : ChangesOnly [.arb] s (closeLocked s) := setArb_frame s _

theorem takeFeedback_frame (d : Option Port) (i : ActIx) (x : Sample) : ChangesOnly liveBlocks s (takeFeedback d i x s) := by
  unfold takeFeedback
  split
  · exact .refl _ s
  · exact takeSample_frame s d _ x

theorem finishExchange_frame (x : RunningItem) (o : WriteOutcome) (z : Sample) :
    ChangesOnly grantBlocks s (finishExchange x o z s) :=
  ((((((closeLocked_frame s).comp (setInFlight_frame _ _ _) (n := grantBlocks)).comp (setRunning_frame _ _)
    (n := grantBlocks)).comp (takeExpiry_frame _ _) (n := grantBlocks)).comp (takeFeedback_frame _ _ _ _)
    (n := grantBlocks)).comp (respondItem_frame _ _ _) (n := grantBlocks)).comp (requestActuator_frame _)

theorem beginFeedback_frame (x : RunningItem) (o : WriteOutcome) : ChangesOnly grantBlocks s (beginFeedback x o s) := by
  unfold beginFeedback
  split
  · exact (setRunning_frame s _).comp (beginTransaction_frame _ _)
  · exact finishExchange_frame s x o _

theorem beginWrite_frame (x : RunningItem) (t : Transaction) : ChangesOnly grantBlocks s (beginWrite x t s) := by
  unfold beginWrite
  simp only []
  refine ChangesOnly.comp (l := [.acts, .arb]) (m := [.bus]) ?_ (beginTransaction_frame _ _)
  split
  · exact ((setInFlight_frame s _ _).comp (setRunning_frame _ _) (n := [.acts, .arb])).comp (setArb_frame _ _)
  · exact (setInFlight_frame s _ _).comp (setRunning_frame _ _)

theorem failWrite_frame (x : RunningItem) : ChangesOnly grantBlocks s (failWrite x s) :=
  (((dropGrant_frame s).comp (writeOutcome_frame _ _ _ _ _ _) (n := grantBlocks)).comp (respondItem_frame _ _ _)
    (n := grantBlocks)).comp (requestActuator_frame _)

theorem failExchangeWrite_frame (x : RunningItem) : ChangesOnly grantBlocks s (failExchangeWrite x s) :=
  ((writeOutcome_frame s _ _ _ _ _).comp (setInFlight_frame _ _ _) (n := grantBlocks)).comp (beginFeedback_frame _ _ _)

theorem runItem_frame (w : WorkItem) (d : ActDescriptor) : ChangesOnly grantBlocks s (runItem w d s) := by
  unfold runItem
  simp only []
  split
  · exact beginWrite_frame s _ _
  · split
    · exact failExchangeWrite_frame s _
    · exact failWrite_frame s _

theorem grantActuator_frame : ChangesOnly grantBlocks s (grantActuator s) := by
  unfold grantActuator
  split
  · exact (dropGrant_frame s).mono
  · simp only []
    split
    · exact ((setWorkList_frame s _).comp (dropGrant_frame _) (n := grantBlocks)).comp (requestActuator_frame _)
    · exact (setWorkList_frame s _).comp (runItem_frame _ _ _)

theorem grantDirect_frame (p : Port) : ChangesOnly grantBlocks s (grantDirect p s) := by
  unfold grantDirect
  split
  · split
    · exact (dropGrant_frame s).mono
    · split
      · exact (beginTransaction_frame s _).mono
      · exact (dropGrant_frame s).comp (respond_frame _ p _)
  · exact (dropGrant_frame s).mono

theorem composeFor_frame (w : Requester) : ChangesOnly grantBlocks s (composeFor w s) := by
  cases w with
  | actuatorUnit => exact grantActuator_frame s
  | direct p => exact grantDirect_frame s p
  | scanner => exact grantScanner_frame s

theorem freeGrant_frame : ChangesOnly grantBlocks s (freeGrant s) := by
  unfold freeGrant
  simp only []
  split
  · exact (takeExpiries_frame s).mono
  · exact ((takeExpiries_frame s).comp (setArb_frame _ _) (n := grantBlocks)).comp (composeFor_frame _ _)

theorem completeExchangeWrite_frame (t : Transaction) (x : RunningItem) :
    ChangesOnly grantBlocks s (completeExchangeWrite t x s) :=
  ((setBus_frame s _).comp (writeOutcome_frame _ _ _ _ _ _) (n := grantBlocks)).comp (setRunning_frame _ _)

theorem completeItemWrite_frame (t : Transaction) (x : RunningItem) : ChangesOnly grantBlocks s (completeItemWrite t x s) :=
  (((((((setBus_frame s _).comp (dropGrant_frame _) (n := grantBlocks)).comp (setInFlight_frame _ _ _)
    (n := grantBlocks)).comp (setRunning_frame _ _) (n := grantBlocks)).comp (takeExpiry_frame _ _) (n := grantBlocks)).comp
    (writeOutcome_frame _ _ _ _ _ _) (n := grantBlocks)).comp (respondItem_frame _ _ _) (n := grantBlocks)).comp
    (requestActuator_frame _)

/-! ## Referrals, ports and the hut -/

theorem placeAnswer_frame (k : ReferralIx) (r : Referral) (c : Byte) (b : List Byte) :
    ChangesOnly [.ports, .routes, .link] s (placeAnswer k r c b s) := by
  unfold placeAnswer
  split
  · exact (placeResponse_frame s _ _ _ _ _ _).comp (setSlot_frame _ k _)
  · exact (setSlot_frame s k _).mono

theorem answerNoAnswer_frame (k : ReferralIx) : ChangesOnly [.ports, .routes, .link] s (answerNoAnswer s k) := by
  unfold answerNoAnswer
  split
  · exact placeAnswer_frame s k _ _ _
  · exact placeAnswer_frame s k _ _ _
  · exact .refl _ s

theorem fillSlot_frame (k : ReferralIx) (r : RoutePort) (q : Request) : ChangesOnly [.link] s (fillSlot k r q s) :=
  (setLink_frame s _).comp (setSlot_frame _ k _)

theorem withdrawHutDirect_frame : ChangesOnly [.arb, .bus] s (withdrawHutDirect s) :=
  (setDirectWaiting_frame s _ _).comp (setBus_frame _ _)

theorem endHutClaims_frame : ChangesOnly claimBlocks s (endHutClaims s) :=
  ((setWorkList_frame s _).comp (setRunning_frame _ _) (n := claimBlocks)).comp (endClaims_frame _ _ _)

theorem restartHut_frame : ChangesOnly [.bus, .arb, .ports, .routes, .acts, .link, .restart] s (restartHut s) :=
  (((((setLink_frame s _).comp (setPort_frame _ .hut _) (n := [.bus, .arb, .ports, .routes, .acts, .link, .restart])).comp
    (withdrawHutDirect_frame _) (n := [.bus, .arb, .ports, .routes, .acts, .link, .restart])).comp (endHutClaims_frame _)
    (n := [.bus, .arb, .ports, .routes, .acts, .link, .restart]))).comp
    (ChangesOnly.foldl (fun s k => answerNoAnswer_frame s k) _ _)

theorem validHutFrame_frame : ChangesOnly [.link, .notices, .ports, .routes] s (validHutFrame s) := by
  unfold validHutFrame
  simp only []
  split
  · exact (setLink_frame s _).comp (reportActivity_frame _ none _ _)
  · exact (setLink_frame s _).mono

theorem validRouteFrame_frame (r : RoutePort) : ChangesOnly [.notices, .ports, .routes] s (validRouteFrame r s) := by
  unfold validRouteFrame
  simp only []
  split
  · exact (setRoute_frame s r _).mono
  · exact (setRoute_frame s r _).comp (reportActivity_frame _ none _ _)

theorem validFrame_frame (p : Port) : ChangesOnly [.link, .notices, .ports, .routes] s (validFrame p s) := by
  unfold validFrame
  split
  · exact validHutFrame_frame s
  · exact (validRouteFrame_frame s _).mono

theorem enqueue_frame (p : Port) (q : Request) : ChangesOnly [.ports, .routes] s (enqueue p q s) := by
  unfold enqueue
  split
  · exact (setPort_frame s p _).mono
  · exact placeIfRoom_frame s p _ _ _

theorem checkRequest_frame (p : Port) (q : Request) : ChangesOnly [.ports, .routes] s (checkRequest p q s) := by
  unfold checkRequest
  repeat' split
  all_goals first
    | exact placeIfRoom_frame s p _ _ _
    | exact enqueue_frame s p q

theorem checkFrame_frame (p : Port) (b : List Byte) : ChangesOnly [.link, .notices, .ports, .routes] s (checkFrame p b s) := by
  unfold checkFrame
  split
  · exact (validFrame_frame s p).comp (checkRequest_frame _ p _)
  · exact .refl _ s

theorem setReceiver_frame (p : Port) (x : Receiver) : ChangesOnly [.ports] s (setReceiver p x s) := setPort_frame s p _

theorem takeByte_frame (p : Port) (b : Byte) : ChangesOnly [.link, .notices, .ports, .routes] s (takeByte p b s) := by
  unfold takeByte
  split
  · split
    · exact (setReceiver_frame s p _).mono
    · exact .refl _ s
  · unfold takeFrameByte
    repeat' split
    · exact (setReceiver_frame s p _).mono
    · exact (setReceiver_frame s p _).mono
    · exact (setReceiver_frame s p _).comp (checkFrame_frame _ p _)

theorem placeHeld_frame (p : Port) : ChangesOnly [.ports, .routes, .link] s (placeHeld p s) := by
  unfold placeHeld
  split
  · exact .refl _ s
  · split
    · exact placeAnswer_frame s _ _ _ _
    · exact .refl _ s

theorem placeWaiting_frame (p : Port) : ChangesOnly [.ports, .routes, .link, .restart] s (placeWaiting p s) := by
  unfold placeWaiting
  split
  · exact (placeReply_frame s p _ _).mono
  · exact (placeHeld_frame s p).mono

theorem fillFreed_frame (p : Port) : ChangesOnly [.ports, .routes, .link, .restart] s (fillFreed p s) := by
  unfold fillFreed
  split
  · exact placeWaiting_frame s p
  · split
    · simp only []
      split
      · exact (setOwed_frame s _ _).comp (pushFrame_frame _ p _ _)
      · exact (setOwed_frame s _ _).comp (placeWaiting_frame _ p)
    · exact placeWaiting_frame s p

theorem beginFrame_frame (p : Port) (b : List Byte) : ChangesOnly [.ports, .routes] s (beginFrame p b s) := by
  unfold beginFrame
  split
  · exact (setPort_frame s p _).comp (setRoute_frame _ _ _)
  · exact (setPort_frame s p _).mono

theorem sendHead_frame (p : Port) : ChangesOnly [.ports, .routes, .link, .restart] s (sendHead p s) := by
  unfold sendHead
  split
  · exact .refl _ s
  · exact ((setPort_frame s p _).comp (beginFrame_frame _ p _) (n := [.ports, .routes, .link, .restart])).comp
      (fillFreed_frame _ p)

theorem linkDown_frame (r : RoutePort) :
    ChangesOnly [.arb, .notices, .ports, .routes, .acts, .restart] s (linkDown r s) :=
  ((setRoute_frame s r _).comp (reportActivity_frame _ none _ _) (n := [.arb, .notices, .ports, .routes, .acts, .restart])).comp
    (endClaims_frame _ _ _)

end ops

end Sys2Proof.Machine
end

