-- ==== Sys2Proof/Laws/Ops.lean ====
section
/-! SUPPORT. One lemma for each shared operation that says what it does: events, frames, Notice Delivery, reports, responses, the
first item of the work list, and the taking of a request. -/

set_option Elab.async false

namespace Sys2Proof.Machine

variable (s : State)

/-! ## Events -/

/-- An event that happens: f, and HREQ decided. -/
theorem event_next {e : Bool} {f : State → State} {s : State} (hp : s.por = false) (he : e = true) :
    event e f s = .next (decideHreq (f s)) := by
  simp [event, hp, he]

/-- An event that cannot happen, or that POR holds back, changes nothing. -/
theorem event_none {e : Bool} {f : State → State} {s : State} (h : s.por = true ∨ e = false) : event e f s = .next s := by
  rcases h with h | h <;> simp [event, h]

/-- All that an event can answer. -/
theorem event_cases {e : Bool} {f : State → State} {s t : State} (h : event e f s = .next t) :
    t = s ∨ (s.por = false ∧ e = true ∧ t = decideHreq (f s)) := by
  unfold event at h
  split at h
  · left; injection h with h; exact h.symm
  · right
    next hc =>
      injection h with h
      simp only [Bool.or_eq_true, Bool.not_eq_true', not_or] at hc
      exact ⟨by simpa using hc.1, by simpa using hc.2, h.symm⟩

/-- A timer's expiry is due exactly where the timer has reached 0. -/
theorem timer_expired_iff {t : Timer} : t.expired = true ↔ t = some 0 := by simp [Timer.expired]

/-- A timer that has not reached 0, or that is stopped, has no expiry. -/
theorem timer_not_expired {t : Timer} (h : t ≠ some 0) : t.expired = false := by simp [Timer.expired, h]

/-! ## The routes a frame reports on -/

@[simp] theorem routeOf_toPort (r : RoutePort) : routeOf (toPort r) = some r := by cases r <;> rfl

theorem toPort_of_routeOf {p : Port} {r : RoutePort} (h : routeOf p = some r) : toPort r = p := by
  cases p <;> cases r <;> simp_all [routeOf, toPort]

theorem setReported_routes (p : Port) (v : Nat) : (setReported p v s).routes = reportedRoutes p v s.routes := by
  cases p <;> rfl

theorem setReported_ports (p : Port) (v : Nat) : (setReported p v s).ports = s.ports :=
  (setReported_frame s p v).ports

/-- A frame joins the tail of its port's queue, and the last reported summary becomes the one it carries (R126). -/
theorem pushFrame_ports (p : Port) (f : OutFrame) (v : Nat) :
    (pushFrame p f v s).ports = s.ports.set p { s.port p with output := (s.port p).output ++ [f] } := by
  simp [pushFrame, setReported_ports]

theorem pushFrame_routes (p : Port) (f : OutFrame) (v : Nat) :
    (pushFrame p f v s).routes = reportedRoutes p v s.routes := by
  simp [pushFrame, setReported_routes]

/-! ## Delivery: ports that keep all but their frames and summaries -/

theorem DeliveryOnly.refl (x : PortState) : DeliveryOnly x x := ⟨rfl, rfl, rfl, rfl, rfl, rfl⟩

theorem DeliveryOnly.trans {x y z : PortState} (h : DeliveryOnly x y) (k : DeliveryOnly y z) : DeliveryOnly x z :=
  ⟨k.1.trans h.1, k.2.1.trans h.2.1, k.2.2.1.trans h.2.2.1, k.2.2.2.1.trans h.2.2.2.1,
    k.2.2.2.2.1.trans h.2.2.2.2.1, k.2.2.2.2.2.trans h.2.2.2.2.2⟩

theorem DeliveryOnlyRoute.refl (x : RouteState) : DeliveryOnlyRoute x x := ⟨rfl, rfl, rfl, rfl, rfl, rfl⟩

theorem DeliveryOnlyRoute.trans {x y z : RouteState} (h : DeliveryOnlyRoute x y) (k : DeliveryOnlyRoute y z) :
    DeliveryOnlyRoute x z :=
  ⟨k.1.trans h.1, k.2.1.trans h.2.1, k.2.2.1.trans h.2.2.1, k.2.2.2.1.trans h.2.2.2.1,
    k.2.2.2.2.1.trans h.2.2.2.2.1, k.2.2.2.2.2.trans h.2.2.2.2.2⟩

/-- Notice Delivery alone has acted on the ports; on port d it has placed no frame (R124). -/
structure Delivers (d : Option Port) (s t : State) : Prop where
  ports : ∀ q, DeliveryOnly (s.port q) (t.port q)
  routes : ∀ r, DeliveryOnlyRoute (s.route r) (t.route r)
  held : ∀ p, d = some p → (t.port p).output.length = (s.port p).output.length

theorem Delivers.refl (d : Option Port) : Delivers d s s :=
  ⟨fun _ => .refl _, fun _ => .refl _, fun _ _ => rfl⟩

theorem Delivers.trans {d : Option Port} {s t u : State} (h : Delivers d s t) (k : Delivers d t u) : Delivers d s u :=
  ⟨fun q => (h.ports q).trans (k.ports q), fun r => (h.routes r).trans (k.routes r),
    fun p hp => (k.held p hp).trans (h.held p hp)⟩

/-- A change elsewhere delivers nothing. -/
theorem Delivers.of_frame {d : Option Port} {l : List Block} {s t : State} (h : ChangesOnly l s t)
    (hp : Block.ports ∉ l := by decide) (hr : Block.routes ∉ l := by decide) : Delivers d s t := by
  refine ⟨fun q => ?_, fun r => ?_, fun p _ => ?_⟩
  · rw [h.port q hp]; exact .refl _
  · rw [h.route r hr]; exact .refl _
  · rw [h.port p hp]

theorem Delivers.foldl {α : Type} {d : Option Port} {f : State → α → State} (h : ∀ s a, Delivers d s (f s a))
    (xs : List α) (s : State) : Delivers d s (xs.foldl f s) := by
  induction xs generalizing s with
  | nil => exact .refl s d
  | cons a xs ih => exact (h s a).trans (ih (f s a))

theorem setPort_delivers (d : Option Port) (p : Port) (x : PortState) (h : DeliveryOnly (s.port p) x)
    (hd : d = some p → x.output.length = (s.port p).output.length) : Delivers d s (s.setPort p x) := by
  refine ⟨fun q => ?_, fun r => .refl _, fun q hq => ?_⟩
  · rw [setPort_port]; split
    · next e => subst e; exact h
    · exact .refl _
  · rw [setPort_port]; split
    · next e => subst e; exact hd hq
    · rfl

theorem setRoute_delivers (d : Option Port) (r : RoutePort) (x : RouteState) (h : DeliveryOnlyRoute (s.route r) x) :
    Delivers d s (s.setRoute r x) := by
  refine ⟨fun q => .refl _, fun q => ?_, fun q _ => rfl⟩
  rw [setRoute_route]; split
  · next e => subst e; exact h
  · exact .refl _

theorem setReported_delivers (d : Option Port) (p : Port) (v : Nat) : Delivers d s (setReported p v s) := by
  unfold setReported
  split
  · exact .refl s d
  · exact setRoute_delivers s d _ _ ⟨rfl, rfl, rfl, rfl, rfl, rfl⟩

theorem setOwed_delivers (d : Option Port) (r : RoutePort) (b : Bool) : Delivers d s (setOwed r b s) :=
  setRoute_delivers s d _ _ ⟨rfl, rfl, rfl, rfl, rfl, rfl⟩

theorem pushFrame_delivers (d : Option Port) (p : Port) (f : OutFrame) (v : Nat) (h : d ≠ some p) :
    Delivers d s (pushFrame p f v s) :=
  (setPort_delivers s d p { s.port p with output := (s.port p).output ++ [f] } ⟨rfl, rfl, rfl, rfl, rfl, rfl⟩
    fun e => absurd e h).trans (setReported_delivers _ d p v)

theorem refreshAttention_delivers (d : Option Port) (r : RoutePort) : Delivers d s (refreshAttention r s) := by
  unfold refreshAttention
  simp only []
  split
  · refine Delivers.trans ?_ (setReported_delivers _ d _ _)
    exact setPort_delivers s d _ _ ⟨rfl, rfl, rfl, rfl, rfl, rfl⟩ fun _ => by simp [replaceAttention]
  · exact .refl s d

theorem decideAttention_delivers (d : Option Port) (r : RoutePort) (h : d ≠ some (toPort r)) :
    Delivers d s (decideAttention r s) := by
  unfold decideAttention
  simp only []
  split
  · exact refreshAttention_delivers s d r
  · split
    · split
      · exact pushFrame_delivers s d _ _ _ h
      · exact setOwed_delivers s d _ _
    · exact setOwed_delivers s d _ _

theorem decideAttentionOf_delivers (d : Option Port) (p : Port) : Delivers d s (decideAttentionOf d p s) := by
  unfold decideAttentionOf
  split
  · exact .refl s d
  · next r hr =>
    split
    · exact refreshAttention_delivers s d r
    · next hd => exact decideAttention_delivers s d r (by rw [toPort_of_routeOf hr]; exact hd)

theorem lowerReported_delivers (d : Option Port) (p : Port) (v : Nat) : Delivers d s (lowerReported p v s) := by
  unfold lowerReported
  split
  · exact .refl s d
  · split
    · exact setReported_delivers s d p v
    · exact .refl s d

theorem recompute_delivers (d : Option Port) (p : Port) : Delivers d s (recompute d p s) := by
  unfold recompute
  split
  · exact .refl s d
  · refine Delivers.trans (Delivers.trans ?_ (lowerReported_delivers _ d p _)) (decideAttentionOf_delivers _ d p)
    exact setPort_delivers s d p _ ⟨rfl, rfl, rfl, rfl, rfl, rfl⟩ fun _ => rfl

theorem settle_delivers (d : Option Port) : Delivers d s (settle d s) :=
  ((recompute_delivers s d .east).trans (recompute_delivers _ d .west)).trans (recompute_delivers _ d .hut)

theorem report_delivers (d : Option Port) (id : NoticeId) (r : Report) : Delivers d s (report d id r s) :=
  (Delivers.of_frame (applyReport_frame s id r)).trans (settle_delivers _ d)

theorem reportActivity_delivers (d : Option Port) (id : NoticeId) (a : Bool) : Delivers d s (reportActivity d id a s) :=
  report_delivers s d id _

/-! ## Summaries (R122, R124) -/

/-- What is offerable to a port depends on the Notice Table, the points' and actuators' descriptors, and the port's level. -/
theorem offered_congr {s t : State} (p : Port) (hn : t.notices = s.notices) (hd : ∀ i, t.descOf i = s.descOf i)
    (ha : ∀ i, (t.actuator i).desc = (s.actuator i).desc) (hl : (t.port p).level = (s.port p).level) :
    offered t p = offered s p := by
  unfold offered
  rw [hn]
  refine List.filter_congr fun n _ => ?_
  simp only [offerable, maskOfNotice, suppressed, groupThreshold, hn, hl]
  cases n.id <;> simp [hd, ha]

theorem topPriority_congr {s t : State} (p : Port) (hn : t.notices = s.notices) (hd : ∀ i, t.descOf i = s.descOf i)
    (ha : ∀ i, (t.actuator i).desc = (s.actuator i).desc) (hl : (t.port p).level = (s.port p).level) :
    topPriority t p = topPriority s p := by
  unfold topPriority
  rw [offered_congr p hn hd ha hl]

/-- Delivery changes no top priority. -/
theorem topPriority_of_frame {l : List Block} {s t : State} (h : ChangesOnly l s t) (p : Port)
    (hl : (t.port p).level = (s.port p).level) (hn : Block.notices ∉ l := by decide)
    (hp : Block.points ∉ l := by decide) (ha : Block.acts ∉ l := by decide) : topPriority t p = topPriority s p :=
  topPriority_congr p (h.notices hn) (fun i => h.descOf i hp) (fun i => by rw [h.actuator i ha]) hl

theorem refreshAttention_summary (r : RoutePort) (q : Port) : ((refreshAttention r s).port q).summary = (s.port q).summary := by
  unfold refreshAttention
  simp only []
  split
  · rw [(setReported_frame _ _ _).port q, setPort_port]
    split
    · next e => rw [e]
    · rfl
  · rfl

theorem pushFrame_summary (p q : Port) (f : OutFrame) (v : Nat) : ((pushFrame p f v s).port q).summary = (s.port q).summary := by
  unfold pushFrame
  rw [(setReported_frame _ _ _).port q, setPort_port]
  split
  · next e => rw [e]
  · rfl

theorem decideAttentionOf_summary (d : Option Port) (p q : Port) :
    ((decideAttentionOf d p s).port q).summary = (s.port q).summary := by
  unfold decideAttentionOf
  split
  · rfl
  · split
    · exact refreshAttention_summary s _ q
    · unfold decideAttention
      simp only []
      split
      · exact refreshAttention_summary s _ q
      · split
        · split
          · exact pushFrame_summary s _ q _ _
          · rw [(setOwed_frame s _ _).port q]
        · rw [(setOwed_frame s _ _).port q]

/-- A recomputation gives its port the summary of R122 and no other port another summary. -/
theorem recompute_summary (d : Option Port) (p q : Port) :
    ((recompute d p s).port q).summary = if q = p then topPriority s p else (s.port q).summary := by
  unfold recompute
  split
  · next h =>
    split
    · next e => rw [e, h]
    · rfl
  · rw [decideAttentionOf_summary, (lowerReported_frame _ _ _).port q, setPort_port]
    split <;> rfl

theorem recompute_topPriority (d : Option Port) (p q : Port) : topPriority (recompute d p s) q = topPriority s q :=
  topPriority_of_frame (recompute_frame s d p) q ((recompute_delivers s d p).ports q).2.2.2.2.2

/-- After the recomputation every summary is that of R122. -/
theorem settle_summary (d : Option Port) (q : Port) : ((settle d s).port q).summary = topPriority s q := by
  simp only [settle, recompute_summary, recompute_topPriority]
  cases q <;> simp

theorem settle_topPriority (d : Option Port) (q : Port) : topPriority (settle d s) q = topPriority s q :=
  topPriority_of_frame (settle_frame s d) q ((settle_delivers s d).ports q).2.2.2.2.2

theorem settle_follows (d : Option Port) : SummariesFollow (settle d s) := fun q => by
  rw [settle_summary, settle_topPriority]

theorem report_follows (d : Option Port) (id : NoticeId) (r : Report) : SummariesFollow (report d id r s) :=
  settle_follows _ d

/-! ## Responses (R125, R174, R175) -/

/-- The reply's frame. -/
def replyFrame (req : Request) (reply : Reply) (summary : Nat) : OutFrame :=
  responseFrame req.kind req.tag reply.result.code summary reply.body (markOf req reply)

theorem placeReply_ports (p : Port) (req : Request) (reply : Reply) :
    (placeReply p req reply s).ports = s.ports.set p { s.port p with
      executor := .idle
      output := (s.port p).output ++ [replyFrame req reply (s.port p).summary] } := by
  have h : ((placeResponse p req.kind req.tag reply.result.code reply.body (markOf req reply) s).setExecutor p .idle).ports
      = s.ports.set p { s.port p with
        executor := .idle
        output := (s.port p).output ++ [replyFrame req reply (s.port p).summary] } := by
    simp only [placeResponse, State.setExecutor, State.setPort, State.port, pushFrame_ports, replyFrame]
    cases p <;> rfl
  unfold placeReply
  simp only []
  split
  · exact h
  · exact h

theorem placeReply_routes (p : Port) (req : Request) (reply : Reply) :
    (placeReply p req reply s).routes = reportedRoutes p (s.port p).summary s.routes := by
  unfold placeReply
  simp only []
  split <;> simp [State.setExecutor, placeResponse, pushFrame_routes]

theorem placeReply_restart (p : Port) (req : Request) (reply : Reply) :
    (placeReply p req reply s).restart
      = if markOf req reply = .restartOk ∧ s.restart = .idle then .due p else s.restart := by
  unfold placeReply
  simp only []
  split
  · rfl
  · rw [setExecutor_restart, (placeResponse_frame s _ _ _ _ _ _).restart]

/-- A response that finds room (R174). -/
theorem respond_room {s : State} {p : Port} {req : Request} (reply : Reply) (he : (s.port p).executor = .serving req)
    (hr : (s.port p).output.length < Config.outputPlaces) : respond p reply s = placeReply p req reply s := by
  simp [respond, he, hasRoom, hr]

/-- A response that finds no room: the executor waits with it (R174). -/
theorem respond_full {s : State} {p : Port} {req : Request} (reply : Reply) (he : (s.port p).executor = .serving req)
    (hr : Config.outputPlaces ≤ (s.port p).output.length) :
    respond p reply s = s.setExecutor p (.waitingForRoom req reply) := by
  simp [respond, he, hasRoom, Nat.not_lt.mpr hr]

/-- An executor that serves nothing places no response. -/
theorem respond_none {s : State} {p : Port} (reply : Reply) (he : ∀ req, (s.port p).executor ≠ .serving req) :
    respond p reply s = s := by
  unfold respond
  split
  · next req h => exact absurd h (he req)
  · rfl

theorem markOf_response {req : Request} {reply : Reply} (h : req.kind ≠ Config.restartSupervisionKind ∨ reply.result ≠ .ok) :
    markOf req reply = .response := by
  unfold markOf
  rw [if_neg]
  rintro ⟨a, b⟩
  rcases h with h | h
  · exact h a
  · exact h b

/-! ## Taking a request (R174) -/

theorem takeHead_eq {s : State} {p : Port} {req : Request} (h : (s.port p).requests.head? = some req) :
    takeHead p s = s.setPort p { s.port p with requests := (s.port p).requests.tail, executor := .serving req } := by
  unfold takeHead
  split
  · next e => simp [e] at h
  · next r rest e =>
    have : r = req := by simpa [e] using h
    subst this
    simp [e]

theorem takeHead_port {s : State} {p : Port} {req : Request} (h : (s.port p).requests.head? = some req) (q : Port) :
    (takeHead p s).port q = if q = p
      then { s.port p with requests := (s.port p).requests.tail, executor := .serving req } else s.port q := by
  rw [takeHead_eq h, setPort_port]

theorem takeHead_executor {s : State} {p : Port} {req : Request} (h : (s.port p).requests.head? = some req) :
    ((takeHead p s).port p).executor = .serving req := by
  rw [takeHead_port h]; simp

/-- A request that the executor can take and that the row accepts is taken and served, and its response placed (R174). -/
theorem serve_eq {s : State} {p : Port} {req : Request} {accept : Request → Bool}
    {f : Option Port → Request → State → Served} (h : Taken s p req) (ha : accept req = true) :
    serve p accept f s = .next (decideHreq (finishService p (f (deferral s p) req (takeHead p s)))) := by
  have hq : headRequest s p = some req := h.queue
  have hc : canTake s p accept = true := by simp [canTake, h.restart, h.executor, hq, ha]
  simp [serve, event_next h.por hc, hq]

/-- The deferral of a request whose response finds room. -/
theorem deferral_room {s : State} {p : Port} (h : (s.port p).output.length < Config.outputPlaces) : deferral s p = some p := by
  simp [deferral, hasRoom, h]

theorem getLast_push {α : Type} (l : List α) (a : α) : (l ++ [a]).getLast? = some a := by simp

/-- A served request that changes no port besides: what the answer leaves. `u` is the state before the response. -/
theorem serve_answered {s u : State} {p : Port} {req : Request} {accept : Request → Bool}
    {f : Option Port → Request → State → Served} {reply : Reply} (h : Ready s p req) (ha : accept req = true)
    (hf : f (some p) req (takeHead p s) = (u, some reply)) (hp : u.ports = (takeHead p s).ports) (hr : u.routes = s.routes)
    (hm : req.kind ≠ Config.restartSupervisionKind ∨ reply.result ≠ .ok) :
    ∃ t, serve p accept f s = .next t ∧ Answered p req reply.result reply.body s t
      ∧ ChangesOnly [.ports, .routes, .hreq] u t := by
  refine ⟨_, serve_eq h.toTaken ha, ?_, ?_⟩
  · rw [deferral_room h.room, hf]
    have hpp : u.port p = { s.port p with requests := (s.port p).requests.tail, executor := .serving req } := by
      exact (congrArg (fun x => x.get p) hp).trans ((takeHead_port h.queue p).trans (if_pos rfl))
    have he : (u.port p).executor = .serving req := by rw [hpp]
    have ho : (u.port p).output.length < Config.outputPlaces := by rw [hpp]; exact h.room
    simp only [finishService, respond_room reply he ho]
    refine ⟨?_, ?_⟩
    · rw [(decideHreq_frame _).ports, placeReply_ports, hpp, hp, takeHead_eq h.queue, setPort_ports,
        replyFrame, markOf_response hm]
      cases p <;> rfl
    · rw [(decideHreq_frame _).routes, placeReply_routes, hpp, hr]
  · rw [deferral_room h.room, hf]
    have hk : ChangesOnly [.ports, .routes] u (placeReply p req reply u) := by
      have := placeReply_frame u p req reply
      intro b hb
      by_cases hb2 : b = .restart
      · subst hb2
        show (placeReply p req reply u).restart = u.restart
        rw [placeReply_restart, if_neg (by simp [markOf_response hm])]
      · exact this b (by simp_all)
    have hpp : u.port p = { s.port p with requests := (s.port p).requests.tail, executor := .serving req } := by
      exact (congrArg (fun x => x.get p) hp).trans ((takeHead_port h.queue p).trans (if_pos rfl))
    have he : (u.port p).executor = .serving req := by rw [hpp]
    have ho : (u.port p).output.length < Config.outputPlaces := by rw [hpp]; exact h.room
    simp only [finishService, respond_room reply he ho]
    exact hk.comp (decideHreq_frame _)

/-- A served request whose service delivers notices: what the answer leaves. -/
theorem serve_answeredAfter {s u : State} {p : Port} {req : Request} {accept : Request → Bool}
    {f : Option Port → Request → State → Served} {reply : Reply} (h : Ready s p req) (ha : accept req = true)
    (hf : f (some p) req (takeHead p s) = (u, some reply)) (hd : Delivers (some p) (takeHead p s) u)
    (hm : req.kind ≠ Config.restartSupervisionKind ∨ reply.result ≠ .ok) :
    ∃ t, serve p accept f s = .next t ∧ AnsweredAfter p req reply.result reply.body s t
      ∧ (∀ q, (t.port q).summary = (u.port q).summary)
      ∧ ChangesOnly [.ports, .routes, .hreq] u t := by
  have hth := takeHead_port h.queue p
  simp only [if_true] at hth
  have he : (u.port p).executor = .serving req := by rw [(hd.ports p).2.2.1, hth]
  have ho : (u.port p).output.length < Config.outputPlaces := by rw [hd.held p rfl, hth]; exact h.room
  have hk : ChangesOnly [.ports, .routes] u (placeReply p req reply u) := by
    have := placeReply_frame u p req reply
    intro b hb
    by_cases hb2 : b = .restart
    · subst hb2
      show (placeReply p req reply u).restart = u.restart
      rw [placeReply_restart, if_neg (by simp [markOf_response hm])]
    · exact this b (by simp_all)
  have hport : ∀ q, (decideHreq (placeReply p req reply u)).port q = if q = p then
      { u.port p with executor := .idle, output := (u.port p).output ++ [replyFrame req reply (u.port p).summary] }
      else u.port q := by
    intro q
    rw [(decideHreq_frame _).port]
    simp only [State.port, placeReply_ports, PerPort.get_set]
  have hroute : ∀ r, DeliveryOnlyRoute (u.route r) ((decideHreq (placeReply p req reply u)).route r) := by
    intro r
    rw [(decideHreq_frame _).route]
    simp only [State.route, placeReply_routes]
    cases p <;> cases r <;> exact ⟨rfl, rfl, rfl, rfl, rfl, rfl⟩
  refine ⟨_, serve_eq h.toTaken ha, ?_⟩
  rw [deferral_room h.room, hf]
  simp only [finishService, respond_room reply he ho]
  refine ⟨⟨?_, ?_, ?_, ?_, ?_, ?_, ?_⟩, ?_, hk.comp (decideHreq_frame _)⟩
  · rw [hport]; simp [replyFrame, markOf_response hm]
  · rw [hport]; simp [(hd.ports p).2.1, hth]
  · rw [hport]; simp
  · rw [hport]; simp [(hd.ports p).1, hth]
  · rw [hport]; simp [(hd.ports p).2.2.2.1, hth]
  · intro q hq
    rw [hport, if_neg hq]
    have := hd.ports q
    rw [takeHead_port h.queue, if_neg hq] at this
    exact this
  · intro r
    have := hd.routes r
    rw [show (takeHead p s).route r = s.route r from (takeHead_frame s p).route r] at this
    exact this.trans (hroute r)
  · intro q
    rw [hport]
    split
    · next e => rw [e]
    · rfl

/-- A served request that the executor goes on holding. -/
theorem serve_held {s u : State} {p : Port} {req : Request} {accept : Request → Bool}
    {f : Option Port → Request → State → Served} (h : Taken s p req) (ha : accept req = true)
    (hf : ∀ d, f d req (takeHead p s) = (u, none)) (hp : u.ports = (takeHead p s).ports) (hr : u.routes = s.routes) :
    ∃ t, serve p accept f s = .next t ∧ Holding p req s t ∧ ChangesOnly [.hreq] u t := by
  refine ⟨_, serve_eq h ha, ?_, ?_⟩
  · rw [hf]
    refine ⟨?_, ?_⟩
    · rw [(decideHreq_frame _).ports]
      simp only [finishService, hp, takeHead_eq h.queue, setPort_ports]
    · rw [(decideHreq_frame _).routes]; exact hr
  · rw [hf]; exact decideHreq_frame u

/-! ## What taking a request leaves alone -/

@[simp] theorem takeHead_point (s : State) (p : Port) (i) : (takeHead p s).point i = s.point i := (takeHead_frame s p).point i
@[simp] theorem takeHead_descOf (s : State) (p : Port) (i) : (takeHead p s).descOf i = s.descOf i :=
  (takeHead_frame s p).descOf i
@[simp] theorem takeHead_actuator (s : State) (p : Port) (i) : (takeHead p s).actuator i = s.actuator i :=
  (takeHead_frame s p).actuator i
@[simp] theorem takeHead_notices (s : State) (p : Port) : (takeHead p s).notices = s.notices := (takeHead_frame s p).notices
@[simp] theorem takeHead_bus (s : State) (p : Port) : (takeHead p s).bus = s.bus := (takeHead_frame s p).bus
@[simp] theorem takeHead_arb (s : State) (p : Port) : (takeHead p s).arb = s.arb := (takeHead_frame s p).arb
@[simp] theorem takeHead_scan (s : State) (p : Port) : (takeHead p s).scan = s.scan := (takeHead_frame s p).scan
@[simp] theorem takeHead_clock (s : State) (p : Port) : (takeHead p s).clock = s.clock := (takeHead_frame s p).clock
@[simp] theorem takeHead_siteLocal (s : State) (p : Port) : (takeHead p s).siteLocal = s.siteLocal :=
  (takeHead_frame s p).siteLocal
@[simp] theorem takeHead_economyTrigger (s : State) (p : Port) : (takeHead p s).economyTrigger = s.economyTrigger :=
  (takeHead_frame s p).economyTrigger
@[simp] theorem takeHead_acts (s : State) (p : Port) : (takeHead p s).acts = s.acts := (takeHead_frame s p).acts
@[simp] theorem takeHead_link (s : State) (p : Port) : (takeHead p s).link = s.link := (takeHead_frame s p).link
@[simp] theorem takeHead_route (s : State) (p : Port) (r) : (takeHead p s).route r = s.route r := (takeHead_frame s p).route r
@[simp] theorem takeHead_uptime (s : State) (p : Port) : (takeHead p s).uptime = s.uptime := (takeHead_frame s p).uptime
@[simp] theorem takeHead_baud (s : State) (p : Port) : (takeHead p s).baud = s.baud := (takeHead_frame s p).baud
@[simp] theorem takeHead_slot (s : State) (p : Port) (k) : (takeHead p s).slot k = s.slot k := (takeHead_frame s p).slot k

/-! ## The first item of the work list (R153) -/

/-- An actuator is queued before another, or is that other. -/
theorem queuedBefore_total (q : Vector Nat 32) (i j : ActIx) :
    queuedBefore q i j = true ∨ i = j ∨ queuedBefore q j i = true := by
  simp only [queuedBefore, Bool.or_eq_true, Bool.and_eq_true, decide_eq_true_eq, Fin.lt_def, Fin.ext_iff]
  omega

theorem queuedBefore_trans {q : Vector Nat 32} {i j k : ActIx} (h : queuedBefore q i j = true)
    (h' : queuedBefore q j k = true) : queuedBefore q i k = true := by
  simp only [queuedBefore, Bool.or_eq_true, Bool.and_eq_true, decide_eq_true_eq, Fin.lt_def] at *
  omega

theorem firstQueued_none {q : Vector Nat 32} : ∀ {l : List ActIx}, firstQueued q l = none → l = []
  | [], _ => rfl
  | i :: rest, h => by
    unfold firstQueued at h
    split at h
    · cases h
    · split at h <;> cases h

/-- The actuator of a list whose item was queued first is in the list, and queued before every other. -/
theorem firstQueued_some {q : Vector Nat 32} : ∀ {l : List ActIx} {i : ActIx}, firstQueued q l = some i →
    i ∈ l ∧ ∀ j ∈ l, j = i ∨ queuedBefore q i j = true
  | [], _, h => by cases h
  | k :: rest, i, h => by
    unfold firstQueued at h
    split at h
    · rename_i hr
      cases h
      simp [firstQueued_none hr]
    · rename_i j hr
      obtain ⟨hj, hall⟩ := firstQueued_some hr
      split at h <;> rename_i hb <;> cases h
      · refine ⟨List.mem_cons_of_mem _ hj, fun m hm => ?_⟩
        rcases List.mem_cons.1 hm with rfl | hm
        · exact .inr hb
        · exact hall m hm
      · refine ⟨List.mem_cons_self, fun m hm => ?_⟩
        rcases List.mem_cons.1 hm with rfl | hm
        · exact .inl rfl
        · rcases queuedBefore_total q k j with hk | rfl | hk
          · rcases hall m hm with rfl | hx
            · exact .inr hk
            · exact .inr (queuedBefore_trans hk hx)
          · exact hall m hm
          · exact absurd hk hb

theorem mem_policyOf {l : List WorkItem} {i : ActIx} : i ∈ l.filterMap policyOf ↔ .policy i ∈ l := by
  rw [List.mem_filterMap]
  refine ⟨fun ⟨w, hw, h⟩ => ?_, fun h => ⟨_, h, rfl⟩⟩
  cases w <;> cases h
  exact hw

theorem mem_refreshOf {l : List WorkItem} {i : ActIx} : i ∈ l.filterMap refreshOf ↔ .refresh i ∈ l := by
  rw [List.mem_filterMap]
  refine ⟨fun ⟨w, hw, h⟩ => ?_, fun h => ⟨_, h, rfl⟩⟩
  cases w <;> cases h
  exact hw

theorem queuedBefore_iff {q : Vector Nat 32} {i j : ActIx} :
    queuedBefore q i j = true ↔ q.get i < q.get j ∨ q.get i = q.get j ∧ i < j := by
  simp [queuedBefore]

/-- `firstItem` names an item exactly of the order that R153 gives. -/
theorem firstItem_some {u : ActuatorUnit} {w : WorkItem} (h : firstItem u = some w) : FirstItem u w := by
  unfold firstItem at h
  split at h
  · rename_i i hi
    cases h
    obtain ⟨hm, hall⟩ := firstQueued_some hi
    exact ⟨mem_policyOf.1 hm, fun j hj => (hall j (mem_policyOf.2 hj)).imp id queuedBefore_iff.1⟩
  · rename_i hp
    have hp' : ∀ j, .policy j ∉ u.workList := fun j hj => by
      have := mem_policyOf.2 hj
      rw [firstQueued_none hp] at this
      cases this
    split at h
    · rename_i i hi
      cases h
      obtain ⟨hm, hall⟩ := firstQueued_some hi
      exact ⟨mem_refreshOf.1 hm, hp', fun j hj => (hall j (mem_refreshOf.2 hj)).imp id queuedBefore_iff.1⟩
    · rename_i hr
      have hr' : ∀ j, .refresh j ∉ u.workList := fun j hj => by
        have := mem_refreshOf.2 hj
        rw [firstQueued_none hr] at this
        cases this
      have hw : w ∈ u.workList := List.mem_of_mem_head? h
      refine ⟨hw, ?_⟩
      cases w with
      | policy i => exact absurd hw (hp' i)
      | refresh i => exact absurd hw (hr' i)
      | command p i v => exact ⟨fun j => ⟨hp' j, hr' j⟩, h⟩
      | exchange p i v => exact ⟨fun j => ⟨hp' j, hr' j⟩, h⟩

/-! ## Requests that change nothing -/

/-- A request that is answered and changes nothing. -/
theorem answersOnly_of_serve {c : Instr} {s : State} {p : Port} {req : Request} {accept : Request → Bool}
    {f : Option Port → Request → State → Served} {r : Result} {body : List Byte} (h : Ready s p req) (ha : accept req = true)
    (hc : exec c s = serve p accept f s) (hf : f (some p) req (takeHead p s) = (takeHead p s, some ⟨r, body⟩))
    (hm : req.kind ≠ Config.restartSupervisionKind ∨ r ≠ .ok) : AnswersOnly c p req r body s := by
  obtain ⟨t, ht, ha, hk⟩ := serve_answered h ha hf rfl (takeHead_frame s p).routes hm
  exact ⟨t, hc.trans ht, ha, (takeHead_frame s p).comp hk⟩

theorem kind_ne_restart {k : Kind} {req : Request} (h : kindOf req.kind = some k) (hk : k ≠ .restartSupervision) :
    req.kind ≠ Config.restartSupervisionKind := by
  intro e
  rw [e] at h
  have : kindOf Config.restartSupervisionKind = some .restartSupervision := by decide
  rw [this] at h
  exact hk (Option.some.inj h).symm

/-- `answersOnly_of_serve` for a request row of one kind. -/
theorem answersOnly_of_kind {k : Kind} {c : Instr} {s : State} {p : Port} {req : Request}
    {f : Option Port → Request → State → Served} {r : Result} {body : List Byte} (h : Asked k p s req)
    (hk : k ≠ .restartSupervision)
    (hc : exec c s = serve p (ofKind k) f s) (hf : f (some p) req (takeHead p s) = (takeHead p s, some ⟨r, body⟩)) :
    AnswersOnly c p req r body s :=
  answersOnly_of_serve h.1 (by simp [ofKind, h.2]) hc hf (.inl (kind_ne_restart h.2 hk))

end Sys2Proof.Machine
end

