-- ==== Sys2Proof/Tests/Slice0.lean ====
section
/-! SUPPORT. Tests: the well-formedness checks, small cases worked in spec/, and a concrete state and operands that meet the
hypotheses of each statement. -/

set_option Elab.async false

open Sys2Proof Sys2Proof.Machine

/-! ## Small states -/

/-- The part after reset with the straps read. -/
def quiet : State := { State.reset with strapsRead := true }

/-- A request, and a state whose port p has it alone in its queue. -/
def rq (kind : Byte) (body : List Byte) : Request := ⟨kind, 0x1F, body⟩
def ask (s : State) (p : Port) (kind : Byte) (body : List Byte) : State :=
  s.setPort p { s.port p with requests := [rq kind body] }

/-- Port p's output queue with n frames. -/
def filled (s : State) (p : Port) (n : Nat) : State :=
  s.setPort p { s.port p with output := List.replicate n ⟨0x3A, 1, [0, 0], .response⟩ }

/-- The executor of a port holding a request. -/
def holding (s : State) (p : Port) (kind : Byte) (body : List Byte) : State := s.setExecutor p (.serving (rq kind body))

/-- Whether port p is free to take a request and has room. -/
def openTo (s : State) (p : Port) : Bool :=
  !s.por && decide (s.restart = .idle) && decide ((s.port p).executor = .idle) && decide ((s.port p).output.length < 8)

theorem asked_ask {s : State} {p : Port} {k : Kind} {kind : Byte} {body : List Byte} (h : openTo s p = true)
    (hk : kindOf kind = some k) : Asked k p (ask s p kind body) (rq kind body) := by
  simp only [openTo, Bool.and_eq_true, Bool.not_eq_true', decide_eq_true_eq] at h
  obtain ⟨⟨⟨h1, h2⟩, h3⟩, h4⟩ := h
  refine ⟨⟨⟨h1, h2, ?_, ?_⟩, ?_⟩, hk⟩ <;> simp [ask, h3]
  exact h4

theorem taken_ask {s : State} {p : Port} {kind : Byte} {body : List Byte} (h1 : s.por = false) (h2 : s.restart = .idle)
    (h3 : (s.port p).executor = .idle) : Taken (ask s p kind body) p (rq kind body) := by
  refine ⟨h1, h2, ?_, ?_⟩ <;> simp [ask, h3]

/-- Point descriptors as sent: an analog WORD and a sticky discrete WORD with a tag, and a gated discrete one. -/
def analogBytes (tag : Byte) : List Byte :=
  [0, 0, 0, tag, 0x02, 0x10, 0x20, 1, 5, 9, 0, 7, 0, 0, 1, 0, 0, 15, 0, 20, 0, 40, 0, 80, 0, 120, 0, 5]
def discreteBytes (tag : Byte) : List Byte :=
  [0, 0, 0, tag, 0x03, 0x10, 0x22, 1, 5, 0, 1, 7, 3, 0, 0, 0, 0] ++ List.replicate 11 0
def gatedBytes (tag gate : Byte) : List Byte :=
  [0, 0, 0, tag, 0x03, 0x10, 0x24, 1, 5, 0, 1, 7, 3, 0, 0, 1, gate] ++ List.replicate 11 0

/-- Point i defined, or scanned and in the list, by a descriptor as sent. -/
def defined (s : State) (i : PointIx) (b : List Byte) : State :=
  match descriptorOf b with
  | none => s
  | some d => s.setPoint i { s.point i with state := .defined d }
def scanned (s : State) (i : PointIx) (b : List Byte) : State :=
  match descriptorOf b with
  | none => s
  | some d => { s.setPoint i { s.point i with state := .scanned d } with scan := { s.scan with passed := s.scan.passed ++ [i] } }
def withLive (s : State) (i : PointIx) (f : LiveRecord → LiveRecord) : State := s.setLive i (f (s.point i).live)

/-- Actuator 31 as sent: HELD, SAFE, BYTE, all ports, feedback point 255, fault priority 31. -/
def actuatorBytes : List Byte := [0x22, 4, 0x0E, 0x03, 0xE8, 0, 0, 0, 1, 7, 255, 31]
def latchedBytes : List Byte := [0x22, 4, 0, 0x03, 0xE8, 0, 0, 0, 1, 5, 0, 0]
def actuated (s : State) (i : ActIx) (b : List Byte) (holder : Option Port) (lease : Nat) : State :=
  s.setActuator i { s.actuator i with desc := actDescriptorOf b, holder := holder, lease := lease }

/-- A notice as an end or a start of a condition left it. -/
def note (id : NoticeId) (priority : Nat) (st : NoticeState) (stamp : Word32) : Notice :=
  ⟨id, 0, none, priority, 0, st, stamp, none, none, none, none, .empty⟩
def withNotices (s : State) (l : List Notice) : State := s.setEntries l

/-- 64 entries: four RETURNED as in the worked case of eviction (6.11), the rest RAISED. -/
def fullTable : List Notice :=
  [note (.point 30 .failed) 5 .returned 800, note (.point 12 .band) 5 .returned 650, note (.actuator 3) 9 .returned 400,
    note (.posted 2) 14 .returned 900] ++ (List.range 60).map (fun k => note (.point (Fin.ofNat 256 (100 + k)) .failed) 20 .raised 1)

/-- One field of what a command answers. -/
def after {α : Type} (f : State → α) (o : Outcome) : Option α :=
  match o with
  | .next t => some (f t)
  | _ => none

/-! ## Well-formedness -/

theorem test_lease_expiry_of_actuator_32_ill_formed :
    (Instr.leaseExpiry 32).wellFormed = false ∧ (Instr.leaseExpiry 31).wellFormed = true := by decide
theorem test_refresh_of_actuator_32_ill_formed : (Instr.refreshTimerExpiry 32).wellFormed = false := by decide
theorem test_referral_slot_4_ill_formed :
    (Instr.referralTimeout 4).wellFormed = false ∧ (Instr.referralTimeout 3).wellFormed = true := by decide
theorem test_clock_out_of_range_ill_formed : (Instr.beatEnd 0 true false false 0).wellFormed = false
    ∧ (Instr.beatEnd 4081 true false false 0).wellFormed = false ∧ (Instr.beatEnd 4080 true false false 0).wellFormed = true := by
  decide
theorem test_fill_beyond_mosi_ill_formed : (Instr.chipSelectRelease [0] 2).wellFormed = false
    ∧ (Instr.chipSelectRelease [0] 1).wellFormed = true := by decide
theorem test_no_word_spells_a_command : decodeTableWord 32 0 = none ∧ quiet.withFetchWord 8 1 = quiet := by
  constructor <;> rfl

/-! ## Cases worked in spec/ -/

/-- 2.12, cases 1 to 4. -/
theorem test_scaling_worked_cases :
    scaled ⟨200, 300, 0, none, none, none, none, 0⟩ 2620 = (2836, false)
      ∧ scaled ⟨200, 300, 0, none, none, none, none, 0⟩ 15370 = (17777, false)
      ∧ scaled ⟨0, 48, 0, none, none, none, none, 0⟩ (-8) = (-2, false) ∧ scaled ⟨0, 48, 0, none, none, none, none, 0⟩ 8 = (2, false)
      ∧ scaled ⟨-32768, 32767, 0, none, none, none, none, 0⟩ 65535 = (32767, true) := by decide

/-- 2.12, cases 1, 2 and 5: the raw word of bytes 0x3C and 0x0A in both orders, and of the odd byte of 0x9C40. -/
theorem test_raw_word_worked_cases :
    rawWordOf .w8 .word .natural 0x10 [(0x10, 0x3C), (0x11, 0x0A)] = some 2620
      ∧ rawWordOf .w8 .word .swapped 0x10 [(0x10, 0x3C), (0x11, 0x0A)] = some 15370
      ∧ rawWordOf .w16 .byte .natural 0x23 [(0x11, 0x9C40)] = some 0x9C ∧ interpret .byte true 0x9C = -100 := by decide

/-- 2.13: the targets of samples 1, 2, 5 and 6, and the filtering of sample 4. -/
theorem test_band_sequence :
    targetBand ⟨0, 256, 1, some (-2500), some (-2200), none, none, 50⟩ .normal (-2100) = .normal
      ∧ targetBand ⟨0, 256, 1, some (-2500), some (-2200), none, none, 50⟩ .normal (-2250) = .low
      ∧ targetBand ⟨0, 256, 1, some (-2500), some (-2200), none, none, 50⟩ .low (-2256) = .low
      ∧ targetBand ⟨0, 256, 1, some (-2500), some (-2200), none, none, 50⟩ .low (-2128) = .normal
      ∧ filterStep 1 (-2325) (-2400) = -2362 := by decide

/-- 3.9 and 4.9: the beats of the line read from word 9. -/
theorem test_line_order : lineOrder 9 = [9, 10, 11, 8] := by decide

/-- 4.10: the direct word write of 0x1388 to an 8-bit module, low byte first. -/
theorem test_direct_word_write_beats :
    writePlan .w8 .word 0x20 0x1388 = (.doubleWrite, [⟨0x20, some 0x88⟩, ⟨0x21, some 0x13⟩]) := by decide

/-- 5.5: grants G1, G4, G5 and G9. -/
theorem test_grant_sequence :
    chosen ⟨⟨true, ⟨true, false, true⟩, true⟩, none, .closed, [.east, .west, .hut], 0, false⟩ = some .actuatorUnit
      ∧ chosen ⟨⟨false, ⟨true, true, true⟩, true⟩, none, .closed, [.east, .west, .hut], 3, false⟩ = some (.direct .east)
      ∧ chosen ⟨⟨false, ⟨false, true, true⟩, true⟩, none, .closed, [.west, .hut, .east], 4, false⟩ = some .scanner
      ∧ chosen ⟨⟨false, ⟨false, false, false⟩, true⟩, none, .closed, [.east, .west, .hut], 3, false⟩ = some .scanner
      ∧ rotationAfter [.east, .west, .hut] (.direct .east) = [.west, .hut, .east] := by decide

/-- 6.11, steps 1, 2 and 4: who is evicted. -/
theorem test_eviction_worked_case : (victim fullTable 8).map (·.id) = some (.point 12 .band) ∧ victim fullTable 3 = none := by
  decide +kernel

/-- 8.8, step 7: a lease of 0 is clamped to 1. -/
theorem test_lease_clamped : clampLease 0 = 1 ∧ clampLease 65535 = 3600 ∧ clampLease 120 = 120 := by decide

/-- 8.8, step 2: West's CLAIM finds East holding and is answered HELD_BY, naming East and 120 s. -/
theorem test_claim_race :
    after (fun t => (t.port .west).output) (exec (.claim .west) (ask (actuated quiet 5 latchedBytes (some .east) 120) .west 0x2B
      [5, 0x01, 0x2C])) = some [⟨0x2B, 0x1F, [0x05, 0], .response⟩]
    ∧ after (fun t => (t.port .west).output) (exec (.claim .west) (ask (actuated quiet 5 actuatorBytes (some .east) 120) .west 0x2B
      [5, 0x01, 0x2C])) = some [⟨0x2B, 0x1F, [0x0E, 0, 5, 0, 0, 120], .response⟩] := by decide +kernel

/-- 11.6: READ SUMMARY is framed in 6 bytes and its response in 21, with one body byte it is MALFORMED. -/
theorem test_framing_worked_case :
    (frameBytes 0x26 0x1F []).take 4 = [0xC3, 0x02, 0x26, 0x1F] ∧ (frameBytes 0x26 0x1F []).length = 6
      ∧ after (fun t => (t.port .east).output.map (fun f => f.body.length)) (exec (.readSummary .east) (ask quiet .east 0x26 []))
        = some [15]
      ∧ frameVerdict quiet .east ⟨0x26, 0x1F, [0]⟩ = some .malformed := by decide +kernel

/-- R182: the CRC of "123456789" is the check value of the polynomial 0x1021 with initial value 0xFFFF. -/
theorem test_crc_check_value : crc [0x31, 0x32, 0x33, 0x34, 0x35, 0x36, 0x37, 0x38, 0x39] = 0x29B1 := by decide +kernel

/-! ## Witnesses: states and operands that meet the hypotheses of the statements -/

theorem notices_sound_of_nil {s : State} (h : s.notices.entries = []) : NoticesSound s := by
  constructor <;> simp [h]

/-- Port p with a frame in transmission at a place. -/
def sending (s : State) (p : Port) (pos : Nat) : State :=
  s.setPort p { s.port p with transmitter := .sending (frameBytes 0x3A 1 [0, 0]) pos }

/-- IdleStepPassesOneMillisecond: both clauses; 11 bytes a millisecond end a frame of 8, and at 9,600 bits a second none is gone. -/
theorem witness_idle_step : quiet.pending = [] ∧ quiet.por = false ∧ ({ quiet with por := true } : State).pending = []
    ∧ (frameBytes 0x3A 1 [0, 0]).length = 8 ∧ (quiet.route .east).lineTime = 0
    ∧ after (fun t => (t.slot 0, t.slot 1)) (step ((quiet.setSlot 0 (.taken ⟨.east, 1, 0xE0, [], 2⟩ (some 9))).setSlot 1
      (.answered ⟨.east, 1, 0xE0, [], 2⟩ ⟨5, []⟩))) = some (.taken ⟨.east, 1, 0xE0, [], 2⟩ (some 8), .answered ⟨.east, 1, 0xE0, [], 2⟩ ⟨5, []⟩)
    ∧ 8 ≤ max 1 (1 + (0 + 1) * 115200 / 10000) ∧ max 1 (1 + (0 + 1) * 9600 / 10000) < 8
    ∧ after (fun t => (t.port .east).transmitter) (step { sending quiet .east 1 with baud := .b115200 }) = some .idle
    ∧ after (fun t => (t.port .east).transmitter) (step (sending quiet .east 1))
      = some (.sending (frameBytes 0x3A 1 [0, 0]) 1) := by
  decide +kernel

/-- PorReleaseReadsStraps: straps unread, POR asserted, neither; and the three rates. -/
theorem witness_por_release : State.reset.strapsRead = false ∧ ({ quiet with por := true } : State).por = true
    ∧ quiet.por = false ∧ quiet.strapsRead = true
    ∧ after State.baud (exec (.porRelease true true) State.reset) = some .b115200
    ∧ after State.baud (exec (.porRelease true false) State.reset) = some .b38400
    ∧ after State.baud (exec (.porRelease false false) State.reset) = some .b9600 := by decide

/-- RouteReceiverTakesBytes: HUNT, after SYNC, and with one further byte to come before the last. -/
theorem witness_route_receiver :
    (quiet.port .east).receiver = .hunt
    ∧ ((setReceiver .east (.receiving [0xC3]) quiet).port .east).receiver = .receiving [0xC3]
    ∧ ((setReceiver .east (.receiving [0xC3, 2, 0x26, 0x1F]) quiet).port .east).receiver = .receiving [0xC3, 2, 0x26, 0x1F]
    ∧ [0xC3, 2, 0x26, (0x1F : Byte)].length + 1 < (byteAt [0xC3, 2, 0x26, 0x1F] 1).toNat + 4 := by decide

/-- The bytes of READ SUMMARY but its last CRC byte, and that byte. -/
def summaryStart : List Byte := (frameBytes 0x26 0x1F []).dropLast
def summaryLast : Byte := byteAt (frameBytes 0x26 0x1F []) 5

/-- RouteFrameCompletes: a CRC that fails, and one that matches with the link UP and DOWN. -/
theorem witness_route_frame :
    ((setReceiver .west (.receiving summaryStart) quiet).port .west).receiver = .receiving summaryStart
    ∧ 2 ≤ summaryStart.length ∧ summaryStart.length + 1 = (byteAt summaryStart 1).toNat + 4
    ∧ crcMatches (summaryStart ++ [summaryLast]) = true ∧ crcMatches (summaryStart ++ [summaryLast + 1]) = false
    ∧ ((quiet.setRoute .west { quiet.route .west with linkUp := true }).route .west).linkUp = true
    ∧ (quiet.route .west).linkUp = false ∧ NoticesSound quiet := by
  refine ⟨by decide +kernel, by decide +kernel, by decide +kernel, by decide +kernel, by decide +kernel, by decide +kernel, by decide +kernel, notices_sound_of_nil rfl⟩

/-- HutAssertionJudged: a frame that began in an assertion of 5 bytes, with 2 bytes 0x00 before it, with one too many, and with a
byte 0x00 where no frame began; and the last byte of a frame, the next byte with a frame waiting and with none. -/
theorem witness_hut_lines :
    (let s := (sending quiet .hut 1).setPort .hut { (sending quiet .hut 1).port .hut with clocked := 1 }
    (s.port .hut).clocked + 2 + 2 = [0, 0, 0, 0, (0 : Byte)].length ∧ [0, 0, 0, 0, (0 : Byte)].length < (s.port .hut).clocked + 5
      ∧ after (fun t => (t.port .hut).transmitter) (exec (.chipSelectRelease [0, 0, 0, 0, 0] 2) s)
        = some (.sending (frameBytes 0x3A 1 [0, 0]) 3))
    ∧ (quiet.port .hut).clocked = 0 ∧ 7 + 0 < 8 ∧ misoByte 0 (sending quiet .hut 7) = byteAt (frameBytes 0x3A 1 [0, 0]) 7
    ∧ 8 ≤ 7 + 1 ∧ misoByte 1 (sending (filled quiet .hut 1) .hut 7) = 0xC3 ∧ misoByte 1 (sending quiet .hut 7) = 0 := by
  decide +kernel

/-- HutAssertionJudged: nothing, a frame with fill, a frame with a wrong CRC, a pulse, and an active silence. -/
theorem witness_hut_assertion :
    quiet.por = false ∧ ¬ IsHutFrame [] ∧ IsHutFrame (frameBytes 0x26 0x1F [] ++ [0])
    ∧ crcMatches (frameBytes 0x26 0x1F [] ++ [0]) = true ∧ crcMatches (summaryStart ++ [summaryLast + 1]) = false
    ∧ quiet.link.pulse = false ∧ quiet.link.silence = false ∧ (startPulse quiet).link.pulse = true
    ∧ (quiet.setLink { quiet.link with silence := true }).link.silence = true := by
  refine ⟨rfl, by simp [IsHutFrame, byteAt, Config.sync], ?_, by decide +kernel, by decide +kernel, rfl, rfl, rfl, rfl⟩
  unfold IsHutFrame
  decide +kernel

/-- LinkTimeoutTurnsLinkDown: a link timer at 0, one that a valid frame has restarted, a stopped one, a claim of its port and a claim
of another. -/
theorem witness_link_timeout :
    ((quiet.setRoute .east { quiet.route .east with linkUp := true, linkTimer := some 0 }).route .east).linkTimer = some 0
    ∧ ((validRouteFrame .east quiet).route .east).linkTimer ≠ some 0 ∧ (quiet.route .west).linkTimer ≠ some 0
    ∧ ((actuated quiet 31 actuatorBytes (some .east) 1).actuator 31).holder = some (toPort .east)
    ∧ ((actuated quiet 31 actuatorBytes (some .hut) 1).actuator 31).holder ≠ some (toPort .east)
    ∧ (quiet.notices.entries.length < 64 ∧ ∀ n ∈ quiet.notices.entries, n.id ≠ linkLoss .east) := by
  refine ⟨by decide +kernel, by decide +kernel, by decide, by decide +kernel, by decide +kernel, by decide, by decide⟩

/-- FrameSentGivesFreedPlace: an empty queue, a frame that follows another on the Hut Port after its last 3 bytes, and one on a route
port. -/
theorem witness_frame_line :
    (quiet.port .hut).output = [] ∧ ((sending (filled quiet .hut 1) .hut 5).port .hut).output
      = ⟨0x3A, 1, [0, 0], .response⟩ :: []
    ∧ after (fun t => ((t.port .hut).clocked, (t.port .hut).transmitter)) (exec (.frameSent .hut) (sending (filled quiet .hut 1) .hut 5))
      = some (4, .sending (frameBytes 0x3A 1 [0, 0]) 1)
    ∧ after (fun t => (t.route .east).lineTime) (exec (.frameSent .east) ((filled quiet .east 1).setRoute .east
      { quiet.route .east with lineTime := 9 })) = some 0 := by decide +kernel

/-- FrameSentGivesFreedPlace: a full queue with an ATTENTION owed above and not above L, a response waiting, and held answers. -/
theorem witness_frame_sent :
    ((filled quiet .east 8).port .east).output = ⟨0x3A, 1, [0, 0], .response⟩ :: List.replicate 7 ⟨0x3A, 1, [0, 0], .response⟩
    ∧ (let s := (filled quiet .east 8).setRoute .east { quiet.route .east with attentionOwed := true }
      (s.route .east).attentionOwed = true ∧ (s.port .east).summary ≤ (s.route .east).lastReported
        ∧ (let t := s.setPort .east { s.port .east with summary := 31 }
          (t.route .east).lastReported < (t.port .east).summary))
    ∧ (let s := (filled quiet .hut 8).setExecutor .hut (.waitingForRoom (rq 0x26 []) (bare .ok))
      (s.port .hut).executor = .waitingForRoom (rq 0x26 []) (bare .ok) ∧ routeOf .hut = none)
    ∧ (let s := ((filled quiet .west 8).setSlot 0 (.answered ⟨.west, 1, 0xE0, [], 2⟩ ⟨0, []⟩)).setSlot 3
          (.answered ⟨.west, 2, 0xE0, [], 1⟩ ⟨0, []⟩)
      s.slot 3 = .answered ⟨.west, 2, 0xE0, [], 1⟩ ⟨0, []⟩ ∧ toPort .west = .west
        ∧ referralAge s ⟨.west, 1, 0xE0, [], 2⟩ < referralAge s ⟨.west, 2, 0xE0, [], 1⟩
        ∧ isAnsweredFor .west (s.slot 1) = false ∧ (∀ k, isAnsweredFor .east (s.slot k) = false)) := by decide +kernel

/-- ResponseWaitsForRoom: IDENTIFY with a full output queue and an empty work list. -/
theorem witness_response_waits :
    answeringRow (.identify .hut) = some (.hut, ofKind .identify) ∧ Taken (ask (filled quiet .hut 8) .hut 0x3A []) .hut (rq 0x3A [])
    ∧ ofKind .identify (rq 0x3A []) = true ∧ 8 ≤ ((ask (filled quiet .hut 8) .hut 0x3A []).port .hut).output.length
    ∧ NoItems .hut (ask (filled quiet .hut 8) .hut 0x3A []) :=
  ⟨rfl, taken_ask rfl rfl rfl, by decide, by decide, fun _ h => absurd h (by decide +revert)⟩

/-- ResponseWaitsForRoom: an executor that waits and one that serves, for a row that answers at once and for a referral. -/
theorem witness_not_idle :
    requestPort (.identify .hut) = some .hut ∧ requestPort (.referral .east) = some .east ∧ requestPort (.exchange .west) = some .west
    ∧ ((quiet.setExecutor .hut (.waitingForRoom (rq 0x3A []) (bare .ok))).port .hut).executor ≠ .idle
    ∧ ((holding quiet .east 0x2D [31, 0, 1]).port .east).executor ≠ .idle := by decide +kernel

/-- PointReadsAnswer: an UNDEFINED and a SCANNED entry at the ends of the table, a range that ends at 255 and one that does not,
and a tag held and not held. -/
def tableOfTwo : State := scanned (defined quiet 0 (discreteBytes 1)) 255 (analogBytes 2)
theorem tags_of_two : TagsUnique tableOfTwo := by
  have h : ∀ i : PointIx, ((tableOfTwo.descOf i).map (·.tag)) = if i = 0 then some 1 else if i = 255 then some 2 else none := by
    decide +kernel
  intro i d hd
  have hi := h i
  simp only [hd, Option.map_some] at hi
  refine ⟨?_, ?_⟩
  · intro h0
    rw [h0] at hi
    split at hi
    · exact absurd (Option.some.inj hi) (by decide)
    · split at hi
      · exact absurd (Option.some.inj hi) (by decide)
      · cases hi
  · intro j e he ht
    have hj := h j
    simp only [he, Option.map_some, ht] at hj
    rw [hi] at hj
    by_cases hi0 : i = 0 <;> by_cases hi1 : i = 255 <;> by_cases hj0 : j = 0 <;> by_cases hj1 : j = 255 <;>
      simp_all
theorem witness_point_reads :
    Asked .readPoint .west (ask tableOfTwo .west 0x04 [255]) (rq 0x04 [255]) ∧ (tableOfTwo.descOf 255).isSome = true
    ∧ Asked .readPoint .east (ask tableOfTwo .east 0x04 [1]) (rq 0x04 [1]) ∧ tableOfTwo.descOf 1 = none
    ∧ Asked .readPoints .hut (ask tableOfTwo .hut 0x05 [240, 16]) (rq 0x05 [240, 16]) ∧ 240 + 16 ≤ 256 ∧ 256 < 241 + 16
    ∧ Asked .findTag .hut (ask tableOfTwo .hut 0x06 [0, 0, 0, 2]) (rq 0x06 [0, 0, 0, 2]) ∧ TagsUnique tableOfTwo
    ∧ (tableOfTwo.descOf 255).map (·.tag) = some (word32At [0, 0, 0, 2] 0) ∧ word32At [0, 0, 0, 0] 0 = 0 :=
  ⟨asked_ask (by decide +kernel) rfl, by decide +kernel, asked_ask (by decide +kernel) rfl, by decide +kernel,
    asked_ask (by decide +kernel) rfl, by decide, by decide, asked_ask (by decide +kernel) rfl, tags_of_two, by decide +kernel,
    by decide⟩

/-- PointRequestsRefusedInOrder: the requests asked, and a state for each cause. -/
def gatedTable : State := { defined (defined quiet 40 (gatedBytes 3 41)) 41 (discreteBytes 4) with siteLocal := some 41 }
theorem witness_point_refusals :
    (Asked .definePoint .hut (ask gatedTable .hut 0x01 (41 :: analogBytes 4)) (rq 0x01 (41 :: analogBytes 4))
      ∧ IsGateOf gatedTable 41 ∧ gatedTable.siteLocal = some 41 ∧ namesDiscrete (analogBytes 4) = false
      ∧ (tableOfTwo.point 255).isScanned = true)
    ∧ (defineInUse gatedTable 255 true = false ∧ descriptorOf ((discreteBytes 9).set 4 0x83) = none
      ∧ (descriptorOf (discreteBytes 0)).map (descriptorValid gatedTable 255) = some false
      ∧ (descriptorOf (discreteBytes 4)).map (descriptorValid gatedTable 255) = some true
      ∧ addressable .w8 .word 254 = true ∧ addressable .w8 .word 255 = false ∧ tagTaken gatedTable 255 4 = true)
    ∧ Asked .setLimits .east (ask tableOfTwo .east 0x02 (255 :: analogBytes 9)) (rq 0x02 (255 :: analogBytes 9))
    ∧ ((descriptorOf (analogBytes 2)).bind (fun d => (limitsOf d ((analogBytes 2).set 7 0)).map (descriptorValid tableOfTwo 255)))
      = some false
    ∧ Asked .undefinePoint .hut (ask gatedTable .hut 0x03 [41]) (rq 0x03 [41])
    ∧ Asked .forcePoint .east (ask tableOfTwo .east 0x07 [0, 0, 2]) (rq 0x07 [0, 0, 2]) ∧ int16At [0, 2] 0 = 2
    ∧ (tableOfTwo.descOf 0).map (fun d => (d.isDiscrete, d.routeMask.get .east)) = some (true, true)
    ∧ Asked .unforcePoint .west (ask (defined quiet 7 ((analogBytes 2).set 11 1)) .west 0x08 [7]) (rq 0x08 [7])
    ∧ ((defined quiet 7 ((analogBytes 2).set 11 1)).descOf 7).map (fun d => d.routeMask.get .west) = some false
    ∧ Asked .clearAsserted .hut (ask tableOfTwo .hut 0x09 [255]) (rq 0x09 [255])
    ∧ (tableOfTwo.descOf 255).map isSticky = some false :=
  ⟨⟨asked_ask (by decide +kernel) rfl, ⟨40, _, ⟨41, .openWhileSet⟩, rfl, by decide +kernel, rfl⟩, rfl, by decide, by decide +kernel⟩,
    by decide +kernel, asked_ask (by decide +kernel) rfl, by decide +kernel, asked_ask (by decide +kernel) rfl,
    asked_ask (by decide +kernel) rfl, by decide, by decide +kernel, asked_ask (by decide +kernel) rfl, by decide +kernel,
    asked_ask (by decide +kernel) rfl, by decide +kernel⟩

/-- DefinePointAccepted, SetLimitsAccepted and UndefinePointAccepted: a new entry, a redefinition with its flag set, limits with
the gate kept and changed, and an entry that nothing holds. -/
theorem witness_point_changes :
    Asked .definePoint .hut (ask quiet .hut 0x01 (255 :: analogBytes 2)) (rq 0x01 (255 :: analogBytes 2))
    ∧ defineInUse quiet 255 false = false ∧ tagTaken quiet 255 2 = false
    ∧ (descriptorOf (analogBytes 2)).map (descriptorValid quiet 255) = some true
    ∧ defineInUse gatedTable 41 true = false ∧ tagTaken gatedTable 41 4 = false
    ∧ (descriptorOf (discreteBytes 4)).map (fun d => descriptorValid gatedTable 41 d
      && addressable (gatedTable.classOf d.modAddr).width d.width d.offset) = some true
    ∧ (((withLive gatedTable 41 (fun l => { l with asserted := true })).point 41).live.asserted = true
      ∧ gatedBy gatedTable 41 40 = true)
    ∧ Asked .setLimits .hut (ask gatedTable .hut 0x02 (40 :: discreteBytes 3)) (rq 0x02 (40 :: discreteBytes 3))
    ∧ ((descriptorOf (gatedBytes 3 41)).bind (fun d => (limitsOf d (discreteBytes 3)).map fun e =>
      (descriptorValid gatedTable 40 e, decide (d.gate = e.gate)))) = some (true, false)
    ∧ ((descriptorOf (gatedBytes 3 41)).bind (fun d => (limitsOf d (gatedBytes 3 41)).map fun e =>
      (descriptorValid gatedTable 40 e, decide (d.gate = e.gate)))) = some (true, true)
    ∧ Asked .undefinePoint .hut (ask gatedTable .hut 0x03 [40]) (rq 0x03 [40])
    ∧ (gatedTable.descOf 40).isSome = true ∧ undefineInUse gatedTable 40 = false :=
  ⟨asked_ask (by decide +kernel) rfl, by decide +kernel, by decide +kernel, by decide +kernel, by decide +kernel, by decide +kernel,
    by decide +kernel, by decide +kernel, asked_ask (by decide +kernel) rfl, by decide +kernel, by decide +kernel,
    asked_ask (by decide +kernel) rfl, by decide +kernel, by decide +kernel⟩

/-- ForcedValueSetAndRemoved: an analog point at the end of the range, a discrete one with a flag to set while it is the site-local
point, a FORCED one, and a STICKY one. -/
theorem witness_forced :
    Asked .forcePoint .hut (ask tableOfTwo .hut 0x07 [255, 0x80, 0]) (rq 0x07 [255, 0x80, 0]) ∧ int16At [255, 0x80, 0] 1 = -32768
    ∧ NoItems .hut (ask tableOfTwo .hut 0x07 [255, 0x80, 0]) ∧ (tableOfTwo.descOf 255).map (·.isDiscrete) = some false
    ∧ Asked .forcePoint .hut (ask (actuated gatedTable 0 latchedBytes (some .east) 1) .hut 0x07 [41, 0, 1]) (rq 0x07 [41, 0, 1])
    ∧ NoItems .hut (ask (actuated gatedTable 0 latchedBytes (some .east) 1) .hut 0x07 [41, 0, 1])
    ∧ int16At [41, 0, 1] 1 = 1 ∧ gatedTable.siteLocal = some 41 ∧ (gatedTable.point 41).live.asserted = false
    ∧ ((actuated gatedTable 0 latchedBytes (some .east) 1).actuator 0).holder = some .east
    ∧ after (fun t => ((t.point 41).live.asserted, (t.actuator 0).holder)) (exec (.forcePoint .hut)
      (ask (actuated gatedTable 0 latchedBytes (some .east) 1) .hut 0x07 [41, 0, 1])) = some (true, none)
    ∧ Asked .unforcePoint .west (ask tableOfTwo .west 0x08 [255]) (rq 0x08 [255])
    ∧ ((withLive tableOfTwo 255 (fun l => { l with quality := .forced })).point 255).live.quality = .forced
    ∧ Asked .clearAsserted .east (ask gatedTable .east 0x09 [41]) (rq 0x09 [41]) ∧ (gatedTable.descOf 41).map isSticky = some true :=
  ⟨asked_ask (by decide +kernel) rfl, by decide, fun _ h => absurd h (by decide +revert +kernel), by decide +kernel,
    asked_ask (by decide +kernel) rfl, fun _ h => absurd h (by decide +revert +kernel), by decide, by decide +kernel, by decide +kernel,
    by decide +kernel, by decide +kernel, asked_ask (by decide +kernel) rfl, by decide +kernel, asked_ask (by decide +kernel) rfl,
    by decide +kernel⟩

/-- ScanStartsAndStops and PeriodTimerExpiryStartsOrHolds: at rest with a due entry and with none, walking, running, and with an
overrun. -/
theorem witness_scanner :
    Asked .startScan .hut (ask tableOfTwo .hut 0x10 []) (rq 0x10 []) ∧ Asked .stopScan .hut (ask tableOfTwo .hut 0x11 []) (rq 0x11 [])
    ∧ tableOfTwo.scan.scanState = .stopped ∧ tableOfTwo.scan.cycleState = .idle ∧ ScannerAtRest tableOfTwo ∧ DueInList tableOfTwo
    ∧ ScannerAtRest quiet ∧ ¬ DueInList quiet ∧ quiet.scan.overrun = false ∧ NoticesSound quiet
    ∧ (let s := tableOfTwo.setScan { tableOfTwo.scan with
          scanState := .running
          cycleState := .walking
          overrun := true
          periodTimer := some 0 }
      s.por = false ∧ s.scan.scanState = .running ∧ s.scan.cycleState = .walking ∧ s.scan.overrun = true
        ∧ s.scan.periodTimer = some 0 ∧ quiet.scan.periodTimer ≠ some 0)
    ∧ (∀ n ∈ quiet.notices.entries, n.id ≠ .internal .scanOverrun) ∧ quiet.notices.entries.length < 64 :=
  ⟨asked_ask (by decide +kernel) rfl, asked_ask (by decide +kernel) rfl, by decide +kernel, by decide +kernel,
    ⟨by decide +kernel, by decide +kernel, by decide +kernel⟩, ⟨255, by decide +kernel, _, rfl, Or.inl (by decide +kernel)⟩,
    ⟨rfl, rfl, by decide⟩, fun ⟨_, h, _⟩ => absurd h (by decide +revert +kernel), rfl, notices_sound_of_nil rfl, by decide +kernel,
    by decide, by decide⟩

/-- ScanListRequestsServed: each point state, and periods at and beyond both ends. -/
theorem witness_scan_list :
    Asked .setScanPeriod .hut (ask quiet .hut 0x12 [0, 49]) (rq 0x12 [0, 49])
    ∧ after (fun t => t.scan.period) (exec (.setScanPeriod .hut) (ask quiet .hut 0x12 [0, 49])) = some 50
    ∧ after (fun t => t.scan.period) (exec (.setScanPeriod .hut) (ask quiet .hut 0x12 [0x27, 0x11])) = some 10000
    ∧ Asked .scanAdd .west (ask gatedTable .west 0x13 [40]) (rq 0x13 [40]) ∧ (gatedTable.descOf 40).isSome = true
    ∧ (gatedTable.point 40).isScanned = false ∧ (gatedTable.point 42).state = .undefined
    ∧ ScanListSound (ask tableOfTwo .east 0x13 [0]) ∧ Asked .scanRemove .east (ask tableOfTwo .east 0x14 [255]) (rq 0x14 [255])
    ∧ (tableOfTwo.point 255).isScanned = true ∧ Asked .readScanList .east (ask tableOfTwo .east 0x15 [0]) (rq 0x15 [0]) :=
  ⟨asked_ask (by decide +kernel) rfl, by decide +kernel, by decide +kernel, asked_ask (by decide +kernel) rfl, by decide +kernel,
    by decide +kernel, by decide +kernel, ⟨by decide +kernel, by decide +kernel, by decide +kernel⟩,
    asked_ask (by decide +kernel) rfl, by decide +kernel, asked_ask (by decide +kernel) rfl⟩

/-- A transaction on module 0 that has ended with the words given. -/
def ended (who : Requester) (kind : TxKind) (words : List (Nat × Word16)) : Transaction :=
  { newTransaction quiet who kind 0 (words.map fun w => readBeat w.1) (words.map (·.1)) with
    delivered := words
    answered := words.length }

/-- ReadCompletionTakesSamples: one entry served, one that has left, with the walk at its end and with an entry still due. -/
theorem witness_read_completion :
    (let x := ended .scanner .singleRead [(0x20, 7), (0x21, 0)]
    let s := { tableOfTwo with
      bus := { tableOfTwo.bus with ended := some x }
      scan := { tableOfTwo.scan with cycleState := .walking, inFlight := some [⟨255, false⟩, ⟨0, true⟩] } }
    s.por = false ∧ s.bus.ended = some x ∧ x.requester = .scanner ∧ s.scan.inFlight = some [⟨255, false⟩, ⟨0, true⟩]
      ∧ ([⟨255, false⟩, ⟨0, true⟩].map ServedEntry.point).Nodup ∧ (s.descOf 255).isSome = true ∧ s.scan.cycleState = .walking
      ∧ s.arb.waiting.scanner = false ∧ anyDueAhead s = false ∧ s.scan.heldStart = false
      ∧ anyDueAhead { s with scan := { s.scan with ahead := [255] } } = true) := by decide +kernel

/-- ReadCompletionTakesSamples with a start held: an entry of the list due in the next cycle, and none. -/
theorem witness_held_start :
    (let s := { tableOfTwo with scan := { tableOfTwo.scan with
      cycleState := .walking, scanState := .running, heldStart := true, inFlight := some [⟨255, false⟩], cycleNumber := 7 } }
    let t := { quiet with scan := { quiet.scan with cycleState := .walking, scanState := .running, heldStart := true } }
    s.scan.heldStart = true ∧ s.scan.scanState = .running ∧ anyDueAhead s = false
      ∧ DueInList (s.setScan { s.scan with cycleNumber := s.scan.cycleNumber + 1 })
      ∧ anyDueAhead t = false ∧ ¬ DueInList (t.setScan { t.scan with cycleNumber := t.scan.cycleNumber + 1 })) :=
  ⟨rfl, rfl, by decide +kernel, ⟨255, by decide +kernel, _, rfl, Or.inl (by decide +kernel)⟩, by decide +kernel,
    fun ⟨_, h, _⟩ => absurd h (by decide +revert +kernel)⟩

/-- BandDecidedAndPersisted: each row at its threshold, and each case of persistence. -/
theorem witness_bands :
    (let a : AnalogPart := ⟨0, 256, 0, some (-20), some (-10), some 10, some 20, 5⟩
    targetBand a .normal 20 = .highhigh ∧ targetBand a .highhigh 16 = .highhigh ∧ targetBand a .highhigh 15 = .high
      ∧ targetBand a .normal 10 = .high ∧ targetBand a .normal (-20) = .lowlow ∧ targetBand a .normal (-10) = .low
      ∧ targetBand a .low (-5) = .normal)
    ∧ persist 3 (.band .normal) (.band .low) (some (.band .low)) 2 = ⟨true, none, 0⟩
    ∧ persist 3 (.band .normal) (.band .low) none 0 = ⟨false, some (.band .low), 1⟩
    ∧ persist 1 (.band .normal) (.band .low) none 0 = ⟨true, none, 0⟩ := by decide

/-- SamplesMakeLiveRecord: a FORCED record, a seeding and a filtered analog sample, a discrete one, and a third failure. -/
theorem witness_samples :
    (((descriptorOf (analogBytes 2)).map fun d =>
      (sampledLive d 5 { PointEntry.initial with live := { LiveRecord.initial with quality := .forced } } (.good 9)).raw) = some 9)
    ∧ ((descriptorOf (analogBytes 2)).map fun d => (sampledLive d 5 PointEntry.initial (.good 256)).filtered) = some 256
    ∧ ((descriptorOf ((analogBytes 2).set 16 1)).map fun d => (sampledLive d 5 ⟨.defined d,
        { LiveRecord.initial with quality := .good, filtered := 1 }, false, false⟩ (.good 1024)).filtered) = some 512
    ∧ ((descriptorOf (discreteBytes 1)).map fun d => (sampledLive d 5 PointEntry.initial (.good 8)).level) = some true
    ∧ ((descriptorOf (discreteBytes 1)).map fun d => (sampledLive d 5 { PointEntry.initial with
        live := { LiveRecord.initial with quality := .stale, failCount := 2 } } (.failed .timeout)).quality) = some .failed := by
  decide +kernel

/-- SamplesMakeLiveRecord: a level set at the mark in LEVEL mode, an accepted edge on each side in both modes, one that persistence
holds back, and a band accepted from the count that stands. -/
theorem witness_edges :
    (let e : PointEntry := ⟨.undefined, { LiveRecord.initial with quality := .good }, false, false⟩
    ((descriptorOf ((discreteBytes 1).set 14 1)).map fun d =>
      (isSticky d, (sampledLive d 5 { e with scanMark := true } (.good 8)).asserted)) = some (false, true)
    ∧ ((descriptorOf (discreteBytes 1)).map fun d => (sampledLive d 5 e (.good 8)).asserted) = some true
    ∧ ((descriptorOf (discreteBytes 1)).map fun d =>
      (sampledLive d 5 { e with live := { e.live with level := true, asserted := true } } (.good 0)).asserted) = some true
    ∧ ((descriptorOf ((discreteBytes 1).set 14 1)).map fun d =>
      (sampledLive d 5 { e with live := { e.live with level := true, asserted := true } } (.good 0)).asserted) = some false
    ∧ ((descriptorOf ((discreteBytes 1).set 7 2)).map fun d => ((sampledLive d 5 e (.good 8)).level, (sampledLive d 5 e (.good 8)).count))
      = some (false, 1)
    ∧ ((descriptorOf ((analogBytes 1).set 7 2)).map fun d =>
      (sampledLive d 5 { e with live := { e.live with candidate := some (.band .high), count := 1 } } (.good 90)).band)
        = some .high) := by decide +kernel

/-- AssertedWhileGateOpen: a gate open while clear, with the gate's flag clear and set. -/
theorem witness_gate :
    (let s := withLive gatedTable 40 (fun l => { l with asserted := true })
    assertedActive s 40 = (assertedActive (withLive s 41 (fun l => { l with asserted := true })) 40).not) := by decide +kernel

/-- ModuleClassesServed: every field at its last admitted value and just beyond. -/
theorem witness_module_classes :
    Asked .setModuleClass .hut (ask quiet .hut 0x18 [7, 16, 15, 1, 7, 1]) (rq 0x18 [7, 16, 15, 1, 7, 1])
    ∧ Asked .setModuleClass .hut (ask quiet .hut 0x18 [8, 8, 0, 1, 0, 0]) (rq 0x18 [8, 8, 0, 1, 0, 0])
    ∧ Asked .setModuleClass .hut (ask quiet .hut 0x18 [7, 8, 0, 0, 0, 0]) (rq 0x18 [7, 8, 0, 0, 0, 0])
    ∧ Asked .assignModuleClass .hut (ask quiet .hut 0x19 [127, 7]) (rq 0x19 [127, 7])
    ∧ Asked .assignModuleClass .hut (ask quiet .hut 0x19 [128, 0]) (rq 0x19 [128, 0])
    ∧ Asked .readModuleClasses .west (ask quiet .west 0x1A []) (rq 0x1A [])
    ∧ after (fun t => (t.bus.classes.get 7, t.bus.classes.get 6)) (exec (.setModuleClass .hut) (ask quiet .hut 0x18 [7, 16, 15, 1, 7, 1]))
      = some (⟨.w16, 15, 1, 7, true⟩, ⟨.w8, 2, 8, 1, false⟩)
    ∧ after (fun t => ((t.port .hut).output.map fun f => f.body.take 2)) (exec (.assignModuleClass .hut)
      (ask quiet .hut 0x19 [128, 0])) = some [[0x06, 0]] :=
  ⟨asked_ask (by decide) rfl, asked_ask (by decide) rfl, asked_ask (by decide) rfl, asked_ask (by decide) rfl,
    asked_ask (by decide) rfl, asked_ask (by decide) rfl, by decide +kernel, by decide +kernel⟩

/-- DirectRequestsChecked: West with the window 0x40 to 0x4F of the worked case 4.10, at its ends and beyond, and both widths. -/
def windowed : State := quiet.setRoute .west { quiet.route .west with window := some (0x40, 0x4F) }
theorem witness_direct_requests :
    Asked .writeModule .west (ask windowed .west 0x1C [0x4F, 0xFE, 1, 0x13, 0x88]) (rq 0x1C [0x4F, 0xFE, 1, 0x13, 0x88])
    ∧ InWindow windowed .west 0x4F ∧ ¬ InWindow windowed .west 0x50 ∧ Servable (windowed.classOf 0x4F) .word 0xFE true
    ∧ ¬ Servable (windowed.classOf 0x4F) .word 0xFF true ∧ Servable (windowed.classOf 0x4F) .byte 0xFF false
    ∧ ¬ Servable (windowed.classOf 0x4F) .line 0 false ∧ DirectWidth.code .word = byteAt [0x4F, 0xFE, 1, 0x13, 0x88] 2
    ∧ Asked .readModule .hut (ask windowed .hut 0x1B [127, 0, 0]) (rq 0x1B [127, 0, 0]) ∧ InWindow windowed .hut 127
    ∧ Asked .readModule .hut (ask windowed .hut 0x1B [128, 0, 0]) (rq 0x1B [128, 0, 0])
    ∧ Asked .writeModule .hut (ask windowed .hut 0x1C [0, 0, 0, 1, 0]) (rq 0x1C [0, 0, 0, 1, 0]) ∧ (word16At [0, 0, 0, 1, 0] 3).toNat = 256 :=
  ⟨asked_ask (by decide) rfl, Or.inr ⟨.west, 0x40, 0x4F, rfl, rfl, by decide, by decide⟩,
    fun h => by
      rcases h with h | ⟨r, f, l, hr, hw, hf, hl⟩
      · cases h
      · cases r
        · cases hr
        · have : l = 0x4F := by
            have hw' : windowed.routes.west.window = some (f, l) := hw
            simp only [windowed] at hw'
            cases hw'
            rfl
          subst this
          exact absurd hl (by decide),
    Or.inl ⟨rfl, by decide⟩, by rintro (⟨_, h⟩ | ⟨h, _⟩) <;> revert h <;> decide, trivial, fun h => absurd h.2.1 (by decide), rfl,
    asked_ask (by decide) rfl, Or.inl rfl, asked_ask (by decide) rfl, asked_ask (by decide) rfl, by decide⟩

/-- A defined actuator 31 with its feedback point 255 defined. -/
def plant : State := actuated tableOfTwo 31 actuatorBytes none 0

/-- BeatsAndRecoveryEnd: the line read of the worked case 4.9, its beats at clocks 4 and 64, and the recovery. -/
theorem witness_beats :
    (let x := { newTransaction quiet .scanner .lineRead 0x34 ((lineOrder 9).map readBeat) [9, 10, 8] with cls := ⟨.w16, 3, 4, 2, true⟩ }
    let s := beginTransaction x quiet
    s.por = false ∧ s.bus.inFlight = some x ∧ x.beats[x.pos]? = some (readBeat 9) ∧ x.cls.settle < 4 ∧ 64 = 16 * x.cls.timeout
      ∧ NotRestarting s ∧ x.kind = .lineRead ∧ x.pos = 0 ∧ (readBeat 9).data = none ∧ (readBeat 9).addr ∈ x.needed
      ∧ (readBeat 11).addr ∉ x.needed ∧ 1 < x.beats.length
      ∧ after (fun t => (t.bus.inFlight.map (·.beats.map (·.addr)))) (exec (.beatEnd 5 true false true 0x1234) s)
        = some (some [9, 10, 8])
      ∧ after (fun t => t.bus.ended.map (·.failure)) (exec (.beatEnd 64 false false false 0) s) = some (some (some .timeout))
      ∧ after (fun t => (t.bus.busState, t.bus.recovery)) (exec (.beatEnd 4 true true true 0) s) = some (.recovery, 2))
    ∧ (quiet.setBus { quiet.bus with busState := .recovery, recovery := 2 }).bus.busState = .recovery := by
  refine ⟨⟨rfl, rfl, by decide, by decide, by decide, fun p h => (by cases h), rfl, rfl, rfl, by decide, by decide, by decide,
    by decide +kernel, by decide +kernel, by decide +kernel⟩, rfl⟩

/-- BeatsAndRecoveryEnd: the two beats of a write to an 8-bit module, whose gap clock shows released lines; and the second's end while
a supervision restart waits for it. -/
theorem witness_beat_lines :
    (let x := newTransaction plant .actuatorUnit .doubleWrite 34 [⟨4, some 1⟩, ⟨5, some 0⟩] []
    let s := beginTransaction x { plant with acts := { plant.acts with running := some ⟨.policy 31, 1, false, none⟩, workList := [.refresh 31] } }
    s.bus.inFlight = some x ∧ x.beats[x.pos]? = some ⟨4, some 1⟩ ∧ x.cls.settle < 4 ∧ 4 ≤ 16 * x.cls.timeout ∧ x.pos + 1 < x.beats.length
      ∧ after (fun t => (busLines t 0, busLines t 1)) (exec (.beatEnd 4 true false false 0) s)
        = some (⟨none, 0, none, false, false⟩, ⟨some 34, 5, some 0, true, true⟩)
      ∧ ({ s with restart := .running .east }).restart = .running .east
      ∧ after (fun t => (t.bus.ended, t.acts.running, t.arb.waiting.actuatorUnit)) (exec (.beatEnd 4 false true false 0)
        { s with restart := .running .east }) = some (none, none, true)) := by
  decide +kernel

/-- HandoverSwitchesClock and EconomyModeActsOnClock: each pending switch, idle and under way, and each mode. -/
theorem witness_clock :
    (let s := beginSwitch .toEconomy quiet
    s.por = false ∧ s.clock.clockState = .toEconomy ∧ s.clock.handover = none ∧ s.bus.busState = .idle ∧ s.arb.tenure = none
      ∧ s.arb.locked = .closed)
    ∧ (let s := (beginSwitch .toFull quiet).setClock { quiet.clock with clockState := .toFull, handover := some 0 }
      s.clock.clockState = .toFull ∧ s.clock.handover = some 0 ∧ quiet.clock.clockState = .full)
    ∧ Asked .setEconomy .hut (ask quiet .hut 0x1D [2]) (rq 0x1D [2]) ∧ Asked .setEconomy .hut (ask quiet .hut 0x1D [3]) (rq 0x1D [3])
    ∧ (2 : Byte) = EconomyMode.forceEconomy.code ∧ (1 : Byte) = EconomyMode.forceFull.code ∧ (0 : Byte) = EconomyMode.auto.code
    ∧ after (fun t => (t.clock.clockState, t.arb.grantHold)) (exec .setEconomy (ask quiet .hut 0x1D [2])) = some (.toEconomy, true) :=
  ⟨by decide, by decide, asked_ask (by decide) rfl, asked_ask (by decide) rfl, by decide, by decide, by decide, by decide +kernel⟩

theorem no_expiry_due (i : ActIx) : expiryDue plant i = false := by
  revert i
  decide +kernel

/-- FreeGrantRunsChosen: the three requesters alone, the Actuator Unit with a policy write and with an exchange. -/
theorem witness_free_grant :
    Grantable plant
    ∧ (let s := (plant.setWorkList [.exchange .hut 31 1, .policy 31]).setArb { plant.arb with
          waiting := ⟨true, ⟨true, true, true⟩, true⟩
          scannerWait := 3 }
      UnitNext s ∧ firstItem s.acts = some (.policy 31)
        ∧ firstItem (s.setWorkList [.exchange .hut 31 1]).acts = some (.exchange .hut 31 1)
        ∧ (actDescriptorOf actuatorBytes).map (fun d => (composeWrite s .actuatorUnit d.modAddr d.width d.offset 0).isSome) = some true)
    ∧ (let s := holding windowed .west 0x1C [0x42, 0x20, 1, 0x13, 0x88]
      [Port.east, .west, .hut].find? (PerPort.get ⟨false, true, true⟩) = some .west
        ∧ (s.port .west).executor = .serving (rq 0x1C [0x42, 0x20, 1, 0x13, 0x88])
        ∧ ((jobOf (rq 0x1C [0x42, 0x20, 1, 0x13, 0x88])).bind (composeDirect s .west)).isSome = true
        ∧ ((jobOf (rq 0x1C [0x42, 0xFF, 1, 0x13, 0x88])).map (fun j => (composeDirect s .west j).isSome)) = some false)
    ∧ (let s := plant.setScan { plant.scan with passed := [], ahead := [255] }
      s.scan.ahead = [] ++ (255 : PointIx) :: [] ∧ isDue s 255 = true ∧ (s.descOf 255).map (isReadable s) = some true
        ∧ ((s.descOf 255).map fun d => ((composeScan s 255 d []).1.isSome, (composeScan s 255 d []).2)) = some (true, [255])
        ∧ s.scan.ahead.Nodup) := by
  refine ⟨⟨rfl, by decide, by decide, by decide, rfl, fun p h => (by cases h), no_expiry_due⟩, by unfold UnitNext; decide +kernel,
    by decide +kernel, by decide +kernel⟩

/-- FreeGrantRunsChosen: items queued at equal moments and at different ones, the lease expiries of one tick among them; an empty
list; and an item whose write cannot be composed, with a feedback read to go on to and with none. -/
theorem witness_first_item :
    (let s := (actuated (actuated quiet 5 actuatorBytes (some .east) 0) 9 actuatorBytes (some .east) 0)
    after (fun t => (after (fun t => (t.acts.workList, firstItem t.acts)) (exec (.leaseExpiry 5) t))) (exec (.leaseExpiry 9) s)
      = some (some ([.policy 9, .policy 5], some (.policy 5))))
    ∧ (let u := { plant.acts with workList := [.refresh 2, .refresh 1], moments := ⟨9, 0, (Vector.replicate 32 0).set 1 4⟩ }
      firstItem u = some (.refresh 2) ∧ FirstItem u (.refresh 2))
    ∧ plant.acts.workList = []
    ∧ (let s := (plant.setWorkList [.exchange .hut 31 1]).setActuator 31 { plant.actuator 31 with
        desc := (plant.actuator 31).desc.map fun d => { d with width := .word, offset := 255 } }
      ((s.actuator 31).desc.map fun d => (composeWrite s .actuatorUnit d.modAddr d.width d.offset 1).isSome) = some false
        ∧ FirstItem s.acts (.exchange .hut 31 1) ∧ (composeFeedback s 31).isSome = true
        ∧ composeFeedback (defined s 255 ((analogBytes 2).set 6 255)) 31 = none
        ∧ (feedbackOf s 31).map (·.1) = some 255) := by
  refine ⟨by decide +kernel, ⟨by decide +kernel, by unfold FirstItem; decide +kernel⟩, rfl, by decide +kernel,
    ⟨List.mem_cons_self, fun j => ⟨by simp [State.setWorkList], by simp [State.setWorkList]⟩, rfl⟩, by decide +kernel, by decide +kernel,
    by decide +kernel⟩

/-- FreeGrantRunsChosen: neither part of an exchange can be composed, with the feedback point's first failure, and with its third in a
full table, which loses the notice. -/
theorem witness_exchange_addresses :
    (let s := ((defined plant 255 ((analogBytes 2).set 6 255)).setWorkList [.exchange .hut 31 1]).setActuator 31
      { plant.actuator 31 with desc := (plant.actuator 31).desc.map fun d => { d with width := .word, offset := 255 } }
    let g := s.setArb { s.arb with waiting := ⟨true, ⟨false, false, false⟩, false⟩ }
    NoFailedStart 255 g ∧ (g.actuator 31).fault = false ∧ composeFeedback g 31 = none
      ∧ after (fun t => t.notices.lost) (exec .freeGrant (withLive (withNotices g (List.replicate 64 (note (.actuator 3) 9 .raised 1))) 255
        (fun l => { l with quality := .stale, failCount := 2 }))) = some .all) :=
  ⟨.inr (.inr (by decide +kernel)), by decide +kernel, by decide +kernel, by decide +kernel⟩

/-- FreeGrantRunsChosen: a start held at a grant that finds nothing to read, with an entry due in the next cycle and with none. -/
theorem witness_held_grant :
    (let s := scanned quiet 255 ((analogBytes 2).set 6 255)
    let g := { s with
      arb := { s.arb with waiting := ⟨false, ⟨false, false, false⟩, true⟩ }
      scan := { s.scan with passed := [], ahead := [255], cycleState := .walking, scanState := .running, heldStart := true } }
    ScannerNext g ∧ g.scan.ahead.Nodup ∧ g.scan.heldStart = true
      ∧ DueInList (g.setScan { g.scan with cycleNumber := g.scan.cycleNumber + 1 })
      ∧ ¬ DueInList (quiet.setScan { quiet.scan with cycleNumber := quiet.scan.cycleNumber + 1 })
      ∧ after (fun t => (t.scan.cycleState, t.scan.cycleNumber, t.scan.ahead, t.scan.heldStart)) (exec .freeGrant g)
        = some (.walking, 1, [255], false)) :=
  ⟨⟨by decide +kernel, .inr ⟨by decide +kernel, by decide +kernel⟩⟩, by decide +kernel, rfl,
    ⟨255, by decide +kernel, _, rfl, Or.inl (by decide +kernel)⟩, fun ⟨_, h, _⟩ => absurd h (by decide +revert +kernel), by decide +kernel⟩

/-- FreeGrantRunsChosen: the ends of a block, a word at the last offset of either width, the line order and what a scan line includes;
and a list whose due entries cannot be read. -/
theorem witness_compositions :
    (quiet.classOf 0).width = .w8 ∧ (254 : Byte).toNat ≠ 255 ∧ (255 : Byte).toNat = 255
    ∧ (let s := { plant with bus := { plant.bus with classes := plant.bus.classes.set 0 ⟨.w16, 2, 8, 1, true⟩ } }
      (s.classOf 0).width = .w16 ∧ (s.classOf 0).lineReads = true ∧ (254 : Byte).toNat % 2 = 0 ∧ (255 : Byte).toNat % 2 = 1
        ∧ wrapOrder 9 = [9, 10, 11, 8] ∧ wrapOrder 8 = [8, 9, 10, 11]
        ∧ ((s.descOf 255).map fun d => (isReadable s d, d.offset.toNat / 2 / 4)) = some (true, 4)
        ∧ included s 16 4 [0, 255] = [0, 255] ∧ included s 16 5 [0, 255] = []
        ∧ included (defined s 0 ((discreteBytes 1).set 6 0x21)) 16 4 [255, 0] = [255])
    ∧ (let s := scanned quiet 255 ((analogBytes 2).set 6 255)
      ScannerNext (s.setArb { s.arb with waiting := { s.arb.waiting with scanner := true } }) ∧ NoneReadable s [255]
        ∧ isDue s 255 = true) := by
  refine ⟨by decide, by decide, by decide, by decide +kernel, ⟨by decide +kernel, .inr ⟨by decide +kernel, by decide +kernel⟩⟩, ?_, by decide +kernel⟩
  intro i hi _ d hd
  rw [List.mem_singleton.1 hi] at hd
  have h : ((scanned quiet 255 ((analogBytes 2).set 6 255)).descOf 255).all (fun d => !isReadable (scanned quiet 255
    ((analogBytes 2).set 6 255)) d) = true := by decide +kernel
  rw [hd] at h
  simpa using h

/-- An exchange of the Hut Port for actuator 31 whose write has completed: the bus idle, the locked tenure FIRST. -/
def between : State :=
  let s := holding plant .hut 0x2E [31, 0, 1, 0, 0]
  { s with
    acts := { s.acts with running := some ⟨.exchange .hut 31 1, 1, true, some ⟨none, 1⟩⟩ }
    arb := { s.arb with tenure := some .actuatorUnit, locked := .first } }
theorem held_between : ItemsHeld between := by
  refine ⟨fun w h => ?_, fun p => by cases p <;> decide +kernel, ?_, fun q h => by cases h⟩
  · exact absurd h (by decide +revert +kernel)
  · intro x p hx _ hp
    have h1 : between.acts.running = some ⟨.exchange .hut 31 1, 1, true, some ⟨none, 1⟩⟩ := rfl
    rw [h1] at hx
    cases hx
    cases hp
    exact ⟨fun _ h => absurd h (by decide +revert +kernel), _, rfl, Or.inr rfl⟩

/-- ReservedGrantReadsFeedback and ExchangeReadCompletes: a readable and an unreadable feedback point, and the read ended. -/
theorem witness_exchange :
    (between.por = false ∧ between.acts.running = some ⟨.exchange .hut 31 1, 1, true, some ⟨none, 1⟩⟩ ∧ between.arb.locked = .first
      ∧ between.bus.busState = .idle ∧ between.bus.ended = none ∧ NotRestarting between ∧ ItemsHeld between
      ∧ (composeFeedback between 31).isSome = true ∧ expiryDue between 31 = false
      ∧ (feedbackOf between 31).map (·.1) = some 255 ∧ (between.port .hut).executor = .serving (rq 0x2E [31, 0, 1, 0, 0])
      ∧ (between.port .hut).output.length < 8)
    ∧ (composeFeedback (defined between 255 ((analogBytes 2).set 6 255)) 31).isSome = false
    ∧ (ended .actuatorUnit .doubleRead [(0x20, 7), (0x21, 0)]).requester = .actuatorUnit
    ∧ (feedbackOf between 31).map (fun x => sampleFrom (ended .actuatorUnit .doubleRead [(0x20, 7), (0x21, 0)]) x.2)
      = some (.good 7) :=
  ⟨⟨rfl, rfl, rfl, rfl, rfl, fun _ h => (by cases h), held_between, by decide +kernel, by decide +kernel, by decide +kernel, rfl,
    by decide⟩, by decide +kernel, rfl, by decide +kernel⟩

/-- ActuatorWriteCompletes: a command's write and an exchange's, ended well and with a failure, FAULT clear and set. -/
theorem witness_write_completes :
    (let x := { ended .actuatorUnit .singleWrite [] with exchangeWrite := true }
    let s := { between with bus := { between.bus with ended := some x } }
    s.por = false ∧ s.bus.ended = some x ∧ s.acts.running.isSome = true ∧ x.requester = .actuatorUnit ∧ x.kind = .singleWrite
      ∧ x.failure = none ∧ (s.actuator 31).fault = false ∧ expiryDue s 31 = false)
    ∧ { ended .actuatorUnit .singleWrite [] with failure := some .timeout }.failure ≠ none
    ∧ after (fun t => ((t.actuator 31).output, (t.actuator 31).faultCount)) (exec .actuatorWriteCompletion
      { between with bus := { between.bus with ended := some (ended .actuatorUnit .singleWrite []) } }) = some (some 1, 0)
    ∧ after (fun t => t.acts.workList) (exec .actuatorWriteCompletion
      { between with
        bus := { between.bus with ended := some (ended .actuatorUnit .singleWrite []) }
        acts := { between.acts with workList := [.refresh 31, .policy 31] } }) = some [.policy 31]
    ∧ (∀ n ∈ plant.notices.entries, n.id ≠ .actuator 31) ∧ plant.notices.entries.length < 64 ∧ NoticesSound plant :=
  ⟨by decide +kernel, by decide, by decide +kernel, by decide +kernel, fun _ h => absurd h (by decide +revert +kernel), by decide +kernel,
    notices_sound_of_nil rfl⟩

/-- DirectTransferCompletes: a write and a read of a byte, discarded and not, with room and without. -/
theorem witness_direct_transfer :
    (let x := ended (.direct .west) .singleRead [(0x20, 7)]
    let s := { holding windowed .west 0x1B [0, 0x20, 0] with bus := { windowed.bus with ended := some x } }
    s.por = false ∧ s.bus.ended = some x ∧ x.requester = .direct .west ∧ x.discarded = false
      ∧ (s.port .west).executor = .serving (rq 0x1B [0, 0x20, 0])
      ∧ jobOf (rq 0x1B [0, 0x20, 0]) = some ⟨0, 0x20, .byte, none⟩ ∧ (s.port .west).output.length < 8
      ∧ directValue x .byte 0x20 = some 7 ∧ { x with discarded := true }.discarded = true
      ∧ 8 ≤ ((filled s .west 8).port .west).output.length)
    ∧ (jobOf (rq 0x1C [0, 0x20, 1, 0, 1])).map (·.value) = some (some 1)
    ∧ jobOf (rq 0x1B [0, 18, 2]) = some ⟨0, 18, .line, none⟩
    ∧ directBody { ended (.direct .hut) .lineRead [(9, 0x1234)] with inhibited := true, cls := ⟨.w16, 2, 8, 1, true⟩ } ⟨0, 18, .line, none⟩
      = [0, 18, 2, 0, 16, 1, 9, 1, 0x12, 0x34, 10, 0, 0, 0, 11, 0, 0, 0, 8, 0, 0, 0] := by decide +kernel

/-- Notices of a point's three conditions, in the three states. -/
def noticed : State := withNotices tableOfTwo [note (.point 255 .band) 5 .raised 1, note (.point 255 .failed) 9 .returned 2,
  note (.point 255 .asserted) 9 .acked 3]
theorem noticed_sound : NoticesSound noticed := ⟨by decide +kernel, by decide +kernel⟩

/-- NoticeAcknowledgedByRows, FetchReturnsMostUrgent and RecordsReadBack: each row. -/
theorem witness_notices :
    (Asked .ackNotice .hut (ask noticed .hut 0x20 [0, 255, 0]) (rq 0x20 [0, 255, 0]) ∧ noticeIdOf 0 255 0 = some (.point 255 .band)
      ∧ noticeIdOf 1 32 3 = none ∧ noticeIdOf 1 31 3 = some (.actuator 31) ∧ NoticesSound noticed
      ∧ (∀ n ∈ noticed.notices.entries, n.id ≠ .actuator 31) ∧ note (.point 255 .band) 5 .raised 1 ∈ noticed.notices.entries
      ∧ (∀ n ∈ noticed.notices.entries, (maskOfNotice noticed n).get .hut = true)
      ∧ (maskOfNotice (defined noticed 255 ((analogBytes 2).set 11 1)) (note (.point 255 .band) 5 .raised 1)).get .hut = false)
    ∧ Asked .fetchNotice .west (ask noticed .west 0x24 []) (rq 0x24 [])
    ∧ ((offered noticed .west).map (·.id) = [.point 255 .band, .point 255 .failed] ∧ offered tableOfTwo .west = [])
    ∧ after (fun t => (offered t .west).map (·.id)) (exec (.fetchNotice .west) (ask noticed .west 0x24 [])) = some [.point 255 .band]
    ∧ Asked .fetchNotice .east (ask noticed .east 0x24 [0, 255, 2]) (rq 0x24 [0, 255, 2])
    ∧ Asked .readSummary .east (ask noticed .east 0x26 []) (rq 0x26 []) :=
  ⟨⟨asked_ask (by decide +kernel) rfl, by decide, by decide, by decide, noticed_sound, by decide +kernel, by decide +kernel,
      by decide +kernel, by decide +kernel⟩, asked_ask (by decide +kernel) rfl, by decide +kernel, by decide +kernel,
    asked_ask (by decide +kernel) rfl, asked_ask (by decide +kernel) rfl⟩

/-- A slot 7 posted by the Hut Port. -/
def posted : State := quiet.setNotices { quiet.notices with slots := quiet.notices.slots.set 7 (some ⟨.hut, 31, 1, .all⟩) }
theorem full_table_sound : NoticesSound (withNotices posted fullTable) := ⟨by decide +kernel, by decide +kernel⟩

/-- PostedSlotsPostedAndFreed and ThresholdAndLevelSet: the ends of the ranges, a free slot, an own one and another port's, and a
full table with a victim and with none. -/
theorem witness_posts :
    Asked .post .hut (ask posted .hut 0x21 [7, 31, 0, 1, 7]) (rq 0x21 [7, 31, 0, 1, 7])
    ∧ Asked .post .hut (ask posted .hut 0x21 [8, 31, 0, 1, 7]) (rq 0x21 [8, 31, 0, 1, 7])
    ∧ maskOf 7 = some .all ∧ PortSet.all.isEmpty = false ∧ posted.notices.slots.get 7 = some ⟨.hut, 31, 1, .all⟩
    ∧ posted.notices.slots.get 0 = none ∧ NoticesSound posted ∧ NoticesSound (withNotices posted fullTable)
    ∧ (withNotices posted fullTable).notices.entries.length = 64
    ∧ (∀ n ∈ fullTable, n.state = .returned → n.id = .point 12 .band ∨ 5 < n.priority ∨ 5 = n.priority ∧ (650 : Word32).toNat < n.stamp.toNat)
    ∧ (∀ n ∈ fullTable, n.state = .returned → 4 < n.priority)
    ∧ Asked .unpost .east (ask posted .east 0x22 [7]) (rq 0x22 [7]) ∧ Asked .unpost .hut (ask posted .hut 0x22 [8]) (rq 0x22 [8])
    ∧ Asked .setGroupThreshold .hut (ask quiet .hut 0x23 [7, 31]) (rq 0x23 [7, 31]) ∧ (byteAt [7, 31] 0).toNat = (6 : Fin 7).val + 1
    ∧ Asked .setGroupThreshold .hut (ask quiet .hut 0x23 [8, 0]) (rq 0x23 [8, 0])
    ∧ Asked .setLevel .east (ask quiet .east 0x25 [255]) (rq 0x25 [255])
    ∧ after (fun t => (t.port .east).level) (exec (.setLevel .east) (ask quiet .east 0x25 [255])) = some 31 :=
  ⟨asked_ask (by decide +kernel) rfl, asked_ask (by decide +kernel) rfl, by decide, by decide, by decide +kernel, by decide +kernel,
    notices_sound_of_nil rfl, full_table_sound, by decide +kernel, by decide +kernel, by decide +kernel,
    asked_ask (by decide +kernel) rfl, asked_ask (by decide +kernel) rfl, asked_ask (by decide) rfl, by decide,
    asked_ask (by decide) rfl, asked_ask (by decide) rfl, by decide +kernel⟩

/-- ActuatorDefinedAndUndefined and ActuatorRequestsRefusedInOrder: each entry state and each cause of refusal. -/
theorem witness_actuator_refusals :
    (Asked .defineActuator .hut (ask plant .hut 0x28 (31 :: actuatorBytes)) (rq 0x28 (31 :: actuatorBytes))
      ∧ (actDescriptorOf actuatorBytes).map (fun d => feedbackDefined plant d && actuatorAddressable plant d) = some true
      ∧ (actDescriptorOf actuatorBytes).map (feedbackDefined quiet) = some false
      ∧ (plant.actuator 31).holder = none ∧ (plant.actuator 31).inFlight = .no ∧ (plant.actuator 31).fault = false
      ∧ Asked .undefineActuator .hut (ask plant .hut 0x29 [31]) (rq 0x29 [31]) ∧ (quiet.actuator 31).desc = none)
    ∧ (actDescriptorOf (actuatorBytes.set 11 32) = none ∧ 31 < (byteAt (actuatorBytes.set 11 32) 11).toNat
      ∧ Asked .defineActuator .hut (ask plant .hut 0x28 (31 :: actuatorBytes.set 11 32)) (rq 0x28 (31 :: actuatorBytes.set 11 32)))
    ∧ Asked .exchange .west (ask plant .west 0x2E [32, 0, 1, 0, 0]) (rq 0x2E [32, 0, 1, 0, 0])
    ∧ Asked .exchange .west (ask plant .west 0x2E [31, 0, 2, 0, 0]) (rq 0x2E [31, 0, 2, 0, 0])
    ∧ (actDescriptorOf actuatorBytes).map (fun d => (d.feedback, d.portMask.get .west, decide (d.maxValue.toNat < 2)))
      = some (some 255, true, true)
    ∧ (actDescriptorOf latchedBytes).map (fun d => (d.feedback, d.portMask.get .west)) = some (none, false)
    ∧ siteAsserted (withLive { tableOfTwo with siteLocal := some 0 } 0 (fun l => { l with asserted := true })) = true
    ∧ siteAsserted plant = false ∧ ((actuated plant 31 actuatorBytes (some .east) 1).actuator 31).holder = some .east
    ∧ expiryDue (actuated plant 31 actuatorBytes (some .east) 1) 31 = false :=
  ⟨⟨asked_ask (by decide +kernel) rfl, by decide +kernel, by decide +kernel, by decide +kernel, by decide +kernel, by decide +kernel,
      asked_ask (by decide +kernel) rfl, by decide +kernel⟩, ⟨by decide, by decide, asked_ask (by decide +kernel) rfl⟩,
    asked_ask (by decide +kernel) rfl, asked_ask (by decide +kernel) rfl,
    by decide +kernel, by decide +kernel, by decide +kernel, by decide +kernel, by decide +kernel, by decide +kernel⟩

/-- ClaimsGrantedReadAndEnded and CommandAndExchangeQueued: a free and a held actuator, a waiting command, a lease of 0. -/
theorem witness_claims :
    Asked .claim .east (ask plant .east 0x2B [31, 0, 0]) (rq 0x2B [31, 0, 0]) ∧ expiryDue plant 31 = false
    ∧ Asked .release .east (ask (actuated plant 31 actuatorBytes (some .east) 1) .east 0x2C [31]) (rq 0x2C [31])
    ∧ NoItems .east (ask (actuated plant 31 actuatorBytes (some .east) 1) .east 0x2C [31])
    ∧ Asked .readActuator .west (ask plant .west 0x2A [31]) (rq 0x2A [31])
    ∧ Asked .readActuator .west (ask quiet .west 0x2A [31]) (rq 0x2A [31]) ∧ (quiet.actuator 31).desc = none ∧ expiryDue quiet 31 = false
    ∧ (let s := (holding (actuated plant 31 actuatorBytes (some .east) 0) .east 0x2D [31, 0, 1]).setWorkList [.command .east 31 1]
      s.por = false ∧ (s.actuator 31).holder = some .east ∧ (s.actuator 31).lease = 0
        ∧ WorkItem.command .east 31 1 ∈ s.acts.workList ∧ (s.port .east).executor = .serving (rq 0x2D [31, 0, 1])
        ∧ (s.port .east).output.length < 8
        ∧ after (fun t => ((t.actuator 31).holder, t.acts.workList)) (exec (.leaseExpiry 31) s) = some (none, [.policy 31]))
    ∧ Taken (ask (actuated plant 31 actuatorBytes (some .east) 1) .east 0x2D [31, 0, 1]) .east (rq 0x2D [31, 0, 1])
    ∧ Taken (ask plant .hut 0x2E [31, 0, 1, 0, 0]) .hut (rq 0x2E [31, 0, 1, 0, 0])
    ∧ after (fun t => ((t.actuator 31).holder, (t.actuator 31).lease)) (exec (.exchange .hut) (ask plant .hut 0x2E [31, 0, 1, 0, 0]))
      = some (some .hut, 60) :=
  ⟨asked_ask (by decide +kernel) rfl, by decide +kernel, asked_ask (by decide +kernel) rfl,
    fun _ h => absurd h (by decide +revert +kernel), asked_ask (by decide +kernel) rfl, asked_ask (by decide) rfl, by decide +kernel,
    by decide +kernel, by decide +kernel, taken_ask rfl rfl rfl, taken_ask rfl rfl rfl, by decide +kernel⟩

/-- TicksAndRefreshes: a refresh timer at 0 and one that is not, with nothing pending and with a policy write pending. -/
theorem witness_ticks :
    (let s := plant.setActuator 31 { plant.actuator 31 with refreshTimer := some 0 }
    s.por = false ∧ (s.actuator 31).refreshTimer = some 0 ∧ (quiet.actuator 31).refreshTimer ≠ some 0 ∧ (s.actuator 31).desc.map (·.kind) = some .held
      ∧ WorkItem.policy 31 ∉ s.acts.workList ∧ WorkItem.refresh 31 ∉ s.acts.workList ∧ s.arb.tenure ≠ some .actuatorUnit
      ∧ WorkItem.policy 31 ∈ (s.setWorkList [.policy 31]).acts.workList)
    ∧ after State.uptime (exec .secondTick { quiet with uptime := 0xFFFFFFFF }) = some 0 := by decide +kernel

/-- A state with an UNTAKEN referral in slot 0, made after the TAKEN one in slot 3. -/
def referred : State := (quiet.setSlot 0 (.untaken ⟨.east, 1, 0xE0, [], 2⟩ (some 9))).setSlot 3 (.taken ⟨.west, 2, 0xFF, [5], 1⟩ (some 0))

theorem referred_slot0 : referred.slot 0 = .untaken ⟨.east, 1, 0xE0, [], 2⟩ (some 9) := by decide

/-- ReferralMadeAndTaken and ReferralAnsweredOrTimedOut: the longest body and one more, the first FREE slot, the full queue, each
slot state, the ends of slot and result, room and none. -/
theorem witness_referrals :
    0xE0 ≤ (rq 0xE0 (List.replicate 238 0)).kind.toNat ∧ (rq 0xE0 (List.replicate 238 0)).body.length ≤ 238
    ∧ 238 < (rq 0xE0 (List.replicate 239 0)).body.length ∧ Taken (ask referred .east 0xE0 []) .east (rq 0xE0 [])
    ∧ referred.slot 1 = .free ∧ (∀ j : ReferralIx, j < 1 → referred.slot j ≠ .free) ∧ (startPulse referred).link.pulse = true
    ∧ (∀ k, ((referred.setSlot 1 (.untaken ⟨.east, 1, 0xE0, [], 2⟩ none)).setSlot 2 (.untaken ⟨.east, 1, 0xE0, [], 2⟩ none)).slot k
      ≠ .free)
    ∧ Asked .takeReferral .hut (ask referred .hut 0x30 []) (rq 0x30 []) ∧ (∀ k, (quiet.slot k).isUntaken = false)
    ∧ referred.slot 0 = .untaken ⟨.east, 1, 0xE0, [], 2⟩ (some 9)
    ∧ (∀ j : ReferralIx, j ≠ 0 → (referred.slot j).isUntaken = false)
    ∧ Asked .answerReferral .hut (ask referred .hut 0x31 [3, 22]) (rq 0x31 [3, 22])
    ∧ Asked .answerReferral .hut (ask referred .hut 0x31 [4, 23]) (rq 0x31 [4, 23])
    ∧ (∀ q, referred.slot 0 ≠ .untaken q (some 0)) ∧ (∀ q, referred.slot 0 ≠ .taken q (some 0))
    ∧ (tick (referred.setSlot 0 (.untaken ⟨.east, 1, 0xE0, [], 2⟩ (some 1)))).slot 0 = .untaken ⟨.east, 1, 0xE0, [], 2⟩ (some 0)
    ∧ referred.slot 3 = .taken ⟨.west, 2, 0xFF, [5], 1⟩ (some 0) ∧ (referred.port .west).output.length < 8
    ∧ 8 ≤ ((filled referred .west 8).port .west).output.length :=
  ⟨by decide, by decide +kernel, by decide +kernel, taken_ask rfl rfl rfl, by decide, by decide, by decide, by decide, asked_ask (by decide) rfl,
    by decide, by decide, by decide, asked_ask (by decide) rfl, asked_ask (by decide) rfl, fun _ => by simp [referred_slot0],
    fun _ => by simp [referred_slot0], by decide +kernel, by decide, by decide, by decide⟩

/-- HutRestartStartsPulse and PulseAndSilenceExpire: no pulse and a pulse, a hut claim, a hut transaction, and both timers at 0 and
restarted. -/
theorem witness_hut_restart :
    Asked .restartHutController .east (ask referred .east 0x32 []) (rq 0x32 []) ∧ referred.link.pulse = false
    ∧ (startPulse referred).link.pulse = true ∧ (startPulse referred).link.pulseTimer ≠ some 0
    ∧ (quiet.setLink { quiet.link with pulseTimer := some 0 }).link.pulseTimer = some 0
    ∧ (let s := quiet.setLink { quiet.link with silenceTimer := some 0 }
      s.link.silenceTimer = some 0 ∧ (validHutFrame s).link.silenceTimer ≠ some 0)
    ∧ (actuated plant 31 actuatorBytes (some .hut) 1).actuator 31
      = { plant.actuator 31 with holder := some .hut, lease := 1 }
    ∧ after (fun t => (t.link.hcrst, (t.port .west).output.map (·.kind))) (exec (.restartHutController .east) (ask referred .east 0x32 []))
      = some (true, [0xFF])
    ∧ openOf referred .east = [(0, ⟨.east, 1, 0xE0, [], 2⟩)] ∧ openOf referred .west = [(3, ⟨.west, 2, 0xFF, [5], 1⟩)]
    ∧ after (fun t => t.slot 3) (exec (.restartHutController .east) (ask (filled referred .west 8) .east 0x32 []))
      = some (.answered ⟨.west, 2, 0xFF, [5], 1⟩ ⟨0x14, []⟩)
    ∧ after (fun t => (t.port .east).output.map (·.kind)) (exec (.restartHutController .east) (ask referred .east 0x32 []))
      = some [0x32, 0xE0] :=
  ⟨asked_ask (by decide) rfl, by decide, by decide, by decide, by decide, by decide, by decide +kernel, by decide +kernel, by decide,
    by decide, by decide +kernel, by decide +kernel⟩

/-- SettingsReplacedAndIdentified: both windows at their ends and one refused, references absent, present, undefined and of the
wrong kind. -/
theorem witness_settings :
    Asked .setPermissions .hut (ask quiet .hut 0x38 [7, 0, 127, 0, 0, 0]) (rq 0x38 [7, 0, 127, 0, 0, 0])
    ∧ permissionOf [7, 0, 127, 0, 0, 0] 0 = some (true, true, some (0, 127)) ∧ permissionOf [7, 0, 127, 0, 0, 0] 3 = some (false, false, none)
    ∧ permissionOf [4, 1, 0] 0 = none
    ∧ Asked .setSitePoints .hut (ask tableOfTwo .hut 0x39 [1, 0, 1, 255]) (rq 0x39 [1, 0, 1, 255])
    ∧ sitePointOf [1, 0, 1, 255] 0 = some 0 ∧ sitePointOf [1, 0, 1, 255] 2 = some 255 ∧ sitePointOf [0, 0] 0 = none
    ∧ (tableOfTwo.descOf 0).map (·.isDiscrete) = some true ∧ (tableOfTwo.descOf 255).map (·.isDiscrete) = some false
    ∧ tableOfTwo.descOf 1 = none ∧ Asked .identify .west (ask quiet .west 0x3A []) (rq 0x3A [])
    ∧ after (fun t => (t.siteLocal, t.economyTrigger)) (exec .setSitePoints (ask tableOfTwo .hut 0x39 [1, 0, 1, 255]))
      = some (some 0, some 255) :=
  ⟨asked_ask (by decide) rfl, by decide, by decide, by decide, asked_ask (by decide +kernel) rfl, by decide, by decide, by decide,
    by decide +kernel, by decide +kernel, by decide +kernel, asked_ask (by decide) rfl, by decide +kernel⟩

/-- SettingsReplacedAndIdentified: West's waiting command is dismissed in the event that ends ECONOMY, and its response follows an
ATTENTION and carries the summary 8 from after it (R124). -/
theorem witness_dismissed :
    (let s := (holding (actuated (withLive tableOfTwo 0 (fun l => { l with asserted := true })) 31 actuatorBytes (some .west) 5) .west 0x2D
      [31, 0, 1]).setWorkList [.command .west 31 1]
    let u := (withNotices s [{ note (.internal .economy) 8 .raised 1 with delivered := .all }]).setClock ⟨.economy, .auto, .economy, none, true⟩
    (u.actuator 31).holder = some .west ∧ u.acts.workList = [.command .west 31 1]
      ∧ (u.port .west).executor = .serving (rq 0x2D [31, 0, 1]) ∧ (u.port .west).output.length < 7
      ∧ after (fun t => (siteAsserted t, t.clock.clockState, (t.port .west).output)) (exec .setSitePoints
        (ask { u with economyTrigger := some 255 } .hut 0x39 [1, 0, 0, 0]))
        = some (true, .toFull, [attentionFrame 8, ⟨0x2D, 0x1F, [0x0F, 8, 31, 3, 0, 0], .response⟩])) := by decide +kernel

/-- SupervisionRestartBegins and SupervisionRestartStepsRun: asked, due with a transaction in flight and with none, and running. -/
theorem witness_supervision_restart :
    Asked .restartSupervision .east (ask quiet .east 0x3B []) (rq 0x3B [])
    ∧ after State.restart (exec (.restartSupervision .east) (ask quiet .east 0x3B [])) = some (.due .east)
    ∧ (quiet.setRestart (.due .east)).restart = .due .east ∧ (quiet.setRestart (.due .east)).bus.inFlight = none
    ∧ (beginTransaction (ended .scanner .singleRead [(0, 0)]) (quiet.setRestart (.due .east))).bus.inFlight.isSome = true
    ∧ (quiet.setRestart (.running .hut)).restart = .running .hut ∧ (quiet.setRestart (.running .hut)).por = false :=
  ⟨asked_ask (by decide) rfl, by decide +kernel, rfl, rfl, rfl, rfl, rfl⟩

/-- SupervisionRestartStepsRun: RUNNING with a list and with none, and each outcome for the clock. -/
theorem witness_restart_steps :
    (let s := (tableOfTwo.setScan { tableOfTwo.scan with scanState := .running }).setRestart (.running .hut)
    s.scan.scanState = .running ∧ s.scan.list ≠ [] ∧ s.arb.waiting.scanner = false ∧ s.arb.tenure ≠ some .scanner ∧ ScanListSound s
      ∧ after (fun t => (t.scan.cycleState, t.scan.cycleNumber, t.scan.ahead)) (exec .supervisionRestartSteps s)
        = some (.walking, 0, [255]))
    ∧ quiet.scan.list = [] ∧ ScanListSound quiet
    ∧ (let stepsFrom := fun (c : ClockControl) => after (fun t => (t.clock.clockState, t.arb.grantHold, t.notices.entries.length))
        (exec .supervisionRestartSteps ((quiet.setClock c).setRestart (.running .hut)))
      stepsFrom ⟨.full, .forceEconomy, .full, none, false⟩ = some (.toEconomy, true, 0)
        ∧ stepsFrom ⟨.economy, .auto, .economy, none, true⟩ = some (.toFull, true, 0)
        ∧ stepsFrom ⟨.toEconomy, .auto, .economy, some 7, false⟩ = some (.full, false, 0)
        ∧ stepsFrom ⟨.toFull, .forceEconomy, .full, some 7, false⟩ = some (.economy, false, 1)
        ∧ stepsFrom ⟨.economy, .forceEconomy, .economy, none, true⟩ = some (.economy, false, 1)) := by
  refine ⟨⟨rfl, by decide, rfl, by decide, ⟨by decide +kernel, by decide +kernel, by decide +kernel⟩, by decide +kernel⟩, rfl,
    ⟨by decide +kernel, by decide +kernel, by decide +kernel⟩, by decide +kernel⟩

/-- A notice of point 255's band, of a severity, in a state. -/
def bandNote (v : Severity) (st : NoticeState) : State :=
  withNotices tableOfTwo [{ note (.point 255 .band) 5 st 1 with severity := some v }]

/-- NoticeTableStaysSound: each row of a report: no entry with a place, with a victim, with none and of priority 0; a RETURNED entry;
and a RAISED or ACKED one whose severity stays, rises, changes side and falls. -/
theorem witness_reports :
    (NoticesSound (bandNote .low .raised) ∧ (∀ n ∈ (bandNote .low .raised).notices.entries, n.id ≠ .point 255 .failed)
      ∧ priorityOf (bandNote .low .raised) (.point 255 .failed) none = 5
      ∧ priorityOf (bandNote .low .raised) (.point 0 .band) (some .lowlow) = 0)
    ∧ (let s := withNotices tableOfTwo fullTable
      s.notices.entries.length = 64 ∧ (∀ n ∈ s.notices.entries, n.id ≠ .point 255 .band)
        ∧ priorityOf s (.point 255 .band) (some .low) = 5 ∧ VictimFor 5 s (note (.point 12 .band) 5 .returned 650)
        ∧ (∀ n ∈ s.notices.entries, n.state = .returned → 4 < n.priority))
    ∧ (bandNote .low .returned).notices.entries.map (·.state) = [.returned]
    ∧ (bandNote .low .acked).notices.entries.map (·.severity) = [some .low]
    ∧ (¬ OfRankTwo .low ∧ OfRankTwo .lowlow ∧ ¬ (OnLowSide .low ↔ OnLowSide .high) ∧ (OnLowSide .lowlow ↔ OnLowSide .low))
    ∧ (applyReport (.point 255 .band) (.change .lowlow) (bandNote .low .acked)).notices.entries.map (fun n => (n.state, n.priority))
      = [(.raised, 9)]
    ∧ (applyReport (.point 255 .band) (.change .low) (bandNote .lowlow .acked)).notices.entries.map (fun n => (n.state, n.priority))
      = [(.acked, 5)] := by
  refine ⟨⟨⟨by decide +kernel, by decide +kernel⟩, by decide +kernel, by decide +kernel, by decide +kernel⟩, ⟨by decide +kernel,
    by decide +kernel, by decide +kernel, ?_, by decide +kernel⟩, rfl, rfl, by unfold OfRankTwo OnLowSide; decide, by decide +kernel,
    by decide +kernel⟩
  unfold VictimFor
  decide +kernel

/-- HreqFollowsEveryStep and SummariesFollowEveryStep: HREQ for an UNTAKEN slot alone; a notice offerable and one suppressed; and each
row of R127: an ATTENTION waiting with another summary and with the same, none waiting with room, with none, and S not above L. -/
theorem witness_delivery :
    (HreqFollows { referred with hreq := true } ∧ (referred.slot 0).isUntaken = true)
    ∧ (let s := { withNotices quiet [note (.posted 0) 9 .raised 1, note (.posted 1) 3 .raised 1] with }
      let u := s.setNotices { s.notices with
        entries := s.notices.entries.map (fun n => { n with group := 7, postedMask := some .all })
        thresholds := s.notices.thresholds.set 6 9 }
      (u.notices.entries.map (fun n => (offerable u .hut n, suppressed u n))) = [(true, false), (false, true)] ∧ (7 : Nat) = (6 : Fin 7).val + 1)
    ∧ (let s := (quiet.setPort .east { quiet.port .east with summary := 9, output := [attentionFrame 4] })
      (∃ f ∈ (s.port .east).output, f.mark = .attention ∧ f.body ≠ [natByte 9])
        ∧ (decideAttention .east s).routes.east.lastReported = 9)
    ∧ ((attentionFrame 9).mark = .attention ∧ (attentionFrame 9).body = [natByte 9])
    ∧ (let s := fun n => (filled quiet .east n).setPort .east { (filled quiet .east n).port .east with summary := 9 }
      ((decideAttention .east (s 7)).port .east).output.length = 8 ∧ ((decideAttention .east (s 8)).route .east).attentionOwed = true
        ∧ ((s 8).route .east).lastReported < 9)
    ∧ (quiet.port .east).summary ≤ (quiet.route .east).lastReported := by
  refine ⟨⟨by unfold HreqFollows; decide +kernel, by decide⟩, by decide +kernel, ⟨⟨attentionFrame 4, by decide +kernel, by decide, by decide⟩,
    by decide +kernel⟩, by decide, by decide +kernel, by decide⟩

/-- The kept invariants: each holds of a state that is not the reset state, from which a step answers next. -/
theorem witness_invariants :
    (let s := ask noticed .west 0x24 []
    NoticesSound s ∧ (∃ t, step { s with pending := [.fetchNotice .west] } = .next t ∧ t.notices ≠ s.notices))
    ∧ QueuesBounded (filled quiet .east 8) ∧ HreqFollows quiet ∧ SummariesFollow quiet
    ∧ ClaimsSound (actuated plant 31 actuatorBytes (some .east) 3600) ∧ SiteLocalSound plant ∧ BusSound plant ∧ ArbiterSound plant
    ∧ PulseSound (startPulse quiet) ∧ TagsUnique tableOfTwo ∧ ScanListSound tableOfTwo ∧ AssertedReported tableOfTwo
    ∧ ItemsHeld between := by
  refine ⟨⟨noticed_sound, _, rfl, by decide +kernel⟩, ?_, by unfold HreqFollows; decide +kernel, ?_, ?_, ?_, by unfold BusSound; decide +kernel, ?_, ?_, tags_of_two,
    ⟨by decide +kernel, by decide +kernel, by decide +kernel⟩, ?_, held_between⟩
  · intro p; cases p <;> decide +kernel
  · intro p; cases p <;> decide +kernel
  · intro i
    have h : ∀ i : ActIx, ((actuated plant 31 actuatorBytes (some .east) 3600).actuator i).lease ≤ 3600
        ∧ ((actuated plant 31 actuatorBytes (some .east) 3600).actuator i).holder
          = if i = 31 then some Port.east else none := by decide +kernel
    have h0 : ∀ i : ActIx, i ≠ 31 → ((actuated plant 31 actuatorBytes (some .east) 3600).actuator i).lease = 0 := by decide +kernel
    refine ⟨(h i).1, ?_⟩
    by_cases hi : i = 31
    · subst hi
      exact ⟨_, rfl, by decide +kernel⟩
    · rw [(h i).2, if_neg hi]
      exact h0 i hi
  · intro h
    exact absurd h (by decide +kernel)
  · exact ⟨fun _ => rfl, by decide, fun h => (by cases h), List.Perm.refl _⟩
  · exact ⟨rfl, rfl, fun _ => rfl⟩
  · unfold AssertedReported
    decide +kernel
end

section
/-! SUPPORT. What the service of each request can change, and what follows for the row that takes it. -/

set_option Elab.async false

namespace Sys2Proof.Machine

variable (s : State)

/-! ## Rows and events -/

@[simp] theorem answer_fst (r : Reply) : (answer s r).1 = s := rfl
@[simp] theorem refuse_fst (r : Result) : (refuse s r).1 = s := rfl

/-- What the response of a served request can change besides what its service does. -/
theorem finishService_frame (p : Port) (x : Served) : ChangesOnly [.ports, .routes, .restart] x.1 (finishService p x) := by
  obtain ⟨u, r⟩ := x
  cases r with
  | none => exact .refl _ u
  | some reply => exact respond_frame u p reply

/-- All that a request row can answer: nothing has happened, or the head request was served (R174). -/
theorem serve_cases {p : Port} {accept : Request → Bool} {f : Option Port → Request → State → Served} {s t : State}
    (h : serve p accept f s = .next t) :
    t = s ∨ ∃ req, headRequest s p = some req ∧ accept req = true
      ∧ t = decideHreq (finishService p (f (deferral s p) req (takeHead p s))) := by
  rcases event_cases h with h | ⟨-, he, ht⟩
  · exact .inl h
  · cases hq : headRequest s p with
    | none => simp [canTake, hq] at he
    | some req =>
      refine .inr ⟨req, rfl, ?_, ?_⟩
      · simpa [canTake, hq] using (Bool.and_eq_true_iff.1 he).2
      · simpa only [hq] using ht

/-- An event changes HREQ and what it does. -/
theorem event_frame {l n : List Block} {e : Bool} {f : State → State} {s t : State} (h : event e f s = .next t)
    (hf : ChangesOnly l s (f s)) (hn : ∀ b ∈ l ++ [.hreq], b ∈ n := by decide) : ChangesOnly n s t := by
  rcases event_cases h with rfl | ⟨-, -, rfl⟩
  · exact .refl _ _
  · exact hf.comp (decideHreq_frame _) hn

/-- A request row changes what its service changes, and what the taking and the answering of a request change. -/
theorem serve_frame {l n : List Block} {p : Port} {accept : Request → Bool} {f : Option Port → Request → State → Served}
    {s t : State} (h : serve p accept f s = .next t) (hf : ∀ d req s, ChangesOnly l s (f d req s).1)
    (hn : ∀ b ∈ l ++ [.ports, .routes, .restart, .hreq], b ∈ n := by decide) : ChangesOnly n s t := by
  have hln : ∀ b ∈ l, b ∈ n := fun b hb => hn b (List.mem_append_left _ hb)
  have hrn : ∀ b ∈ [Block.ports, .routes, .restart, .hreq], b ∈ n := fun b hb => hn b (List.mem_append_right _ hb)
  rcases serve_cases h with rfl | ⟨req, -, -, rfl⟩
  · exact .refl _ _
  · have h1 := (takeHead_frame s p).mono (n := n) (by simp at hrn ⊢; exact hrn.1)
    have h2 := (hf (deferral s p) req (takeHead p s)).mono (n := n) hln
    have h3 := (finishService_frame p (f (deferral s p) req (takeHead p s))).mono (n := n) (by
      intro b hb; exact hrn b (by revert b; decide))
    have h4 := (decideHreq_frame (finishService p (f (deferral s p) req (takeHead p s)))).mono (n := n) (by
      intro b hb; exact hrn b (by revert b; decide))
    exact ((h1.comp h2 (n := n) (by simp)).comp h3 (n := n) (by simp)).comp h4 (by simp)

/-! ## Requests of the Point Bus Controller and of Clock Control -/

theorem serveSetModuleClass_frame (d : Option Port) (req : Request) :
    ChangesOnly [.bus] s (serveSetModuleClass d req s).1 := by
  unfold serveSetModuleClass
  split
  · exact setBus_frame s _
  · exact .refl _ s

theorem serveAssignModuleClass_frame (d : Option Port) (req : Request) :
    ChangesOnly [.bus] s (serveAssignModuleClass d req s).1 := by
  unfold serveAssignModuleClass
  split
  · exact setBus_frame s _
  · exact .refl _ s

theorem serveDirect_frame (p : Port) (d : Option Port) (req : Request) : ChangesOnly [.arb] s (serveDirect p d req s).1 := by
  unfold serveDirect
  repeat' split
  · exact .refl _ s
  · exact .refl _ s
  · exact .refl _ s
  · exact setDirectWaiting_frame s p true

theorem serveSetEconomy_frame (d : Option Port) (req : Request) :
    ChangesOnly [.arb, .clock, .notices, .ports, .routes] s (serveSetEconomy d req s).1 := by
  unfold serveSetEconomy
  split
  · exact .refl _ s
  · simp only [answer_fst]
    exact (setClock_frame s _).comp (reevaluateClock_frame _ d)

/-! ## Requests of the Notice Table and of Notice Delivery -/

/-- What a request of the Notice Table or of Notice Delivery can change. -/
abbrev noticeBlocks : List Block := [.notices, .ports, .routes]

theorem serveAckNotice_frame (p : Port) (d : Option Port) (req : Request) :
    ChangesOnly noticeBlocks s (serveAckNotice p d req s).1 := by
  unfold serveAckNotice
  repeat' split
  · exact .refl _ s
  · exact .refl _ s
  · unfold acknowledge
    split
    · exact .refl _ s
    · simp only [answer_fst]
      exact (updateNotice_frame s _ _).comp (settle_frame _ d)
    · simp only [answer_fst]
      exact (removeNotice_frame s _).comp (settle_frame _ d)
  · exact .refl _ s

theorem setPosting_frame (k : SlotIx) (x : Option Posting) : ChangesOnly [.notices] s (setPosting k x s) :=
  setNotices_frame s _

theorem postEntry_frame (k : SlotIx) (x : Posting) : ChangesOnly [.notices] s (postEntry k x s) := by
  unfold postEntry
  split
  · exact insertNotice_frame s _
  · exact updateNotice_frame s _ _

theorem servePost_frame (p : Port) (d : Option Port) (req : Request) : ChangesOnly noticeBlocks s (servePost p d req s).1 := by
  have posted : ∀ k x, ChangesOnly noticeBlocks s (settle d (postEntry k x (setPosting k (some x) s))) := fun k x =>
    ((setPosting_frame s k _).comp (postEntry_frame _ k x) (n := [.notices])).comp (settle_frame _ d)
  unfold servePost
  repeat' split
  · exact .refl _ s
  · simp only [answer_fst]
    exact posted _ _
  · exact .refl _ s
  · simp only [answer_fst]
    exact posted _ _

theorem serveUnpost_frame (p : Port) (d : Option Port) (req : Request) :
    ChangesOnly noticeBlocks s (serveUnpost p d req s).1 := by
  unfold serveUnpost
  repeat' split
  · exact .refl _ s
  · exact .refl _ s
  · simp only [answer_fst]
    exact (setPosting_frame s _ _).comp (report_frame _ d _ _)
  · exact .refl _ s

theorem serveSetGroupThreshold_frame (d : Option Port) (req : Request) :
    ChangesOnly noticeBlocks s (serveSetGroupThreshold d req s).1 := by
  unfold serveSetGroupThreshold
  simp only []
  split
  · simp only [answer_fst]
    exact (setNotices_frame s _).comp (settle_frame _ d)
  · exact .refl _ s

theorem serveFetchNotice_frame (p : Port) (d : Option Port) (req : Request) :
    ChangesOnly noticeBlocks s (serveFetchNotice p d req s).1 := by
  unfold serveFetchNotice
  split
  · exact .refl _ s
  · simp only [answer_fst]
    exact (updateNotice_frame s _ _).comp (settle_frame _ d)

theorem serveFetchNoticeIdentity_fst (p : Port) (d : Option Port) (req : Request) :
    (serveFetchNoticeIdentity p d req s).1 = s := by
  unfold serveFetchNoticeIdentity
  repeat' split
  all_goals rfl

theorem serveSetLevel_frame (p : Port) (d : Option Port) (req : Request) :
    ChangesOnly [.ports, .routes] s (serveSetLevel p d req s).1 := by
  simp only [serveSetLevel, answer_fst]
  exact (setPort_frame s p _).comp (settle_frame _ d)

theorem serveReadSummary_frame (p : Port) (d : Option Port) (req : Request) :
    ChangesOnly [.notices] s (serveReadSummary p d req s).1 := setNotices_frame s _

/-! ## Requests of the Actuator Unit -/

/-- What the definition of an actuator can change. -/
abbrev actuatorBlocks : List Block := .notices :: claimBlocks

theorem clearFault_frame (d : Option Port) (i : ActIx) : ChangesOnly writeBlocks s (clearFault d i s) := by
  unfold clearFault
  split
  · exact (setActuator_frame s i _).comp (report_frame _ d _ _)
  · exact .refl _ s

theorem startHeld_frame (i : ActIx) (x : ActDescriptor) : ChangesOnly [.arb, .acts] s (startHeld i x s) := by
  unfold startHeld
  split
  · exact (restartRefresh_frame s i).comp (queuePolicy_frame _ _ i)
  · exact .refl _ s

theorem acceptActuator_frame (d : Option Port) (i : ActIx) (x : ActDescriptor) :
    ChangesOnly actuatorBlocks s (acceptActuator d i x s) :=
  ((((clearFault_frame s d i).comp (dropPending_frame _ i) (n := actuatorBlocks)).comp (setActuator_frame _ i _)
    (n := actuatorBlocks)).comp (settle_frame _ d) (n := actuatorBlocks)).comp (startHeld_frame _ i x)

theorem serveDefineActuator_frame (d : Option Port) (req : Request) :
    ChangesOnly actuatorBlocks s (serveDefineActuator d req s).1 := by
  unfold serveDefineActuator
  split
  · simp only []
    split
    · exact (takeExpiry_frame s _).mono
    · split
      · exact (takeExpiry_frame s _).mono
      · simp only [answer_fst]
        exact (takeExpiry_frame s _).comp (acceptActuator_frame _ d _ _)
  · exact .refl _ s

theorem serveUndefineActuator_frame (d : Option Port) (req : Request) :
    ChangesOnly actuatorBlocks s (serveUndefineActuator d req s).1 := by
  unfold serveUndefineActuator
  split
  · exact .refl _ s
  · simp only []
    split
    · exact (takeExpiry_frame s _).mono
    · split
      · exact (takeExpiry_frame s _).mono
      · simp only [answer_fst]
        exact ((((takeExpiry_frame s _).comp (removeNotice_frame _ _) (n := actuatorBlocks)).comp (dropPending_frame _ _)
          (n := actuatorBlocks)).comp (setActuator_frame _ _ _) (n := actuatorBlocks)).comp (settle_frame _ d)

theorem serveReadActuator_frame (d : Option Port) (req : Request) :
    ChangesOnly claimBlocks s (serveReadActuator d req s).1 := by
  unfold serveReadActuator
  split
  · exact .refl _ s
  · simp only []
    split
    · exact takeExpiry_frame s _
    · exact takeExpiry_frame s _

/-- An actuator request changes what its expiry and its acceptance change. -/
theorem serveActuator_frame (p : Port) (k : ActRequest) (v : Word16) (req : Request) (accept : ActIx → State → Served)
    (h : ∀ i s, ChangesOnly claimBlocks s (accept i s).1) : ChangesOnly claimBlocks s (serveActuator p k v req accept s).1 := by
  unfold serveActuator
  split
  · exact .refl _ s
  · simp only []
    split
    · exact takeExpiry_frame s _
    · exact (takeExpiry_frame s _).comp (h _ _)

theorem takeClaim_frame (i : ActIx) (p : Port) (n : Nat) : ChangesOnly [.acts] s (takeClaim i p n s) := setActuator_frame s i _

theorem queueItem_frame (i : ActIx) (v : Word16) (w : WorkItem) : ChangesOnly [.arb, .acts] s (queueItem i v w s) :=
  ((setActuator_frame s i _).comp (setWorkList_frame _ _) (n := [.arb, .acts])).comp (requestActuator_frame _)

theorem serveClaim_frame (p : Port) (d : Option Port) (req : Request) : ChangesOnly claimBlocks s (serveClaim p d req s).1 :=
  serveActuator_frame s p _ _ req _ fun _ _ => (takeClaim_frame _ _ _ _).mono

theorem serveRelease_frame (p : Port) (d : Option Port) (req : Request) :
    ChangesOnly claimBlocks s (serveRelease p d req s).1 :=
  serveActuator_frame s p _ _ req _ fun _ _ => endClaim_frame _ _ _

theorem serveCommand_frame (p : Port) (d : Option Port) (req : Request) :
    ChangesOnly claimBlocks s (serveCommand p d req s).1 :=
  serveActuator_frame s p _ _ req _ fun _ _ => (queueItem_frame _ _ _ _).mono

theorem serveExchange_frame (p : Port) (d : Option Port) (req : Request) :
    ChangesOnly claimBlocks s (serveExchange p d req s).1 :=
  serveActuator_frame s p _ _ req _ fun _ _ => (takeClaim_frame _ _ _ _).comp (queueItem_frame _ _ _ _)

/-! ## Requests of the Hut Link Unit and of the ports -/

theorem serveReferral_frame (r : RoutePort) (d : Option Port) (req : Request) :
    ChangesOnly [.ports, .link] s (serveReferral r d req s).1 := by
  unfold serveReferral
  repeat' split
  · exact .refl _ s
  · exact .refl _ s
  · exact .refl _ s
  · exact (fillSlot_frame s _ r req).comp (setExecutor_frame _ _ _)

theorem serveTakeReferral_frame (d : Option Port) (req : Request) :
    ChangesOnly [.link] s (serveTakeReferral d req s).1 := by
  unfold serveTakeReferral
  repeat' split
  · exact .refl _ s
  · exact setSlot_frame s _ _
  · exact .refl _ s

theorem serveAnswerReferral_frame (d : Option Port) (req : Request) :
    ChangesOnly [.ports, .routes, .link] s (serveAnswerReferral d req s).1 := by
  unfold serveAnswerReferral
  repeat' split
  · exact .refl _ s
  · exact .refl _ s
  · exact placeAnswer_frame s _ _ _ _
  · exact .refl _ s

theorem serveRestartHut_frame (r : RoutePort) (d : Option Port) (req : Request) :
    ChangesOnly [.bus, .arb, .ports, .routes, .acts, .link, .restart] s (serveRestartHut r d req s).1 := by
  unfold serveRestartHut
  split
  · exact .refl _ s
  · simp only []
    exact (respond_frame s _ _).comp (restartHut_frame _)

theorem serveSetPermissions_frame (d : Option Port) (req : Request) :
    ChangesOnly [.routes] s (serveSetPermissions d req s).1 := by
  unfold serveSetPermissions
  split
  · simp only [answer_fst]
    exact (setRoute_frame s .east _).comp (setRoute_frame _ .west _)
  · exact .refl _ s

/-- What a change of the site points can change. -/
abbrev siteBlocks : List Block := [.site, .arb, .clock, .notices, .ports, .routes, .acts, .restart]

theorem acceptSitePoints_frame (d : Option Port) (x y : Option PointIx) :
    ChangesOnly siteBlocks s (acceptSitePoints d x y s) := by
  have h1 : ChangesOnly [.site] s { s with siteLocal := x, economyTrigger := y } := by
    intro b hb; cases b <;> simp_all [Block.same]
  unfold acceptSitePoints
  simp only []
  generalize ({ s with siteLocal := x, economyTrigger := y } : State) = s1 at h1 ⊢
  have h2 := h1.comp (handClock_frame s1 (y ≠ s.economyTrigger) d) (n := siteBlocks)
  generalize (if y ≠ s.economyTrigger then reevaluateClock d s1 else s1) = s2 at h2 ⊢
  split
  · exact h2.comp (endRouteClaims_frame s2)
  · exact h2

theorem serveSetSitePoints_frame (d : Option Port) (req : Request) :
    ChangesOnly siteBlocks s (serveSetSitePoints d req s).1 := by
  unfold serveSetSitePoints
  simp only []
  repeat' split
  · exact .refl _ s
  · exact .refl _ s
  · exact acceptSitePoints_frame s d _ _

end Sys2Proof.Machine
end

section
/-! SUPPORT. What the operations on the Point Table leave in each entry: the reported ASSERTED activity (R33), a new live record
(R42), and the requests that define a point or change it. -/

set_option Elab.async false

namespace Sys2Proof.Machine

variable (s : State)

/-! ## Descriptors and activity -/

theorem descOf_congr {s t : State} {i : PointIx} (h : (t.point i).state = (s.point i).state) : t.descOf i = s.descOf i := by
  simp only [State.descOf, PointEntry.desc, h]

theorem isScanned_congr {x y : PointEntry} (h : y.state = x.state) : y.isScanned = x.isScanned := by
  simp only [PointEntry.isScanned, h]

theorem gatedBy_congr {s t : State} {i j : PointIx} (h : t.descOf j = s.descOf j) : gatedBy t i j = gatedBy s i j := by
  simp only [gatedBy, h]

theorem gatedBy_iff {i j : PointIx} :
    gatedBy s i j = true ↔ ∃ d g, s.descOf j = some d ∧ d.gate = some g ∧ g.point = i := by
  unfold gatedBy
  cases hd : s.descOf j with
  | none => simp
  | some d => cases hg : d.gate <;> simp [hg]

theorem mem_gatedPoints {i j : PointIx} : j ∈ gatedPoints s i ↔ gatedBy s i j = true := by
  simp [gatedPoints, pointIndices]

/-- Point i is a gate exactly where some defined point names it (R12, R15). -/
theorem isGate_iff {i : PointIx} : isGate s i = true ↔ IsGateOf s i := by
  have : isGate s i = true ↔ ∃ j, j ∈ gatedPoints s i := by
    unfold isGate
    cases gatedPoints s i <;> simp
  simp only [this, mem_gatedPoints, gatedBy_iff, IsGateOf]

theorem not_gatedBy_of_not_isGate {i : PointIx} (h : isGate s i = false) (j : PointIx) : gatedBy s i j = false := by
  cases hg : gatedBy s i j with
  | false => rfl
  | true =>
    rw [gatedBy_iff] at hg
    rw [(isGate_iff s).2 ⟨j, hg⟩] at h
    cases h

theorem gateOpen_congr {s t : State} {g : Option Gate}
    (h : ∀ x, g = some x → (t.point x.point).live.asserted = (s.point x.point).live.asserted) : gateOpen t g = gateOpen s g := by
  cases g with
  | none => rfl
  | some x =>
    obtain ⟨j, v⟩ := x
    have hj := h _ rfl
    cases v <;> simp only [gateOpen, hj]

/-- The ASSERTED activity of a point reads its descriptor, its flag and its gate's flag, and nothing else (R32). -/
theorem assertedActive_congr {s t : State} {j : PointIx} (hd : t.descOf j = s.descOf j)
    (ha : (t.point j).live.asserted = (s.point j).live.asserted)
    (hg : ∀ k, gatedBy s k j = true → (t.point k).live.asserted = (s.point k).live.asserted) :
    assertedActive t j = assertedActive s j := by
  unfold assertedActive
  rw [hd, ha]
  cases h : s.descOf j with
  | none => rfl
  | some d =>
    have : gateOpen t d.gate = gateOpen s d.gate :=
      gateOpen_congr fun x hx => hg _ ((gatedBy_iff s).2 ⟨d, x, h, hx, rfl⟩)
    simp only [this]

theorem assertedActive_of_clear {j : PointIx} (h : (s.point j).live.asserted = false) : assertedActive s j = false := by
  unfold assertedActive
  split
  · rfl
  · simp [h]

/-! ## Re-evaluation of the ASSERTED activity (R33) -/

theorem setReportedAsserted_point (i j : PointIx) (b : Bool) :
    (setReportedAsserted i b s).point j = if j = i then { s.point i with reportedAsserted := b } else s.point j :=
  setPoint_point s i j _

/-- A re-evaluation leaves the point's own activity as the reported one, and every other entry as it was. -/
theorem reevaluateAsserted_point (d : Option Port) (i j : PointIx) :
    (reevaluateAsserted d s i).point j
      = if j = i then { s.point i with reportedAsserted := assertedActive s i } else s.point j := by
  unfold reevaluateAsserted
  split
  · next h =>
    split
    · next e => subst e; rw [h]
    · rfl
  · rw [(reportActivity_frame _ d _ _).point, setReportedAsserted_point]

/-- What a re-evaluation keeps of an entry: all but the reported activity. -/
theorem reevaluateAsserted_kept (d : Option Port) (i j : PointIx) :
    ((reevaluateAsserted d s i).point j).state = (s.point j).state
      ∧ ((reevaluateAsserted d s i).point j).live = (s.point j).live := by
  rw [reevaluateAsserted_point]
  split
  · next e => subst e; exact ⟨rfl, rfl⟩
  · exact ⟨rfl, rfl⟩

theorem reevaluateAsserted_descOf (d : Option Port) (i j : PointIx) :
    (reevaluateAsserted d s i).descOf j = s.descOf j := descOf_congr (reevaluateAsserted_kept s d i j).1

theorem reevaluateAsserted_active (d : Option Port) (i j : PointIx) :
    assertedActive (reevaluateAsserted d s i) j = assertedActive s j :=
  assertedActive_congr (reevaluateAsserted_descOf s d i j) (by rw [(reevaluateAsserted_kept s d i j).2])
    fun k _ => by rw [(reevaluateAsserted_kept s d i k).2]

/-- A list of points re-evaluated in turn: each of them reports its own activity, and no other entry changes. -/
theorem reevaluate_list_point (d : Option Port) (l : List PointIx) (j : PointIx) :
    (l.foldl (reevaluateAsserted d) s).point j
      = if j ∈ l then { s.point j with reportedAsserted := assertedActive s j } else s.point j := by
  induction l generalizing s with
  | nil => simp
  | cons i l ih =>
    rw [List.foldl_cons, ih, reevaluateAsserted_point, reevaluateAsserted_active]
    by_cases hi : j = i
    · subst hi; simp
    · simp [hi]

theorem reevaluateGated_point (d : Option Port) (i j : PointIx) :
    (reevaluateGated d i s).point j
      = if gatedBy s i j = true then { s.point j with reportedAsserted := assertedActive s j } else s.point j := by
  simp only [reevaluateGated, reevaluate_list_point, mem_gatedPoints]

/-- A change of a point's flag has the point and those it gates report their activity (R30, R33). -/
theorem reportAsserted_point (d : Option Port) (i j : PointIx) (old new : Bool) :
    (reportAsserted d i old new s).point j
      = if old ≠ new ∧ (j = i ∨ gatedBy s i j = true) then { s.point j with reportedAsserted := assertedActive s j }
        else s.point j := by
  unfold reportAsserted
  by_cases h : old = new
  · simp [h]
  · rw [if_neg h, reevaluateGated_point, reevaluateAsserted_active,
      gatedBy_congr (reevaluateAsserted_descOf s d i j), reevaluateAsserted_point]
    by_cases hi : j = i
    · subst hi; simp [h]
    · simp [h, hi]

/-! ## A new live record (R42) -/

theorem handOff_point (d : Option Port) (i j : PointIx) (a b : LiveRecord) : (handOff d i a b s).point j = s.point j :=
  (handOff_frame s d i a b).point j

/-- A new live record takes effect in its entry; where it changes the flag, the point and those it gates report their
activity. -/
theorem commitLive_point (d : Option Port) (i j : PointIx) (x : LiveRecord) :
    (commitLive d i x s).point j
      = if (s.point i).live.asserted ≠ x.asserted ∧ (j = i ∨ gatedBy s i j = true)
        then { (s.setLive i x).point j with reportedAsserted := assertedActive (s.setLive i x) j }
        else (s.setLive i x).point j := by
  have h : ChangesOnly [.notices, .ports, .routes] (s.setLive i x)
      (reportBand d i (s.point i).live.band x.band
        (reportFailed d i (s.point i).live.quality x.quality (s.setLive i x))) :=
    (reportFailed_frame _ d i _ _).comp (reportBand_frame _ d i _ _)
  simp only [commitLive, handOff_point, reportAsserted_point]
  rw [h.point j, gatedBy_congr ((h.descOf j).trans (setLive_descOf s i j x)),
    assertedActive_congr (h.descOf j) (by rw [h.point j]) fun k _ => by rw [h.point k]]

/-- A new live record keeps every entry's state. -/
theorem commitLive_state (d : Option Port) (i j : PointIx) (x : LiveRecord) :
    ((commitLive d i x s).point j).state = (s.point j).state := by
  rw [commitLive_point]
  split <;> simp only [setLive_point] <;> split <;> rename_i e <;> simp [e]

/-- A new live record is the entry's; every other entry keeps its own. -/
theorem commitLive_live (d : Option Port) (i j : PointIx) (x : LiveRecord) :
    ((commitLive d i x s).point j).live = if j = i then x else (s.point j).live := by
  rw [commitLive_point]
  split <;> simp only [setLive_point] <;> split <;> rfl

theorem commitLive_descOf (d : Option Port) (i j : PointIx) (x : LiveRecord) :
    (commitLive d i x s).descOf j = s.descOf j := descOf_congr (commitLive_state s d i j x)

theorem commitLive_scanMark (d : Option Port) (i j : PointIx) (x : LiveRecord) :
    ((commitLive d i x s).point j).scanMark = (s.point j).scanMark := by
  rw [commitLive_point]
  split <;> simp only [setLive_point] <;> split <;> rename_i e <;> simp [e]

/-- A new live record changes nothing of another entry but its reported activity (R33). -/
theorem commitLive_others (d : Option Port) (i : PointIx) (x : LiveRecord) : OtherPointsKept i s (commitLive d i x s) := by
  intro j hj
  rw [commitLive_point]
  split <;> simp only [setLive_point, if_neg hj]

/-- The point and those it gates report their activity after a change of its flag. -/
theorem commitLive_reported (d : Option Port) (i j : PointIx) (x : LiveRecord) (h : (s.point i).live.asserted ≠ x.asserted)
    (hj : j = i ∨ gatedBy s i j = true) :
    ((commitLive d i x s).point j).reportedAsserted = assertedActive (commitLive d i x s) j := by
  have ha : assertedActive (commitLive d i x s) j = assertedActive (s.setLive i x) j :=
    assertedActive_congr ((commitLive_descOf s d i j x).trans (setLive_descOf s i j x).symm)
      (by rw [commitLive_live, setLive_point]; split <;> rfl)
      fun k _ => by rw [commitLive_live, setLive_point]; split <;> rfl
  rw [ha, commitLive_point, if_pos ⟨h, hj⟩]

end Sys2Proof.Machine
end

section
/-! SUPPORT. What every step keeps of the Point Table: unique tags, the scan list, and the reported activities. -/

set_option Elab.async false

namespace Sys2Proof.Machine

variable (s : State)

/-- From s to t the tags stay unique (R6), the scan list that of the SCANNED points (R5, R43), and the reported ASSERTED
activities the points' own (R33), each where it was so in s. -/
structure TableKept (s t : State) : Prop where
  tags : TagsUnique s → TagsUnique t
  list : ScanListSound s → ScanListSound t
  asserted : AssertedReported s → AssertedReported t

theorem TableKept.refl : TableKept s s := ⟨id, id, id⟩

theorem TableKept.trans {s t u : State} (h : TableKept s t) (k : TableKept t u) : TableKept s u :=
  ⟨fun x => k.tags (h.tags x), fun x => k.list (h.list x), fun x => k.asserted (h.asserted x)⟩

theorem TableKept.foldl {α : Type} {f : State → α → State} (h : ∀ s a, TableKept s (f s a)) (xs : List α) (s : State) :
    TableKept s (xs.foldl f s) := by
  induction xs generalizing s with
  | nil => exact .refl s
  | cons a xs ih => exact (h s a).trans (ih (f s a))

/-! ## What each invariant reads -/

theorem TagsUnique.congr {s t : State} (h : TagsUnique s) (hd : ∀ i, t.descOf i = s.descOf i) : TagsUnique t := by
  intro i d hi
  obtain ⟨h0, hu⟩ := h i d (by rw [← hd]; exact hi)
  exact ⟨h0, fun j e hj => hu j e (by rw [← hd]; exact hj)⟩

/-- The scan list invariant reads the SCANNED states, the list, and where the walk stands between cycles. -/
theorem ScanListSound.congr {s t : State} (h : ScanListSound s)
    (hp : ∀ i, (t.point i).isScanned = (s.point i).isScanned) (hl : t.scan.list = s.scan.list)
    (hi : (s.scan.cycleState = .idle → s.scan.ahead = []) → t.scan.cycleState = .idle → t.scan.ahead = []) :
    ScanListSound t := by
  obtain ⟨hn, hm, ha⟩ := h
  exact ⟨by rw [hl]; exact hn, fun i => by rw [hl, hp]; exact hm i, hi ha⟩

theorem AssertedReported.congr {s t : State} (h : AssertedReported s) (hp : ∀ i, t.point i = s.point i) :
    AssertedReported t := by
  intro i
  rw [hp, h i]
  refine (assertedActive_congr ?_ (by rw [hp]) fun k _ => by rw [hp]).symm
  simp only [State.descOf, hp]

/-- A change of the Scanner that leaves the list, and the end of the list as the walk position between cycles. -/
theorem TableKept.of_scan {s t : State} (hp : t.points = s.points) (hl : t.scan.list = s.scan.list)
    (hi : (s.scan.cycleState = .idle → s.scan.ahead = []) → t.scan.cycleState = .idle → t.scan.ahead = []) :
    TableKept s t := by
  have hp' : ∀ i, t.point i = s.point i := fun i => by simp only [State.point, hp]
  exact ⟨fun h => h.congr fun i => by simp only [State.descOf, hp'], fun h => h.congr (fun i => by rw [hp']) hl hi,
    fun h => h.congr hp'⟩

/-- A change elsewhere keeps the table. -/
theorem TableKept.of_frame {l : List Block} {s t : State} (h : ChangesOnly l s t) (hp : Block.points ∉ l := by decide)
    (hs : Block.scan ∉ l := by decide) : TableKept s t :=
  .of_scan (h.points hp) (by rw [h.scan hs]) (by rw [h.scan hs]; exact id)

/-- A change of the points that keeps every entry's state and re-evaluates what it must. -/
theorem TableKept.of_states {s t : State} (hs : t.scan = s.scan) (hp : ∀ i, (t.point i).state = (s.point i).state)
    (ha : AssertedReported s → AssertedReported t) : TableKept s t :=
  ⟨fun h => h.congr fun i => descOf_congr (hp i),
    fun h => h.congr (fun i => isScanned_congr (hp i)) (by rw [hs]) (by rw [hs]; exact id), ha⟩

/-! ## Samples and live records -/

/-- A point that is neither i nor gated by i does not see i's flag. -/
theorem assertedActive_setLive_of_unaffected (i j : PointIx) (x : LiveRecord)
    (h : (s.point i).live.asserted = x.asserted ∨ j ≠ i ∧ gatedBy s i j = false) :
    assertedActive (s.setLive i x) j = assertedActive s j := by
  have kept : ∀ k, (k = i → (s.point i).live.asserted = x.asserted) →
      ((s.setLive i x).point k).live.asserted = (s.point k).live.asserted := by
    intro k hk
    rw [setLive_point]
    split
    · next e => subst e; exact (hk rfl).symm
    · rfl
  rcases h with h | ⟨hj, hg⟩
  · exact assertedActive_congr (setLive_descOf s i j x) (kept j fun _ => h) fun k _ => kept k fun _ => h
  · refine assertedActive_congr (setLive_descOf s i j x) (kept j fun e => absurd e hj) fun k hk => kept k fun e => ?_
    subst e
    rw [hg] at hk
    cases hk

theorem commitLive_assertedReported (d : Option Port) (i : PointIx) (x : LiveRecord) (h : AssertedReported s) :
    AssertedReported (commitLive d i x s) := by
  intro j
  by_cases hc : (s.point i).live.asserted ≠ x.asserted ∧ (j = i ∨ gatedBy s i j = true)
  · exact commitLive_reported s d i j x hc.1 hc.2
  · have hu : (s.point i).live.asserted = x.asserted ∨ j ≠ i ∧ gatedBy s i j = false := by
      by_cases ha : (s.point i).live.asserted = x.asserted
      · exact .inl ha
      · simp only [not_and, not_or, Bool.not_eq_true] at hc
        exact .inr (hc ha)
    have hr : ((commitLive d i x s).point j).reportedAsserted = (s.point j).reportedAsserted := by
      rw [commitLive_point, if_neg hc, setLive_point]
      split
      · next e => subst e; rfl
      · rfl
    have ha : assertedActive (commitLive d i x s) j = assertedActive (s.setLive i x) j :=
      assertedActive_congr ((commitLive_descOf s d i j x).trans (setLive_descOf s i j x).symm)
        (by rw [commitLive_live, setLive_point]; split <;> rfl)
        fun k _ => by rw [commitLive_live, setLive_point]; split <;> rfl
    rw [hr, h j, ha, assertedActive_setLive_of_unaffected s i j x hu]

theorem commitLive_kept (d : Option Port) (i : PointIx) (x : LiveRecord) : TableKept s (commitLive d i x s) :=
  .of_states (commitLive_frame s d i x).scan (fun j => commitLive_state s d i j x) (commitLive_assertedReported s d i x)

/-- An entry written with the same state, flag and reported activity. -/
theorem setPoint_kept (i : PointIx) (x : PointEntry) (hs : x.state = (s.point i).state)
    (hl : x.live.asserted = (s.point i).live.asserted) (hr : x.reportedAsserted = (s.point i).reportedAsserted) :
    TableKept s (s.setPoint i x) := by
  have kept : ∀ j, ((s.setPoint i x).point j).state = (s.point j).state
      ∧ ((s.setPoint i x).point j).live.asserted = (s.point j).live.asserted
      ∧ ((s.setPoint i x).point j).reportedAsserted = (s.point j).reportedAsserted := by
    intro j
    rw [setPoint_point]
    split
    · next e => subst e; exact ⟨hs, hl, hr⟩
    · exact ⟨rfl, rfl, rfl⟩
  refine .of_states rfl (fun j => (kept j).1) fun h j => ?_
  rw [(kept j).2.2, h j]
  exact (assertedActive_congr (descOf_congr (kept j).1) (kept j).2.1 fun k _ => (kept k).2.1).symm

theorem takeSample_kept (d : Option Port) (i : PointIx) (x : Sample) : TableKept s (takeSample d i x s) := by
  unfold takeSample
  split
  · exact .refl s
  · exact (setPoint_kept s i { s.point i with scanMark := markAfter (s.point i) x } rfl rfl rfl).trans
      (commitLive_kept _ d i _)

/-! ## The Scanner -/

theorem setScan_kept (x : Scanner) (hl : x.list = s.scan.list)
    (hi : (s.scan.cycleState = .idle → s.scan.ahead = []) → x.cycleState = .idle → x.ahead = []) :
    TableKept s (s.setScan x) := .of_scan rfl hl hi

theorem endOverrun_kept (d : Option Port) : TableKept s (endOverrun d s) := by
  unfold endOverrun
  split
  · exact (setScan_kept s { s.scan with overrun := false } rfl id).trans (.of_frame (reportActivity_frame _ d _ _))
  · exact .refl s

theorem completeCycle_kept (d : Option Port) : TableKept s (completeCycle d s) := by
  have h := setScan_kept s { s.scan with
    cycleState := .idle
    passed := s.scan.list
    ahead := []
    cycleNumber := s.scan.cycleNumber + 1 } (by simp [Scanner.list]) (fun _ _ => rfl)
  unfold completeCycle
  simp only []
  split
  · exact h
  · exact h.trans (endOverrun_kept _ d)

theorem setScannerWaiting_kept (b : Bool) : TableKept s (setScannerWaiting b s) := .of_frame (setScannerWaiting_frame s b)

theorem walkOnce_kept (d : Option Port) : TableKept s (walkOnce d s) := by
  unfold walkOnce
  split
  · exact setScannerWaiting_kept s true
  · exact completeCycle_kept s d

theorem beginCycle_kept : TableKept s (beginCycle s) :=
  setScan_kept s _ (by simp [Scanner.list]) (fun _ h => by cases h)

theorem walk_kept (d : Option Port) : TableKept s (walk d s) := by
  unfold walk
  split
  · split
    · exact setScannerWaiting_kept s true
    · simp only []
      split
      · exact ((completeCycle_kept s d).trans (beginCycle_kept _)).trans (walkOnce_kept _ d)
      · exact completeCycle_kept s d
  · exact .refl s

theorem startCycle_kept (d : Option Port) : TableKept s (startCycle d s) := (beginCycle_kept s).trans (walk_kept _ d)

theorem periodExpired_kept : TableKept s (periodExpired s) := by
  unfold periodExpired
  split
  · exact startCycle_kept s none
  · have h := setScan_kept s { s.scan with heldStart := true, periodTimer := none } rfl id
    simp only []
    split
    · exact h
    · exact (setScan_kept s { s.scan with heldStart := true, periodTimer := none, overrun := true } rfl id).trans
        (.of_frame (reportActivity_frame _ none _ _))

theorem passAll_kept : TableKept s (s.setScan (passAll s.scan)) :=
  setScan_kept s _ (by simp [passAll, Scanner.list]) (fun _ _ => rfl)

theorem passThrough_list (i : PointIx) (x : Scanner) : (passThrough i x).list = x.list := by
  simp [passThrough, Scanner.list]

theorem grantScanner_kept : TableKept s (grantScanner s) := by
  unfold grantScanner
  simp only []
  generalize examine s s.scan.ahead = x
  have h : TableKept s (x.unreadable.foldl (fun s i => takeSample none i (.failed .address) s) s) :=
    TableKept.foldl (fun s i => takeSample_kept s none i _) _ s
  generalize x.unreadable.foldl (fun s i => takeSample none i (.failed .address) s) s = u at h
  have ended : TableKept s (walk none (dropGrant (u.setScan (passAll u.scan)))) :=
    ((h.trans (passAll_kept u)).trans (.of_frame (dropGrant_frame _))).trans (walk_kept _ none)
  split
  · exact ended
  · split
    · exact ended
    · next t served _ =>
      refine (h.trans (setScan_kept u { passThrough (served.getLastD _) u.scan with
        inFlight := some (served.map fun i => ⟨i, false⟩) } (passThrough_list _ u.scan) fun hi hc => ?_)).trans
        (.of_frame (beginTransaction_frame _ t))
      have ha : u.scan.ahead = [] := hi hc
      simp [passThrough, ha]

theorem handOver_kept (t : Transaction) (e : ServedEntry) : TableKept s (handOver t s e) := by
  unfold handOver
  split
  · exact .refl s
  · split
    · exact .refl s
    · exact takeSample_kept s none _ _

theorem completeRead_kept (t : Transaction) : TableKept s (completeRead t s) := by
  have h1 : TableKept s (dropGrant (s.setBus { s.bus with ended := none })) :=
    (TableKept.of_frame (setBus_frame s _)).trans (.of_frame (dropGrant_frame _))
  have h2 := h1.trans (TableKept.foldl (fun s e => handOver_kept s t e) (s.scan.inFlight.getD []) _)
  have h3 : ∀ u : State, TableKept u (walk none (u.setScan { u.scan with inFlight := none })) := fun u =>
    (setScan_kept u { u.scan with inFlight := none } rfl id).trans (walk_kept _ none)
  exact h2.trans (h3 _)

theorem closeTenure_kept : TableKept s (closeTenure s) := by
  have h1 : TableKept s ((s.setBus { s.bus with ended := none }).setArb { s.arb with tenure := none, locked := .closed }) :=
    (TableKept.of_frame (setBus_frame s _)).trans (.of_frame (setArb_frame _ _))
  have h2 := h1.trans (setScan_kept _ { s.scan with inFlight := none } rfl id)
  exact (h2.trans (.of_frame (dropRunning_frame _))).trans (.of_frame (requestActuator_frame _))

theorem endTransaction_kept (t : Transaction) : TableKept s (endTransaction t s) := by
  unfold endTransaction
  simp only []
  split
  · exact (TableKept.of_frame (setBus_frame s _)).trans (closeTenure_kept _)
  · exact .of_frame (setBus_frame s _)

theorem endBeat_kept (t : Transaction) (b : Beat) (a e i : Bool) (x : Word16) : TableKept s (endBeat t b a e i x s) := by
  unfold endBeat
  split
  · exact endTransaction_kept s _
  · simp only []
    split
    · exact .of_frame (setBus_frame s _)
    · exact endTransaction_kept s _

/-! ## The unit's grants and completions -/

theorem takeFeedback_kept (d : Option Port) (i : ActIx) (x : Sample) : TableKept s (takeFeedback d i x s) := by
  unfold takeFeedback
  split
  · exact .refl s
  · exact takeSample_kept s d _ x

theorem finishExchange_kept (x : RunningItem) (o : WriteOutcome) (z : Sample) : TableKept s (finishExchange x o z s) := by
  have h1 : ChangesOnly [.arb, .acts] s ((setInFlight x.item.target .no (closeLocked s)).setRunning none) :=
    ((closeLocked_frame s).comp (setInFlight_frame _ _ _) (n := [.arb, .acts])).comp (setRunning_frame _ _)
  have h2 := (TableKept.of_frame h1).trans (.of_frame (takeExpiry_frame _ x.item.target))
  exact ((h2.trans (takeFeedback_kept _ _ _ _)).trans (.of_frame (respondItem_frame _ _ _))).trans
    (.of_frame (requestActuator_frame _))

theorem beginFeedback_kept (x : RunningItem) (o : WriteOutcome) : TableKept s (beginFeedback x o s) := by
  unfold beginFeedback
  split
  · exact .of_frame ((setRunning_frame s _).comp (beginTransaction_frame _ _) (n := [.acts, .bus]))
  · exact finishExchange_kept s x o _

theorem beginWrite_kept (x : RunningItem) (t : Transaction) : TableKept s (beginWrite x t s) := by
  have h : ChangesOnly [.acts, .arb, .bus] s (beginWrite x t s) := by
    unfold beginWrite
    simp only []
    refine ChangesOnly.comp (l := [.acts, .arb]) (m := [.bus]) ?_ (beginTransaction_frame _ _)
    split
    · exact ((setInFlight_frame s _ _).comp (setRunning_frame _ _) (n := [.acts, .arb])).comp (setArb_frame _ _)
    · exact (setInFlight_frame s _ _).comp (setRunning_frame _ _)
  exact .of_frame h

theorem failWrite_kept (x : RunningItem) : TableKept s (failWrite x s) :=
  (((TableKept.of_frame (dropGrant_frame s)).trans (.of_frame (writeOutcome_frame _ _ _ _ _ _))).trans
    (.of_frame (respondItem_frame _ _ _))).trans (.of_frame (requestActuator_frame _))

theorem failExchangeWrite_kept (x : RunningItem) : TableKept s (failExchangeWrite x s) :=
  ((TableKept.of_frame (writeOutcome_frame s _ _ _ _ _)).trans (.of_frame (setInFlight_frame _ _ _))).trans
    (beginFeedback_kept _ _ _)

theorem runItem_kept (w : WorkItem) (d : ActDescriptor) : TableKept s (runItem w d s) := by
  unfold runItem
  simp only []
  split
  · exact beginWrite_kept s _ _
  · split
    · exact failExchangeWrite_kept s _
    · exact failWrite_kept s _

theorem grantActuator_kept : TableKept s (grantActuator s) := by
  unfold grantActuator
  split
  · exact .of_frame (dropGrant_frame s)
  · simp only []
    split
    · exact ((TableKept.of_frame (setWorkList_frame s _)).trans (.of_frame (dropGrant_frame _))).trans
        (.of_frame (requestActuator_frame _))
    · exact (TableKept.of_frame (setWorkList_frame s _)).trans (runItem_kept _ _ _)

theorem grantDirect_kept (p : Port) : TableKept s (grantDirect p s) := by
  unfold grantDirect
  split
  · split
    · exact .of_frame (dropGrant_frame s)
    · split
      · exact .of_frame (beginTransaction_frame s _)
      · exact (TableKept.of_frame (dropGrant_frame s)).trans (.of_frame (respond_frame _ p _))
  · exact .of_frame (dropGrant_frame s)

theorem freeGrant_kept : TableKept s (freeGrant s) := by
  unfold freeGrant
  simp only []
  have h : TableKept s (takeExpiries s) := .of_frame (takeExpiries_frame s)
  split
  · exact h
  · next who _ =>
    refine (h.trans (.of_frame (setArb_frame _ (granted (takeExpiries s).arb who)))).trans ?_
    cases who with
    | actuatorUnit => exact grantActuator_kept _
    | direct p => exact grantDirect_kept _ p
    | scanner => exact grantScanner_kept _

theorem completeExchangeWrite_kept (t : Transaction) (x : RunningItem) : TableKept s (completeExchangeWrite t x s) :=
  ((TableKept.of_frame (setBus_frame s _)).trans (.of_frame (writeOutcome_frame _ _ _ _ _ _))).trans
    (.of_frame (setRunning_frame _ _))

theorem completeItemWrite_kept (t : Transaction) (x : RunningItem) : TableKept s (completeItemWrite t x s) := by
  have h : ChangesOnly [.bus, .arb, .acts] s
      ((setInFlight x.item.target .no (dropGrant (takeEnded s))).setRunning none) :=
    (((setBus_frame s _).comp (dropGrant_frame _) (n := [.bus, .arb, .acts])).comp (setInFlight_frame _ _ _)
      (n := [.bus, .arb, .acts])).comp (setRunning_frame _ _)
  exact ((((TableKept.of_frame h).trans (.of_frame (takeExpiry_frame _ x.item.target))).trans
    (.of_frame (writeOutcome_frame _ _ _ _ _ _))).trans (.of_frame (respondItem_frame _ _ _))).trans
    (.of_frame (requestActuator_frame _))

end Sys2Proof.Machine
end

section
/-! SUPPORT. The requests that define a point or change its descriptor, and every command, keep the Point Table sound. -/

set_option Elab.async false

namespace Sys2Proof.Machine

variable (s : State)

/-! ## The checks of a descriptor (R6, R8, R13) -/

/-- A tag is taken exactly where another defined point holds it (R6). -/
theorem tagTaken_iff {i : PointIx} {tag : Word32} :
    tagTaken s i tag = true ↔ ∃ j e, j ≠ i ∧ s.descOf j = some e ∧ e.tag = tag := by
  unfold tagTaken
  simp only [List.any_eq_true, pointIndices, List.mem_finRange, true_and, Bool.and_eq_true, decide_eq_true_eq]
  refine exists_congr fun j => ?_
  cases s.descOf j <;> simp

theorem descriptorValid_tag {i : PointIx} {d : Descriptor} (h : descriptorValid s i d = true) : d.tag ≠ 0 := by
  simp only [descriptorValid, Bool.and_eq_true, decide_eq_true_eq] at h
  obtain ⟨⟨⟨⟨⟨⟨h, -⟩, -⟩, -⟩, -⟩, -⟩, -⟩ := h
  exact h

/-- What SET LIMITS can give: the old descriptor with other limits, and its own kind (R13). -/
theorem limitsOf_some {old new : Descriptor} {b : List Byte} (h : limitsOf old b = some new) :
    new.isDiscrete = old.isDiscrete ∧ new = { old with
      persistence := new.persistence
      alarmPriority := new.alarmPriority
      urgentPriority := new.urgentPriority
      group := new.group
      routeMask := new.routeMask
      part := new.part } := by
  cases ho : old.part with
  | analog a =>
    simp only [limitsOf, ho, Option.bind_eq_bind, Option.pure_def, Option.bind_eq_some_iff, Option.some.injEq] at h
    obtain ⟨mask, -, part, hp, rfl⟩ := h
    exact ⟨by simp [Descriptor.isDiscrete, Descriptor.discrete?, ho, ← hp], rfl⟩
  | discrete x =>
    simp only [limitsOf, ho, Option.bind_eq_bind, Option.pure_def, Option.bind_eq_some_iff, Option.some.injEq,
      Option.map_eq_some_iff] at h
    obtain ⟨mask, -, part, ⟨g, -, hp⟩, rfl⟩ := h
    exact ⟨by simp [Descriptor.isDiscrete, Descriptor.discrete?, ho, ← hp], rfl⟩

/-! ## The entries that the requests leave -/

theorem removePointNotices_frame (i : PointIx) : ChangesOnly [.notices] s (removePointNotices i s) :=
  ((removeNotice_frame s _).comp (removeNotice_frame _ _) (n := [.notices])).comp (removeNotice_frame _ _)

/-- A flag that was set has the points gated by it re-evaluated; nothing else of the points changes (R33). -/
theorem regated_point (c : Prop) [Decidable c] (d : Option Port) (i j : PointIx) :
    (if c then reevaluateGated d i s else s).point j
      = if c ∧ gatedBy s i j = true then { s.point j with reportedAsserted := assertedActive s j } else s.point j := by
  by_cases h : c
  · simp [h, reevaluateGated_point]
  · simp [h]

/-- The entries after an accepted DEFINE POINT: the entry is DEFINED with the initial live record, and where its flag was set the
points that it gates report their activity (R11, R33). -/
theorem acceptDefine_point (d : Option Port) (i j : PointIx) (new : Descriptor) :
    (acceptDefine d i new s).point j
      = if (s.point i).live.asserted = true ∧ gatedBy (s.setPoint i ((s.point i).resetRecord (.defined new))) i j = true
        then { (s.setPoint i ((s.point i).resetRecord (.defined new))).point j with
          reportedAsserted := assertedActive (s.setPoint i ((s.point i).resetRecord (.defined new))) j }
        else (s.setPoint i ((s.point i).resetRecord (.defined new))).point j := by
  have hr : ChangesOnly [.notices] s (if (s.point i).desc.isSome then removePointNotices i s else s) := by
    split
    · exact removePointNotices_frame s i
    · exact .refl _ s
  unfold acceptDefine
  simp only []
  generalize (if (s.point i).desc.isSome then removePointNotices i s else s) = s1 at hr ⊢
  have hp : ∀ k, (settle d (s1.setPoint i ((s.point i).resetRecord (.defined new)))).point k
      = (s.setPoint i ((s.point i).resetRecord (.defined new))).point k := fun k => by
    rw [(settle_frame _ d).point, setPoint_point, setPoint_point, hr.point]
  rw [(handClock_frame _ _ d).point, regated_point, hp j,
    gatedBy_congr (descOf_congr (congrArg PointEntry.state (hp j))),
    assertedActive_congr (descOf_congr (congrArg PointEntry.state (hp j))) (by rw [hp]) fun k _ => by rw [hp]]

theorem acceptDefine_frame (d : Option Port) (i : PointIx) (new : Descriptor) :
    ChangesOnly [.points, .notices, .ports, .routes, .clock, .arb] s (acceptDefine d i new s) := by
  have hr : ChangesOnly [.notices] s (if (s.point i).desc.isSome then removePointNotices i s else s) := by
    split
    · exact removePointNotices_frame s i
    · exact .refl _ s
  unfold acceptDefine
  simp only []
  generalize (if (s.point i).desc.isSome then removePointNotices i s else s) = s1 at hr ⊢
  have h1 := (hr.comp (setPoint_frame s1 i ((s.point i).resetRecord (.defined new)))
    (n := reportBlocks)).comp (settle_frame _ d) (n := reportBlocks)
  generalize settle d (s1.setPoint i ((s.point i).resetRecord (.defined new))) = s2 at h1 ⊢
  have h2 : ChangesOnly reportBlocks s (if (s.point i).live.asserted then reevaluateGated d i s2 else s2) := by
    split
    · exact h1.comp (reevaluateGated_frame s2 d i)
    · exact h1
  generalize (if (s.point i).live.asserted then reevaluateGated d i s2 else s2) = s3 at h2 ⊢
  split
  · exact h2.comp (reevaluateClock_frame s3 d)
  · exact h2.mono

/-- The entry with other limits (R13). -/
def limitedEntry (e : PointEntry) (new : Descriptor) : PointEntry :=
  { e with state := e.state.withDesc new, live := { e.live with candidate := none, count := 0 } }

theorem acceptLimits_eq (d : Option Port) (i : PointIx) (old new : Descriptor) :
    acceptLimits d i old new s
      = if old.gate = new.gate then settle d (s.setPoint i (limitedEntry (s.point i) new))
        else reevaluateAsserted d (settle d (s.setPoint i (limitedEntry (s.point i) new))) i := rfl

/-- The entries after an accepted SET LIMITS: the entry has the new limits, and reports its activity where its gate changed (R13,
R14). -/
theorem acceptLimits_point (d : Option Port) (i j : PointIx) (old new : Descriptor) :
    (acceptLimits d i old new s).point j
      = if old.gate ≠ new.gate ∧ j = i
        then { limitedEntry (s.point i) new with
          reportedAsserted := assertedActive (s.setPoint i (limitedEntry (s.point i) new)) i }
        else (s.setPoint i (limitedEntry (s.point i) new)).point j := by
  have hf := settle_frame (s.setPoint i (limitedEntry (s.point i) new)) d
  rw [acceptLimits_eq]
  by_cases hg : old.gate = new.gate
  · simp [hg, hf.point j]
  · rw [if_neg hg, reevaluateAsserted_point, hf.point, hf.point,
      assertedActive_congr (hf.descOf i) (by rw [hf.point]) fun k _ => by rw [hf.point]]
    simp [hg]

theorem acceptLimits_frame (d : Option Port) (i : PointIx) (old new : Descriptor) :
    ChangesOnly reportBlocks s (acceptLimits d i old new s) := by
  have h := (setPoint_frame s i (limitedEntry (s.point i) new)).comp (settle_frame _ d) (n := reportBlocks)
  rw [acceptLimits_eq]
  split
  · exact h
  · exact h.comp (reevaluateAsserted_frame _ d i)

/-- The state after an accepted UNDEFINE POINT (R15). -/
def acceptUndefine (d : Option Port) (i : PointIx) (s : State) : State :=
  settle d ((removePointNotices i s).setPoint i ((s.point i).resetRecord .undefined))

theorem acceptUndefine_point (d : Option Port) (i j : PointIx) :
    (acceptUndefine d i s).point j = (s.setPoint i ((s.point i).resetRecord .undefined)).point j := by
  rw [acceptUndefine, (settle_frame _ d).point, setPoint_point, setPoint_point, (removePointNotices_frame s i).point]

theorem acceptUndefine_frame (d : Option Port) (i : PointIx) : ChangesOnly reportBlocks s (acceptUndefine d i s) :=
  ((removePointNotices_frame s i).comp (setPoint_frame _ i _) (n := reportBlocks)).comp (settle_frame _ d)

/-! ## They keep the table -/

/-- A reset entry reports what it is: inactive. Every point that it gates reports its activity anew, or saw the flag clear before. -/
theorem reset_reported {s t : State} {i : PointIx} {st : PointState} (h : AssertedReported s)
    (hp : ∀ j, t.point j
      = if (s.point i).live.asserted = true ∧ gatedBy (s.setPoint i ((s.point i).resetRecord st)) i j = true
        then { (s.setPoint i ((s.point i).resetRecord st)).point j with
          reportedAsserted := assertedActive (s.setPoint i ((s.point i).resetRecord st)) j }
        else (s.setPoint i ((s.point i).resetRecord st)).point j) : AssertedReported t := by
  have kept : ∀ j, (t.point j).state = ((s.setPoint i ((s.point i).resetRecord st)).point j).state
      ∧ (t.point j).live = ((s.setPoint i ((s.point i).resetRecord st)).point j).live := by
    intro j
    rw [hp]
    split <;> exact ⟨rfl, rfl⟩
  have active : ∀ j, assertedActive t j = assertedActive (s.setPoint i ((s.point i).resetRecord st)) j := fun j =>
    assertedActive_congr (descOf_congr (kept j).1) (by rw [(kept j).2]) fun k _ => by rw [(kept k).2]
  intro j
  rw [active, hp]
  split
  · rfl
  · next hc =>
    by_cases hj : j = i
    · subst hj
      rw [setPoint_point_self, assertedActive_of_clear _ (by simp [PointEntry.resetRecord, LiveRecord.initial])]
      rfl
    · have ne : ∀ k, k ≠ i → (s.setPoint i ((s.point i).resetRecord st)).point k = s.point k := fun k hk =>
        setPoint_point_ne s hk _
      rw [ne j hj, h j]
      refine (assertedActive_congr (descOf_congr (congrArg PointEntry.state (ne j hj))) (by rw [ne j hj]) ?_).symm
      intro k hk
      by_cases hki : k = i
      · subst hki
        rw [setPoint_point_self]
        have hg : gatedBy (s.setPoint k ((s.point k).resetRecord st)) k j = true := by
          rw [gatedBy_congr (descOf_congr (congrArg PointEntry.state (ne j hj)))]; exact hk
        have : (s.point k).live.asserted = false := by
          simpa [hg] using hc
        rw [this]
        rfl
      · rw [ne k hki]

/-- The tags stay unique where an entry takes a tag that is not 0 and that no other defined point holds (R6). -/
theorem tagsUnique_of_define {s t : State} {i : PointIx} {new : Descriptor} (h : TagsUnique s) (hi : t.descOf i = some new)
    (ho : ∀ j, j ≠ i → t.descOf j = s.descOf j) (h0 : new.tag ≠ 0) (ht : tagTaken s i new.tag = false) : TagsUnique t := by
  have free : ∀ j e, j ≠ i → s.descOf j = some e → e.tag ≠ new.tag := fun j e hj he heq => by
    rw [(tagTaken_iff s).2 ⟨j, e, hj, he, heq⟩] at ht
    cases ht
  intro k d hk
  by_cases hki : k = i
  · subst hki
    obtain rfl : new = d := by rw [hi] at hk; exact Option.some.inj hk
    refine ⟨h0, fun j e hj hte => ?_⟩
    by_contra hne
    exact free j e hne (by rw [← ho j hne]; exact hj) hte
  · rw [ho k hki] at hk
    obtain ⟨hd0, hu⟩ := h k d hk
    refine ⟨hd0, fun j e hj hte => ?_⟩
    by_cases hji : j = i
    · subst hji
      obtain rfl : new = e := by rw [hi] at hj; exact Option.some.inj hj
      exact absurd hte.symm (free k d hki hk)
    · exact hu j e (by rw [← ho j hji]; exact hj) hte

theorem acceptDefine_kept (d : Option Port) (i : PointIx) (new : Descriptor) (hs : (s.point i).isScanned = false)
    (h0 : new.tag ≠ 0) (ht : tagTaken s i new.tag = false) : TableKept s (acceptDefine d i new s) := by
  have state : ∀ j, ((acceptDefine d i new s).point j).state = if j = i then .defined new else (s.point j).state := by
    intro j
    rw [acceptDefine_point]
    split <;> simp only [setPoint_point] <;> split <;> rfl
  refine ⟨fun h => tagsUnique_of_define h ?_ (fun j hj => descOf_congr (by rw [state, if_neg hj])) h0 ht,
    fun h => h.congr ?_ (by rw [(acceptDefine_frame s d i new).scan]) (by rw [(acceptDefine_frame s d i new).scan]; exact id),
    fun h => reset_reported h fun j => acceptDefine_point s d i j new⟩
  · simp only [State.descOf, PointEntry.desc, state, if_true]
  · intro j
    by_cases hj : j = i
    · subst hj
      rw [hs]
      simp only [PointEntry.isScanned, state, if_true]
    · exact isScanned_congr (by rw [state, if_neg hj])

theorem acceptUndefine_kept (d : Option Port) (i : PointIx) (hs : (s.point i).isScanned = false) (hg : isGate s i = false) :
    TableKept s (acceptUndefine d i s) := by
  have state : ∀ j, ((acceptUndefine d i s).point j).state = if j = i then .undefined else (s.point j).state := by
    intro j
    rw [acceptUndefine_point, setPoint_point]
    split <;> rfl
  have hun : (acceptUndefine d i s).descOf i = none := by
    simp only [State.descOf, PointEntry.desc, state, if_true]
  have ho : ∀ j, j ≠ i → (acceptUndefine d i s).descOf j = s.descOf j := fun j hj => descOf_congr (by rw [state, if_neg hj])
  refine ⟨fun h k x hk => ?_,
    fun h => h.congr ?_ (by rw [(acceptUndefine_frame s d i).scan]) (by rw [(acceptUndefine_frame s d i).scan]; exact id),
    fun h => reset_reported (i := i) (st := .undefined) h fun j => ?_⟩
  · have sub : ∀ j e, (acceptUndefine d i s).descOf j = some e → s.descOf j = some e := fun j e hj => by
      by_cases hji : j = i
      · subst hji; rw [hun] at hj; cases hj
      · rw [← ho j hji]; exact hj
    obtain ⟨h0, hu⟩ := h k x (sub k x hk)
    exact ⟨h0, fun j e hj => hu j e (sub j e hj)⟩
  · intro j
    by_cases hj : j = i
    · subst hj
      rw [hs]
      simp only [PointEntry.isScanned, state, if_true]
    · exact isScanned_congr (by rw [state, if_neg hj])
  · have hgj : gatedBy (s.setPoint i ((s.point i).resetRecord .undefined)) i j = false := by
      by_cases hj : j = i
      · subst hj
        simp [gatedBy, State.descOf, PointEntry.desc, PointEntry.resetRecord]
      · exact (gatedBy_congr (descOf_congr (congrArg PointEntry.state (setPoint_point_ne s hj _)))).trans
          (not_gatedBy_of_not_isGate s hg j)
    rw [acceptUndefine_point, if_neg (by simp [hgj])]

/-- The activity of an entry under new limits and the same gate is what it was. -/
theorem assertedActive_limited (i j : PointIx) {old new : Descriptor} (hold : s.descOf i = some old)
    (hk : new.isDiscrete = old.isDiscrete) (h : j = i → old.gate = new.gate) :
    assertedActive (s.setPoint i (limitedEntry (s.point i) new)) j = assertedActive s j := by
  have flag : ∀ k, ((s.setPoint i (limitedEntry (s.point i) new)).point k).live.asserted = (s.point k).live.asserted := by
    intro k
    rw [setPoint_point]
    split
    · next e => subst e; rfl
    · rfl
  by_cases hj : j = i
  · subst hj
    have hnew : (s.setPoint j (limitedEntry (s.point j) new)).descOf j = some new := by
      simp only [State.descOf, PointEntry.desc] at hold
      simp only [State.descOf, setPoint_point_self, PointEntry.desc, limitedEntry]
      cases hst : (s.point j).state <;> simp_all [PointState.withDesc]
    simp only [assertedActive, hnew, hold, hk, flag, ← h rfl]
    rw [gateOpen_congr fun x _ => flag x.point]
  · exact assertedActive_congr (descOf_congr (by rw [setPoint_point_ne s hj])) (flag j) fun k _ => flag k

theorem acceptLimits_descOf (d : Option Port) (i : PointIx) {old new : Descriptor} (hold : s.descOf i = some old) :
    (acceptLimits d i old new s).descOf i = some new := by
  have hst : ((acceptLimits d i old new s).point i).state = (s.point i).state.withDesc new := by
    rw [acceptLimits_point]
    split
    · rfl
    · rw [setPoint_point_self]; rfl
  simp only [State.descOf, PointEntry.desc] at hold
  simp only [State.descOf, PointEntry.desc, hst]
  cases h : (s.point i).state <;> simp_all [PointState.withDesc]

theorem acceptLimits_isScanned (d : Option Port) (i : PointIx) (old new : Descriptor) :
    ((acceptLimits d i old new s).point i).isScanned = (s.point i).isScanned := by
  have hst : ((acceptLimits d i old new s).point i).state = (s.point i).state.withDesc new := by
    rw [acceptLimits_point]
    split
    · rfl
    · rw [setPoint_point_self]; rfl
  simp only [PointEntry.isScanned, hst]
  cases (s.point i).state <;> rfl

theorem acceptLimits_others (d : Option Port) {i j : PointIx} (old new : Descriptor) (hj : j ≠ i) :
    (acceptLimits d i old new s).point j = s.point j := by
  rw [acceptLimits_point, if_neg (by simp [hj]), setPoint_point_ne s hj]

theorem acceptLimits_active (d : Option Port) (i j : PointIx) (old new : Descriptor) :
    assertedActive (acceptLimits d i old new s) j = assertedActive (s.setPoint i (limitedEntry (s.point i) new)) j := by
  have kept : ∀ k, ((acceptLimits d i old new s).point k).state
        = ((s.setPoint i (limitedEntry (s.point i) new)).point k).state
      ∧ ((acceptLimits d i old new s).point k).live = ((s.setPoint i (limitedEntry (s.point i) new)).point k).live := by
    intro k
    rw [acceptLimits_point]
    split
    · next h => rw [h.2, setPoint_point_self]; exact ⟨rfl, rfl⟩
    · exact ⟨rfl, rfl⟩
  exact assertedActive_congr (descOf_congr (kept j).1) (by rw [(kept j).2]) fun k _ => by rw [(kept k).2]

theorem acceptLimits_kept (d : Option Port) (i : PointIx) {old new : Descriptor} {b : List Byte}
    (hold : s.descOf i = some old) (hl : limitsOf old b = some new) : TableKept s (acceptLimits d i old new s) := by
  obtain ⟨hk, hnew⟩ := limitsOf_some hl
  have htag : new.tag = old.tag := by rw [hnew]
  have desc : ∀ j e, (acceptLimits d i old new s).descOf j = some e → ∃ e', s.descOf j = some e' ∧ e'.tag = e.tag := by
    intro j e he
    by_cases hj : j = i
    · subst hj
      rw [acceptLimits_descOf s d j hold] at he
      cases he
      exact ⟨old, hold, htag.symm⟩
    · exact ⟨e, by rw [← he]; exact (descOf_congr (by rw [acceptLimits_others s d old new hj])).symm, rfl⟩
  refine ⟨fun h k x hx => ?_, fun h => h.congr (fun j => ?_) (by rw [(acceptLimits_frame s d i old new).scan])
    (by rw [(acceptLimits_frame s d i old new).scan]; exact id), fun h j => ?_⟩
  · obtain ⟨x', hx', hxt⟩ := desc k x hx
    obtain ⟨h0, hu⟩ := h k x' hx'
    refine ⟨hxt ▸ h0, fun j e he het => ?_⟩
    obtain ⟨e', he', het'⟩ := desc j e he
    exact hu j e' he' (by rw [het', het, hxt])
  · by_cases hj : j = i
    · subst hj; exact acceptLimits_isScanned s d j old new
    · rw [acceptLimits_others s d old new hj]
  · rw [acceptLimits_active]
    by_cases hc : old.gate ≠ new.gate ∧ j = i
    · rw [acceptLimits_point, if_pos hc, hc.2]
    · rw [acceptLimits_point, if_neg hc,
        assertedActive_limited s i j hold hk (fun e => by by_contra hg; exact hc ⟨hg, e⟩), ← h j, setPoint_point]
      split
      · next e => subst e; rfl
      · rfl

end Sys2Proof.Machine
end

section
/-! SUPPORT. The requests of the Point Table and of the Scanner, the resets and the passing of time keep the Point Table sound. -/

set_option Elab.async false

namespace Sys2Proof.Machine

variable (s : State)

/-! ## Requests that change the Point Table or the scan list -/

theorem event_kept {e : Bool} {f : State → State} {s t : State} (h : event e f s = .next t) (hf : TableKept s (f s)) :
    TableKept s t := by
  rcases event_cases h with rfl | ⟨-, -, rfl⟩
  · exact .refl _
  · exact hf.trans (.of_frame (decideHreq_frame _))

theorem serve_kept {p : Port} {accept : Request → Bool} {f : Option Port → Request → State → Served} {s t : State}
    (h : serve p accept f s = .next t) (hf : ∀ d req s, TableKept s (f d req s).1) : TableKept s t := by
  rcases serve_cases h with rfl | ⟨req, -, -, rfl⟩
  · exact .refl _
  · exact (((TableKept.of_frame (takeHead_frame s p)).trans (hf _ req _)).trans (.of_frame (finishService_frame p _))).trans
      (.of_frame (decideHreq_frame _))

theorem serveDefinePoint_kept (d : Option Port) (req : Request) : TableKept s (serveDefinePoint d req s).1 := by
  unfold serveDefinePoint
  simp only []
  split
  · exact .refl s
  · next hu =>
    split
    · exact .refl s
    · split
      · exact .refl s
      · next hv =>
        split
        · exact .refl s
        · next ht =>
          simp only [Bool.or_eq_true, Bool.not_eq_true', not_or, Bool.not_eq_false] at hv
          refine acceptDefine_kept s d _ _ ?_ (descriptorValid_tag s hv.1) (by simpa using ht)
          cases hst : (s.point (pointIxOf (byteAt req.body 0))).state with
          | undefined => simp [PointEntry.isScanned, hst]
          | defined _ => simp [PointEntry.isScanned, hst]
          | scanned _ => simp [defineInUse, hst] at hu

theorem serveSetLimits_kept (d : Option Port) (req : Request) : TableKept s (serveSetLimits d req s).1 := by
  unfold serveSetLimits
  simp only []
  split
  · exact .refl s
  · next old hold =>
    split
    · exact .refl s
    · next new hnew =>
      split
      · exact acceptLimits_kept s d _ hold hnew
      · exact .refl s

theorem serveUndefinePoint_kept (d : Option Port) (req : Request) : TableKept s (serveUndefinePoint d req s).1 := by
  unfold serveUndefinePoint
  simp only []
  split
  · exact .refl s
  · split
    · exact .refl s
    · next hu =>
      simp only [undefineInUse, Bool.or_eq_true, not_or, Bool.not_eq_true] at hu
      obtain ⟨⟨⟨⟨hs, hg⟩, -⟩, -⟩, -⟩ := hu
      simp only [answer_fst]
      exact acceptUndefine_kept s d _ hs hg

theorem serveForcePoint_kept (p : Port) (d : Option Port) (req : Request) : TableKept s (serveForcePoint p d req s).1 := by
  unfold serveForcePoint
  simp only []
  repeat' split
  · exact .refl s
  · exact .refl s
  · exact .refl s
  · exact commitLive_kept s d _ _

theorem serveUnforcePoint_kept (p : Port) (d : Option Port) (req : Request) :
    TableKept s (serveUnforcePoint p d req s).1 := by
  unfold serveUnforcePoint
  simp only []
  split
  · exact .refl s
  · split
    · exact .refl s
    · simp only [answer_fst]
      split
      · exact commitLive_kept s d _ _
      · exact .refl s

theorem serveClearAsserted_kept (p : Port) (d : Option Port) (req : Request) :
    TableKept s (serveClearAsserted p d req s).1 := by
  unfold serveClearAsserted
  simp only []
  repeat' split
  · exact .refl s
  · exact .refl s
  · exact .refl s
  · exact commitLive_kept s d _ _

theorem serveStartScan_kept (d : Option Port) (req : Request) : TableKept s (serveStartScan d req s).1 := by
  unfold serveStartScan
  simp only [scanAnswer]
  repeat' split
  · exact .refl s
  · exact (setScan_kept s { s.scan with scanState := .running } rfl id).trans (startCycle_kept _ d)
  · exact setScan_kept s { s.scan with scanState := .running, heldStart := true } rfl id

theorem serveStopScan_kept (d : Option Port) (req : Request) : TableKept s (serveStopScan d req s).1 := by
  have h := setScan_kept s { s.scan with scanState := .stopped, periodTimer := none, heldStart := false } rfl id
  unfold serveStopScan
  simp only [scanAnswer]
  split
  · exact .refl s
  · simp only [answer_fst]
    split
    · exact h.trans (endOverrun_kept _ d)
    · exact h

theorem serveSetScanPeriod_kept (d : Option Port) (req : Request) : TableKept s (serveSetScanPeriod d req s).1 :=
  setScan_kept s { s.scan with period := clampPeriod (word16At req.body 0).toNat } rfl id

/-! ## The scan list -/

theorem appendScan_mem (i j : PointIx) (x : Scanner) : j ∈ (appendScan i x).list ↔ j ∈ x.list ∨ j = i := by
  unfold appendScan
  cases x.cycleState <;> simp [Scanner.list, or_comm, or_left_comm]

theorem appendScan_nodup (i : PointIx) (x : Scanner) (h : x.list.Nodup) (hi : i ∉ x.list) : (appendScan i x).list.Nodup := by
  have hp : (appendScan i x).list.Perm (i :: x.list) := by
    unfold appendScan
    cases x.cycleState
    · simp only [Scanner.list, List.append_assoc, List.singleton_append]
      exact List.perm_middle
    · simp only [Scanner.list, ← List.append_assoc]
      exact List.perm_append_singleton i _
  exact hp.nodup_iff.2 (List.nodup_cons.2 ⟨hi, h⟩)

theorem removeScan_list (i : PointIx) (x : Scanner) : (removeScan i x).list = x.list.filter (fun j => decide (j ≠ i)) := by
  simp [removeScan, Scanner.list]

/-- The state that an accepted SCAN ADD leaves before the walk goes on (R56). -/
def scanAdded (i : PointIx) (d : Descriptor) (s : State) : State :=
  (s.setPoint i { s.point i with state := .scanned d, scanMark := true }).setScan (appendScan i s.scan)

/-- The state that an accepted SCAN REMOVE leaves (R36, R57). -/
def scanRemoved (i : PointIx) (d : Descriptor) (s : State) : State :=
  (s.setPoint i { s.point i with state := .defined d, live := leftLive (s.point i).live }).setScan (removeScan i s.scan)

/-- Two entries that hold the same descriptor, flag and reported activity. -/
theorem table_of_desc {s t : State} (hd : ∀ j, t.descOf j = s.descOf j)
    (hp : ∀ j, (t.point j).live.asserted = (s.point j).live.asserted
      ∧ (t.point j).reportedAsserted = (s.point j).reportedAsserted) :
    (TagsUnique s → TagsUnique t) ∧ (AssertedReported s → AssertedReported t) := by
  refine ⟨fun h => h.congr hd, fun h j => ?_⟩
  rw [(hp j).2, h j]
  exact (assertedActive_congr (hd j) (hp j).1 fun k _ => (hp k).1).symm

theorem scanAdded_kept (i : PointIx) (d : Descriptor) (hs : (s.point i).state = .defined d) :
    TableKept s (scanAdded i d s) := by
  have point : ∀ j, (scanAdded i d s).point j
      = if j = i then { s.point i with state := .scanned d, scanMark := true } else s.point j := fun j => setPoint_point s i j _
  obtain ⟨ht, ha⟩ := table_of_desc (s := s) (t := scanAdded i d s)
    (fun j => by
      by_cases hj : j = i
      · subst hj; simp [State.descOf, PointEntry.desc, point, hs]
      · simp [State.descOf, point, hj])
    (fun j => by
      rw [point]
      split
      · next e => subst e; exact ⟨rfl, rfl⟩
      · exact ⟨rfl, rfl⟩)
  refine ⟨ht, fun ⟨hn, hm, hi⟩ => ⟨?_, fun j => ?_, fun hc => ?_⟩, ha⟩
  · refine appendScan_nodup i s.scan hn fun hmem => ?_
    have := (hm i).1 hmem
    simp [PointEntry.isScanned, hs] at this
  · refine (appendScan_mem i j s.scan).trans ?_
    rw [hm, point]
    split
    · next e => subst e; simp [PointEntry.isScanned]
    · next e => simp [e]
  · change (appendScan i s.scan).cycleState = .idle at hc
    show (appendScan i s.scan).ahead = []
    unfold appendScan at hc ⊢
    cases hcs : s.scan.cycleState with
    | idle => simpa only [hcs] using hi hcs
    | walking => simp [hcs] at hc

theorem scanRemoved_kept (i : PointIx) (d : Descriptor) (hs : (s.point i).state = .scanned d) :
    TableKept s (scanRemoved i d s) := by
  have point : ∀ j, (scanRemoved i d s).point j
      = if j = i then { s.point i with state := .defined d, live := leftLive (s.point i).live } else s.point j :=
    fun j => setPoint_point s i j _
  have flag : (leftLive (s.point i).live).asserted = (s.point i).live.asserted := by
    unfold leftLive
    split <;> rfl
  obtain ⟨ht, ha⟩ := table_of_desc (s := s) (t := scanRemoved i d s)
    (fun j => by
      by_cases hj : j = i
      · subst hj; simp [State.descOf, PointEntry.desc, point, hs]
      · simp [State.descOf, point, hj])
    (fun j => by
      rw [point]
      split
      · next e => subst e; exact ⟨flag, rfl⟩
      · exact ⟨rfl, rfl⟩)
  refine ⟨ht, fun ⟨hn, hm, hi⟩ => ⟨?_, fun j => ?_, fun hc => ?_⟩, ha⟩
  · show (removeScan i s.scan).list.Nodup
    rw [removeScan_list]
    exact hn.filter _
  · show j ∈ (removeScan i s.scan).list ↔ _
    rw [removeScan_list, List.mem_filter, hm, point]
    split
    · next e => subst e; simp [PointEntry.isScanned]
    · next e => simp [e]
  · have := hi hc
    simp [scanRemoved, removeScan, this]

theorem serveScanAdd_kept (d : Option Port) (req : Request) : TableKept s (serveScanAdd d req s).1 := by
  unfold serveScanAdd
  simp only []
  split
  · exact .refl s
  · exact .refl s
  · next desc hs => exact (scanAdded_kept s _ desc hs).trans (walk_kept _ d)

theorem serveScanRemove_kept (d : Option Port) (req : Request) : TableKept s (serveScanRemove d req s).1 := by
  unfold serveScanRemove
  simp only []
  split
  · exact .refl s
  · exact .refl s
  · next desc hs => exact scanRemoved_kept s _ desc hs

/-! ## Resets and the passing of time -/

/-- With every entry UNDEFINED or with a clear flag and inactive as reported, the reported activities are the points' own. -/
theorem assertedReported_of_clear {t : State}
    (h : ∀ i, (t.point i).live.asserted = false ∧ (t.point i).reportedAsserted = false) : AssertedReported t := fun i => by
  rw [(h i).2, assertedActive_of_clear t (h i).1]

theorem reset_point (i : PointIx) : State.reset.point i = PointEntry.initial := by
  simp [State.point, State.reset, Vector.get_eq_getElem]

theorem reset_tables : TagsUnique State.reset ∧ ScanListSound State.reset ∧ AssertedReported State.reset := by
  refine ⟨fun i d h => ?_, ⟨?_, fun i => ?_, fun _ => rfl⟩, assertedReported_of_clear fun i => ?_⟩
  · simp [State.descOf, reset_point, PointEntry.initial, PointEntry.desc] at h
  · simp [State.reset, Scanner.initial, Scanner.list]
  · rw [reset_point]
    simp [State.reset, Scanner.initial, Scanner.list, PointEntry.initial, PointEntry.isScanned]
  · rw [reset_point]
    exact ⟨rfl, rfl⟩

theorem powerOnReset_kept {s t : State} (h : execPowerOnReset s = .next t) : TableKept s t := by
  injection h with h
  obtain ⟨h1, h2, h3⟩ := reset_tables
  have hk : TableKept State.reset t := h ▸ .of_scan rfl rfl id
  exact ⟨fun _ => hk.tags h1, fun _ => hk.list h2, fun _ => hk.asserted h3⟩

theorem porRelease_kept {a b : Bool} {s t : State} (h : execPorRelease a b s = .next t) : TableKept s t := by
  unfold execPorRelease at h
  split at h
  · injection h with h
    exact h ▸ .of_scan rfl rfl id
  · injection h with h
    exact h ▸ .refl s

theorem beginRestart_kept (p : Port) : TableKept s (beginRestart p s) := by
  have h1 : TableKept s (abandonCycle s) := (setScannerWaiting_kept s false).trans (setScan_kept _ _ rfl id)
  have h2 := ((h1.trans (.of_frame (setWorkList_frame _ []))).trans
    (.of_frame (setArb_frame _ (arbiterRestart ((abandonCycle s).setWorkList []).arb)))).trans
    (.of_frame (setRestart_frame _ (.running p)))
  unfold beginRestart
  simp only []
  split
  · exact h2
  · exact h2.trans (closeTenure_kept _)

theorem restartPorts_frame (p : Port) : ChangesOnly [.ports, .routes] s (restartPorts p s) := by
  intro b hb; cases b <;> simp_all [Block.same, restartPorts]

theorem restartNotices_frame : ChangesOnly [.notices, .clock] s (restartNotices s) := by
  intro b hb; cases b <;> simp_all [Block.same, restartNotices]

theorem restartActuators_frame : ChangesOnly [.arb, .acts] s (restartActuators s) := by
  have h : ChangesOnly [.acts] s
      { s with acts := { s.acts with entries := s.acts.entries.map restartEntry, running := none } } := by
    intro b hb; cases b <;> simp_all [Block.same]
  unfold restartActuators
  simp only []
  generalize ({ s with acts := { s.acts with entries := s.acts.entries.map restartEntry, running := none } } : State) = u at h ⊢
  exact h.comp (ChangesOnly.foldl (fun s i => applyPolicy_frame s (nextMoment u) i) actIndices u)

theorem restartLink_frame : ChangesOnly [.link, .notices, .ports, .routes] s (restartLink s) := by
  unfold restartLink
  simp only []
  split
  · exact (setLink_frame s _).comp (reportActivity_frame _ none _ _)
  · exact (setLink_frame s _).mono

theorem restartPoints_point (i : PointIx) : (restartPoints s).point i = (s.point i).resetRecord (s.point i).state := by
  simp [State.point, restartPoints, Vector.get_eq_getElem]

theorem restartPoints_kept : TableKept s (restartPoints s) :=
  .of_states rfl (fun i => by rw [restartPoints_point]; rfl) fun _ => assertedReported_of_clear fun i => by
    rw [restartPoints_point]; exact ⟨rfl, rfl⟩

/-- Step 7 before the start of cycle 0: the cycle number and the uptime are 0 and the walk stands at the end of the list. -/
def restartedScan (s : State) : State :=
  { s with
    uptime := 0
    scan := { s.scan with
      cycleNumber := 0
      cycleState := .idle
      passed := s.scan.list
      ahead := []
      inFlight := none } }

theorem restartScan_eq : restartScan s
    = if s.scan.scanState = .running then startCycle none (restartedScan s) else restartedScan s := rfl

theorem restartScan_kept : TableKept s (restartScan s) := by
  have h : TableKept s (restartedScan s) :=
    .of_scan rfl (by simp [restartedScan, Scanner.list]) (fun _ _ => rfl)
  rw [restartScan_eq]
  split
  · exact h.trans (startCycle_kept _ none)
  · exact h

theorem finishRestart_kept (p : Port) : TableKept s (finishRestart p s) :=
  (((((((TableKept.of_frame (restartPorts_frame s p)).trans (.of_frame (restartNotices_frame _))).trans
    (.of_frame (restartActuators_frame _))).trans (.of_frame (restartLink_frame _))).trans (restartPoints_kept _)).trans
    (restartScan_kept _)).trans (.of_frame (restartClock_frame _))).trans (.of_frame (setRestart_frame _ _))

theorem idleStep_kept : TableKept s (idleStep s) := by
  unfold idleStep
  split
  · exact .refl s
  · exact .of_scan rfl rfl id

end Sys2Proof.Machine
end

section
/-! PROOFS. Every command and every step keep the Point Table sound (O59). -/

set_option Elab.async false

namespace Sys2Proof.Machine

variable (s : State)

/-! ## Every command -/

/-- An event that changes neither the points nor the Scanner. -/
theorem event_kept_of_frame {l : List Block} {e : Bool} {f : State → State} {s t : State} (h : event e f s = .next t)
    (hf : ChangesOnly l s (f s)) (hp : Block.points ∉ l := by decide) (hs : Block.scan ∉ l := by decide) : TableKept s t :=
  event_kept h (.of_frame hf hp hs)

/-- A request row whose service changes neither the points nor the Scanner. -/
theorem serve_kept_of_frame {l : List Block} {p : Port} {accept : Request → Bool}
    {f : Option Port → Request → State → Served} {s t : State} (h : serve p accept f s = .next t)
    (hf : ∀ d req s, ChangesOnly l s (f d req s).1) (hp : Block.points ∉ l := by decide)
    (hs : Block.scan ∉ l := by decide) : TableKept s t :=
  serve_kept h fun d req s => .of_frame (hf d req s) hp hs

/-- A request row whose service changes nothing. -/
theorem serve_kept_of_read {p : Port} {accept : Request → Bool} {f : Option Port → Request → State → Served} {s t : State}
    (h : serve p accept f s = .next t) (hf : ∀ d req s, (f d req s).1 = s) : TableKept s t :=
  serve_kept h fun d req s => by rw [hf]; exact .refl s

theorem serveReadPoint_fst (d : Option Port) (req : Request) : (serveReadPoint d req s).1 = s := by
  unfold serveReadPoint
  simp only []
  split <;> rfl

theorem serveReadPoints_fst (d : Option Port) (req : Request) : (serveReadPoints d req s).1 = s := by
  unfold serveReadPoints
  simp only []
  split <;> rfl

theorem serveFindTag_fst (d : Option Port) (req : Request) : (serveFindTag d req s).1 = s := by
  unfold serveFindTag
  split <;> rfl

theorem execBeatEnd_kept {clock : Nat} {a e i : Bool} {x : Word16} {s t : State}
    (h : execBeatEnd clock a e i x s = .next t) : TableKept s t := by
  unfold execBeatEnd at h
  split at h
  · exact event_kept h (.refl s)
  · split at h
    · exact event_kept h (.refl s)
    · exact event_kept h (endBeat_kept s _ _ _ _ _ _)

theorem execReservedGrant_kept {s t : State} (h : execReservedGrant s = .next t) : TableKept s t := by
  unfold execReservedGrant at h
  split at h
  · exact event_kept h (.refl s)
  · exact event_kept h ((TableKept.of_frame (setArb_frame s _)).trans (beginFeedback_kept _ _ _))

theorem execReadCompletion_kept {s t : State} (h : execReadCompletion s = .next t) : TableKept s t := by
  unfold execReadCompletion at h
  split at h
  · exact event_kept h (.refl s)
  · exact event_kept h (completeRead_kept s _)

theorem execActuatorWriteCompletion_kept {s t : State} (h : execActuatorWriteCompletion s = .next t) : TableKept s t := by
  unfold execActuatorWriteCompletion at h
  split at h
  · exact event_kept h (.refl s)
  · refine event_kept h ?_
    split
    · exact completeExchangeWrite_kept s _ _
    · exact completeItemWrite_kept s _ _

theorem execExchangeReadCompletion_kept {s t : State} (h : execExchangeReadCompletion s = .next t) : TableKept s t := by
  unfold execExchangeReadCompletion at h
  split at h
  · exact event_kept h (.refl s)
  · exact event_kept h ((TableKept.of_frame (setBus_frame s _)).trans (finishExchange_kept _ _ _ _))

theorem execDirectTransferCompletion_kept {s t : State} (h : execDirectTransferCompletion s = .next t) : TableKept s t := by
  unfold execDirectTransferCompletion at h
  split at h
  · exact event_kept h (.refl s)
  · split at h
    · exact event_kept_of_frame h (completeDirect_frame s _ _)
    · exact event_kept h (.refl s)

theorem execSupervisionRestart_kept {s t : State} (h : execSupervisionRestart s = .next t) : TableKept s t := by
  unfold execSupervisionRestart at h
  split at h
  · exact event_kept h (beginRestart_kept s _)
  · exact event_kept h (.refl s)

theorem execSupervisionRestartSteps_kept {s t : State} (h : execSupervisionRestartSteps s = .next t) : TableKept s t := by
  unfold execSupervisionRestartSteps at h
  split at h
  · exact event_kept h (finishRestart_kept s _)
  · exact event_kept h (.refl s)

theorem execLeaseExpiry_kept {i : Nat} {s t : State} (h : execLeaseExpiry i s = .next t) : TableKept s t := by
  unfold execLeaseExpiry at h
  split at h
  · exact event_kept_of_frame h (takeExpiry_frame s _)
  · exact event_kept h (.refl s)

theorem execRefreshTimerExpiry_kept {i : Nat} {s t : State} (h : execRefreshTimerExpiry i s = .next t) : TableKept s t := by
  unfold execRefreshTimerExpiry at h
  split at h
  · exact event_kept h ((TableKept.of_frame (restartRefresh_frame s _)).trans (.of_frame (queueRefresh_frame _ _)))
  · exact event_kept h (.refl s)

theorem execReferralTimeout_kept {k : Nat} {s t : State} (h : execReferralTimeout k s = .next t) : TableKept s t := by
  unfold execReferralTimeout at h
  split at h
  · exact event_kept_of_frame h (answerNoAnswer_frame s _)
  · exact event_kept h (.refl s)

theorem releaseChipSelect_frame (mosi : List Byte) (fill : Nat) :
    ChangesOnly [.link, .notices, .ports, .routes] s (releaseChipSelect mosi fill s) := by
  unfold releaseChipSelect
  simp only []
  repeat' split
  · exact (setPort_frame s .hut _).mono
  · exact (setPort_frame s .hut _).comp (checkFrame_frame _ .hut _)
  · exact (setPort_frame s .hut _).mono

theorem secondTick_frame : ChangesOnly [.acts, .uptime] s { s with
    uptime := s.uptime + 1
    acts := { s.acts with entries := s.acts.entries.map tickEntry, moments := tickMoments s.acts.moments } } := by
  intro b hb; cases b <;> simp_all [Block.same]

theorem execBusRecoveryEnd_frame {s t : State} (h : execBusRecoveryEnd s = .next t) : ChangesOnly [.bus, .hreq] s t := by
  unfold execBusRecoveryEnd at h
  exact event_frame h (setBus_frame s _)

theorem execHandoverBegin_frame {s t : State} (h : execHandoverBegin s = .next t) : ChangesOnly [.clock, .hreq] s t := by
  unfold execHandoverBegin at h
  exact event_frame h (setClock_frame s _)

theorem execSecondTick_frame {s t : State} (h : execSecondTick s = .next t) : ChangesOnly [.acts, .uptime, .hreq] s t := by
  unfold execSecondTick at h
  exact event_frame h (secondTick_frame s)

theorem execPulseTimerExpiry_frame {s t : State} (h : execPulseTimerExpiry s = .next t) :
    ChangesOnly [.link, .hreq] s t := by
  unfold execPulseTimerExpiry at h
  exact event_frame h (setLink_frame s _)

theorem execSilenceTimerExpiry_frame {s t : State} (h : execSilenceTimerExpiry s = .next t) :
    ChangesOnly [.link, .notices, .ports, .routes, .hreq] s t := by
  unfold execSilenceTimerExpiry at h
  exact event_frame h ((setLink_frame s _).comp (reportActivity_frame _ none _ true) (n := [.link, .notices, .ports, .routes]))

/-- Every command keeps the Point Table sound. -/
theorem exec_kept {c : Instr} {s t : State} (h : exec c s = .next t) : TableKept s t := by
  cases c with
  | powerOnReset => exact powerOnReset_kept h
  | porRelease a b => exact porRelease_kept h
  | routeFrameComplete r b => exact event_kept_of_frame h (takeByte_frame s _ _)
  | interByteTimeout r => exact event_kept_of_frame h (setReceiver_frame s _ _)
  | framingError r => exact event_kept_of_frame h (setReceiver_frame s _ _)
  | chipSelectRelease m n => exact event_kept_of_frame h (releaseChipSelect_frame s m n)
  | linkTimeout r => exact event_kept_of_frame h (linkDown_frame s r)
  | frameSent p => exact event_kept_of_frame h (sendHead_frame s p)
  | definePoint p => exact serve_kept h fun d req s => serveDefinePoint_kept s d req
  | setLimits p => exact serve_kept h fun d req s => serveSetLimits_kept s d req
  | undefinePoint p => exact serve_kept h fun d req s => serveUndefinePoint_kept s d req
  | readPoint p => exact serve_kept_of_read h fun d req s => serveReadPoint_fst s d req
  | readPoints p => exact serve_kept_of_read h fun d req s => serveReadPoints_fst s d req
  | findTag p => exact serve_kept_of_read h fun d req s => serveFindTag_fst s d req
  | forcePoint p => exact serve_kept h fun d req s => serveForcePoint_kept s p d req
  | unforcePoint p => exact serve_kept h fun d req s => serveUnforcePoint_kept s p d req
  | clearAsserted p => exact serve_kept h fun d req s => serveClearAsserted_kept s p d req
  | startScan => exact serve_kept h fun d req s => serveStartScan_kept s d req
  | stopScan => exact serve_kept h fun d req s => serveStopScan_kept s d req
  | setScanPeriod p => exact serve_kept h fun d req s => serveSetScanPeriod_kept s d req
  | scanAdd p => exact serve_kept h fun d req s => serveScanAdd_kept s d req
  | scanRemove p => exact serve_kept h fun d req s => serveScanRemove_kept s d req
  | readScanList p => exact serve_kept_of_read h fun _ _ _ => rfl
  | setModuleClass p => exact serve_kept_of_frame h fun d req s => serveSetModuleClass_frame s d req
  | assignModuleClass p => exact serve_kept_of_frame h fun d req s => serveAssignModuleClass_frame s d req
  | readModuleClasses p => exact serve_kept_of_read h fun _ _ _ => rfl
  | readModule p => exact serve_kept_of_frame h fun d req s => serveDirect_frame s p d req
  | writeModule p => exact serve_kept_of_frame h fun d req s => serveDirect_frame s p d req
  | setEconomy => exact serve_kept_of_frame h fun d req s => serveSetEconomy_frame s d req
  | ackNotice p => exact serve_kept_of_frame h fun d req s => serveAckNotice_frame s p d req
  | post p => exact serve_kept_of_frame h fun d req s => servePost_frame s p d req
  | unpost p => exact serve_kept_of_frame h fun d req s => serveUnpost_frame s p d req
  | setGroupThreshold p => exact serve_kept_of_frame h fun d req s => serveSetGroupThreshold_frame s d req
  | fetchNotice p => exact serve_kept_of_frame h fun d req s => serveFetchNotice_frame s p d req
  | fetchNoticeIdentity p => exact serve_kept_of_read h fun d req s => serveFetchNoticeIdentity_fst s p d req
  | setLevel p => exact serve_kept_of_frame h fun d req s => serveSetLevel_frame s p d req
  | readSummary p => exact serve_kept_of_frame h fun d req s => serveReadSummary_frame s p d req
  | defineActuator p => exact serve_kept_of_frame h fun d req s => serveDefineActuator_frame s d req
  | undefineActuator p => exact serve_kept_of_frame h fun d req s => serveUndefineActuator_frame s d req
  | readActuator p => exact serve_kept_of_frame h fun d req s => serveReadActuator_frame s d req
  | claim p => exact serve_kept_of_frame h fun d req s => serveClaim_frame s p d req
  | release p => exact serve_kept_of_frame h fun d req s => serveRelease_frame s p d req
  | command p => exact serve_kept_of_frame h fun d req s => serveCommand_frame s p d req
  | exchange p => exact serve_kept_of_frame h fun d req s => serveExchange_frame s p d req
  | takeReferral => exact serve_kept_of_frame h fun d req s => serveTakeReferral_frame s d req
  | answerReferral => exact serve_kept_of_frame h fun d req s => serveAnswerReferral_frame s d req
  | referral r => exact serve_kept_of_frame h fun d req s => serveReferral_frame s r d req
  | restartHutController r => exact serve_kept_of_frame h fun d req s => serveRestartHut_frame s r d req
  | setPermissions => exact serve_kept_of_frame h fun d req s => serveSetPermissions_frame s d req
  | setSitePoints => exact serve_kept_of_frame h fun d req s => serveSetSitePoints_frame s d req
  | identify p => exact serve_kept_of_read h fun _ _ _ => rfl
  | restartSupervision p => exact serve_kept_of_read h fun _ _ _ => rfl
  | supervisionRestart => exact execSupervisionRestart_kept h
  | supervisionRestartSteps => exact execSupervisionRestartSteps_kept h
  | freeGrant => exact event_kept h (freeGrant_kept s)
  | reservedGrant => exact execReservedGrant_kept h
  | beatEnd c a e i x => exact execBeatEnd_kept h
  | busRecoveryEnd => exact .of_frame (execBusRecoveryEnd_frame h)
  | readCompletion => exact execReadCompletion_kept h
  | periodTimerExpiry => exact event_kept h (periodExpired_kept s)
  | handoverBegin => exact .of_frame (execHandoverBegin_frame h)
  | handoverEnd => exact event_kept_of_frame h (enterClock_frame s)
  | actuatorWriteCompletion => exact execActuatorWriteCompletion_kept h
  | exchangeReadCompletion => exact execExchangeReadCompletion_kept h
  | directTransferCompletion => exact execDirectTransferCompletion_kept h
  | secondTick => exact .of_frame (execSecondTick_frame h)
  | leaseExpiry i => exact execLeaseExpiry_kept h
  | refreshTimerExpiry i => exact execRefreshTimerExpiry_kept h
  | referralTimeout k => exact execReferralTimeout_kept h
  | pulseTimerExpiry => exact .of_frame (execPulseTimerExpiry_frame h)
  | silenceTimerExpiry => exact .of_frame (execSilenceTimerExpiry_frame h)
  | rxdByte r b => exact event_kept_of_frame h (takeByte_frame s _ _)

theorem step_kept {s t : State} (h : step s = .next t) : TableKept s t := by
  unfold step at h
  split at h
  · injection h with h
    exact h ▸ idleStep_kept s
  · next c rest _ =>
    have hq : TableKept s { s with pending := rest } := .of_scan rfl rfl id
    exact hq.trans (exec_kept h)

/-- Settles O59: every command keeps each of the three invariants, and so does the passing of a millisecond. -/
theorem pointTableStaysSound : Obligations.PointTableStaysSound := fun _ _ h =>
  ⟨(step_kept h).tags, (step_kept h).list, (step_kept h).asserted⟩

end Sys2Proof.Machine
end

section
/-! PROOFS. The state after reset meets every invariant (O3), and what POWER_ON_RESET sets (O4). -/

set_option Elab.async false

namespace Sys2Proof.Machine

/-! ## The tables after reset -/

theorem get_replicate {α : Type} {n : Nat} (a : α) (i : Fin n) : (Vector.replicate n a).get i = a := by
  simp [Vector.get_eq_getElem]

theorem reset_actuator (i : ActIx) : State.reset.actuator i = ActuatorEntry.initial := get_replicate _ i

theorem reset_slot (k : ReferralIx) : State.reset.slot k = .free := get_replicate _ k

theorem reset_port (p : Port) : State.reset.port p = PortState.initial := by cases p <;> rfl

theorem reset_route (r : RoutePort) : State.reset.route r = RouteState.initial := by cases r <;> rfl

theorem reset_topPriority (p : Port) : topPriority State.reset p = 0 := rfl

theorem reset_hreqWanted : hreqWanted State.reset = false := by
  simp [hreqWanted, reset_port, reset_slot, PortState.initial, ReferralSlot.isUntaken]

/-- Settles O3: after reset the queues, tables and lists are empty, nothing is held, in flight or asserted, and the walk stands at
the end of the empty list. -/
theorem resetMeetsInvariants : Obligations.ResetMeetsInvariants := by
  obtain ⟨htags, hlist, hasserted⟩ := reset_tables
  have hclaims : ClaimsSound State.reset := fun i => by
    rw [reset_actuator]
    exact ⟨Nat.zero_le _, rfl⟩
  have hsite : SiteLocalSound State.reset := fun h => by cases h
  have hbus : BusSound State.reset := ⟨fun h => (by cases h), fun h => (by cases h)⟩
  have harb : ArbiterSound State.reset := ⟨fun _ => rfl, Nat.zero_le _, fun _ => Nat.zero_le _, .refl _⟩
  have hpulse : PulseSound State.reset := ⟨rfl, rfl, fun h => by cases h⟩
  have hitems : ItemsHeld State.reset :=
    ⟨fun _ hw => (by cases hw), fun _ => Nat.zero_le _, fun _ _ hx => (by cases hx), fun _ hq => (by cases hq)⟩
  refine ⟨fun p => ?_, ⟨Nat.zero_le _, List.nodup_nil⟩, reset_hreqWanted.symm, fun p => ?_, hclaims, hsite, hbus, harb, hpulse,
    htags, hlist, hasserted, hitems⟩
  · rw [reset_port]
    exact ⟨Nat.zero_le _, Nat.zero_le _⟩
  · rw [reset_port, reset_topPriority]
    rfl

/-- Settles O4: POWER_ON_RESET leaves the state after reset with POR asserted and the queue of commands as it was; each clause reads
one piece of that state. -/
theorem powerOnResetSetsInitialValues : Obligations.PowerOnResetSetsInitialValues := by
  intro s
  refine ⟨{ State.reset with por := true, pending := s.pending }, rfl, rfl, rfl, reset_point, rfl, rfl, rfl, get_replicate _,
    get_replicate _, rfl, rfl, rfl, rfl, rfl, rfl, rfl, rfl, rfl, rfl, get_replicate _, get_replicate _, reset_port, reset_route,
    rfl, reset_actuator, rfl, rfl, rfl, rfl, get_replicate _, reset_slot, rfl, rfl, rfl, rfl, rfl, rfl, rfl, rfl⟩

end Sys2Proof.Machine
end

section
/-! PROOFS. What READ POINT, READ POINTS and FIND TAG answer (O12), and the order in which the requests of the Point Table are
refused (O13). -/

set_option Elab.async false

namespace Sys2Proof.Machine

variable {s : State} {p : Port} {req : Request} {i : PointIx}

/-! ## Checks that the taking of a request leaves alone -/

@[simp] theorem takeHead_defineInUse (s : State) (p : Port) (i : PointIx) (b : Bool) :
    defineInUse (takeHead p s) i b = defineInUse s i b := by
  unfold takeHead
  split <;> rfl

@[simp] theorem takeHead_descriptorValid (s : State) (p : Port) (i : PointIx) (d : Descriptor) :
    descriptorValid (takeHead p s) i d = descriptorValid s i d := by
  unfold takeHead
  split <;> rfl

@[simp] theorem takeHead_addressValid (s : State) (p : Port) (d : Descriptor) :
    addressValid (takeHead p s) d = addressable (s.classOf d.modAddr).width d.width d.offset := by
  unfold takeHead
  split <;> rfl

@[simp] theorem takeHead_tagTaken (s : State) (p : Port) (i : PointIx) (t : Word32) :
    tagTaken (takeHead p s) i t = tagTaken s i t := by
  unfold takeHead
  split <;> rfl

@[simp] theorem takeHead_undefineInUse (s : State) (p : Port) (i : PointIx) :
    undefineInUse (takeHead p s) i = undefineInUse s i := by
  unfold takeHead
  split <;> rfl

@[simp] theorem takeHead_findTag (s : State) (p : Port) (t : Word32) : findTag (takeHead p s) t = findTag s t := by
  unfold takeHead
  split <;> rfl

@[simp] theorem takeHead_shortRecords (s : State) (p : Port) (m n : Nat) :
    shortRecords (takeHead p s) m n = shortRecords s m n := by
  unfold takeHead
  split <;> rfl

/-! ## Reads -/

/-- The indices from a start, in ascending order, are the bytes from it. -/
theorem indices_from (start count : Nat) (h : start + count ≤ 256) :
    pointIndices.filter (fun i => decide (start ≤ i.val) && decide (i.val < start + count))
      = (List.range count).map fun k => pointIxOf (natByte (start + k)) := by
  have val : ∀ k, k < count → (pointIxOf (natByte (start + k))).val = start + k := fun k hk => by
    simp only [pointIxOf, natByte, BitVec.toNat_ofNat]
    omega
  refine List.Pairwise.eq_of_mem_iff (r := (· < ·)) ((List.pairwise_lt_finRange 256).filter _) ?_ fun i => ?_
  · rw [List.pairwise_map]
    refine List.pairwise_lt_range.imp_of_mem fun {a b} ha hb hab => ?_
    rw [List.mem_range] at ha hb
    rw [Fin.lt_def, val a ha, val b hb]
    omega
  · simp only [pointIndices, List.mem_filter, List.mem_finRange, true_and, Bool.and_eq_true, decide_eq_true_eq, List.mem_map,
      List.mem_range]
    refine ⟨fun ⟨h1, h2⟩ => ⟨i.val - start, by omega, Fin.ext ?_⟩, ?_⟩
    · rw [val _ (by omega)]
      omega
    · rintro ⟨k, hk, rfl⟩
      rw [val k hk]
      omega

theorem shortRecords_eq (s : State) (start count : Nat) (h : start + count ≤ 256) :
    shortRecords s start count = (List.range count).flatMap fun k =>
      shortRecord (pointIxOf (natByte (start + k))) (s.point (pointIxOf (natByte (start + k)))) := by
  rw [shortRecords, indices_from start count h, List.flatMap_map]

/-- With unique tags the table finds the one point that holds a tag (R6, R7). -/
theorem findTag_some {d : Descriptor} (hu : TagsUnique s) (hi : s.descOf i = some d) : findTag s d.tag = some i := by
  obtain ⟨h0, huniq⟩ := hu i d hi
  unfold findTag
  rw [if_neg h0]
  cases hf : pointIndices.find? (fun j => match s.descOf j with
    | none => false
    | some e => decide (e.tag = d.tag)) with
  | none =>
    have := List.find?_eq_none.1 hf i (by simp [pointIndices])
    simp [hi] at this
  | some j =>
    have hj := List.find?_some hf
    cases he : s.descOf j with
    | none => simp [he] at hj
    | some e =>
      simp only [he, decide_eq_true_eq] at hj
      rw [huniq j e he hj]

/-- No point is found for tag 0 or for a tag that no defined point holds (R7). -/
theorem findTag_none {tag : Word32} (h : tag = 0 ∨ ∀ i d, s.descOf i = some d → d.tag ≠ tag) : findTag s tag = none := by
  unfold findTag
  split
  · rfl
  · next h0 =>
    refine List.find?_eq_none.2 fun j _ => ?_
    cases hj : s.descOf j with
    | none => simp
    | some e => simpa using h.resolve_left h0 j e hj

theorem serveReadPoint_defined (s : State) (d : Option Port) {x : Descriptor}
    (h : s.descOf (pointIxOf (byteAt req.body 0)) = some x) :
    serveReadPoint d req s = (s, some ⟨.ok, (s.point (pointIxOf (byteAt req.body 0))).state.code :: (descriptorBytes x
      ++ liveBytes x (s.point (pointIxOf (byteAt req.body 0))).live)⟩) := by
  have hd : (s.point (pointIxOf (byteAt req.body 0))).desc = some x := h
  simp only [serveReadPoint, hd, answer, List.cons_append]

theorem serveReadPoint_undefined (s : State) (d : Option Port) (h : s.descOf (pointIxOf (byteAt req.body 0)) = none) :
    serveReadPoint d req s = (s, some ⟨.ok, [0]⟩) := by
  have hd : (s.point (pointIxOf (byteAt req.body 0))).desc = none := h
  have hc : (s.point (pointIxOf (byteAt req.body 0))).state.code = 0 := by
    unfold PointEntry.desc at hd
    split at hd
    · next hs => rw [hs]; rfl
    · cases hd
    · cases hd
  simp only [serveReadPoint, hd, hc, answer]

/-- Settles O12, from what the table gives each of the three requests. -/
theorem pointReadsAnswer : Obligations.PointReadsAnswer := by
  intro p s req
  refine ⟨fun h => ⟨fun d hd => ?_, fun hd => ?_⟩, ?_, ?_⟩
  · refine answersOnly_of_kind h (by decide) rfl ?_
    rw [serveReadPoint_defined (takeHead p s) (some p) (x := d) (by simpa using hd), takeHead_point]
  · exact answersOnly_of_kind h (by decide) rfl (serveReadPoint_undefined (takeHead p s) (some p) (by simpa using hd))
  · rintro h start count rfl rfl
    refine ⟨fun hc => ?_, fun h1 h2 h3 => ?_⟩
    · refine answersOnly_of_kind h (by decide) rfl ?_
      unfold serveReadPoints
      rw [if_pos (by omega)]
      rfl
    · refine answersOnly_of_kind h (by decide) rfl ?_
      unfold serveReadPoints
      simp only [takeHead_shortRecords]
      rw [if_neg (by omega), shortRecords_eq s _ _ h3]
      rfl
  · rintro h tag rfl
    refine ⟨fun i d hu hi ht => ?_, fun hn => ?_⟩
    · refine answersOnly_of_kind h (by decide) rfl ?_
      simp only [serveFindTag, takeHead_findTag, ← ht, findTag_some hu hi, takeHead_point]
      rfl
    · refine answersOnly_of_kind h (by decide) rfl ?_
      simp only [serveFindTag, takeHead_findTag, findTag_none hn]
      rfl

/-! ## Causes of refusal -/

/-- When a DEFINE POINT is refused with IN_USE (R11, R12). -/
theorem defineInUse_iff {disc : Bool} : defineInUse s i disc = true ↔ (s.point i).isScanned = true
    ∨ (s.descOf i).isSome = true ∧ (disc = false ∧ (IsGateOf s i ∨ s.siteLocal = some i)
      ∨ disc = true ∧ s.economyTrigger = some i ∨ feedbackHeld s i = true) := by
  unfold defineInUse
  cases h : (s.point i).state with
  | undefined => simp [PointEntry.isScanned, State.descOf, PointEntry.desc, h]
  | scanned d => simp [PointEntry.isScanned, h]
  | defined d =>
    simp only [PointEntry.isScanned, State.descOf, PointEntry.desc, h, Bool.or_eq_true, Bool.and_eq_true, Bool.not_eq_true',
      decide_eq_true_eq, isGate_iff, Option.isSome_some, true_and, Bool.false_eq_true, false_or]
    tauto

/-- When some defined actuator names a point as its feedback point. -/
theorem isFeedback_iff : isFeedback s i = true ↔ ∃ a d, (s.actuator a).desc = some d ∧ d.feedback = some i := by
  unfold isFeedback
  simp only [List.any_eq_true, actIndices, List.mem_finRange, true_and]
  refine exists_congr fun a => ?_
  cases (s.actuator a).desc <;> simp

/-- When an UNDEFINE POINT is refused with IN_USE (R15). -/
theorem undefineInUse_iff : undefineInUse s i = true ↔ (s.point i).isScanned = true ∨ IsGateOf s i ∨ s.siteLocal = some i
    ∨ s.economyTrigger = some i ∨ ∃ a d, (s.actuator a).desc = some d ∧ d.feedback = some i := by
  simp only [undefineInUse, Bool.or_eq_true, isGate_iff, decide_eq_true_eq, isFeedback_iff, or_assoc]

theorem maskAdmits_eq_false {d : Descriptor} (hp : p ≠ .hut) (hm : d.routeMask.get p = false) : maskAdmits p d = false := by
  simp [maskAdmits, hp, hm]

theorem maskAdmits_eq_true {d : Descriptor} (h : p = .hut ∨ d.routeMask.get p = true) : maskAdmits p d = true := by
  simpa [maskAdmits] using h

theorem int16At_drop_one (b : List Byte) : int16At (b.drop 1) 0 = int16At b 1 := by
  cases b <;> rfl

/-! ### DEFINE POINT -/

section define
variable {b : List Byte}

theorem definePoint_refused_inUse (h : Asked .definePoint p s req) (hi : pointIxOf (byteAt req.body 0) = i)
    (hb : req.body.drop 1 = b) (hu : defineInUse s i (namesDiscrete b) = true) :
    AnswersOnly (.definePoint p) p req .inUse [] s := by
  refine answersOnly_of_kind h (by decide) rfl ?_
  simp [serveDefinePoint, hi, hb, hu, refuse, bare]

theorem definePoint_refused_noDescriptor (h : Asked .definePoint p s req) (hi : pointIxOf (byteAt req.body 0) = i)
    (hb : req.body.drop 1 = b) (hu : defineInUse s i (namesDiscrete b) = false) (hd : descriptorOf b = none) :
    AnswersOnly (.definePoint p) p req .badLimits [] s := by
  refine answersOnly_of_kind h (by decide) rfl ?_
  simp [serveDefinePoint, hi, hb, hu, hd, refuse, bare]

theorem definePoint_refused_badLimits {d : Descriptor} (h : Asked .definePoint p s req) (hi : pointIxOf (byteAt req.body 0) = i)
    (hb : req.body.drop 1 = b) (hu : defineInUse s i (namesDiscrete b) = false) (hd : descriptorOf b = some d)
    (hv : descriptorValid s i d = false ∨ addressable (s.classOf d.modAddr).width d.width d.offset = false) :
    AnswersOnly (.definePoint p) p req .badLimits [] s := by
  refine answersOnly_of_kind h (by decide) rfl ?_
  simp [serveDefinePoint, hi, hb, hu, hd, hv, refuse, bare]

theorem definePoint_refused_duplicateTag {d : Descriptor} (h : Asked .definePoint p s req)
    (hi : pointIxOf (byteAt req.body 0) = i) (hb : req.body.drop 1 = b) (hu : defineInUse s i (namesDiscrete b) = false)
    (hd : descriptorOf b = some d) (hv : descriptorValid s i d = true)
    (ha : addressable (s.classOf d.modAddr).width d.width d.offset = true) (ht : tagTaken s i d.tag = true) :
    AnswersOnly (.definePoint p) p req .duplicateTag [] s := by
  refine answersOnly_of_kind h (by decide) rfl ?_
  simp [serveDefinePoint, hi, hb, hu, hd, hv, ha, ht, refuse, bare]

end define

/-! ### The other requests -/

theorem setLimits_refused_badLimits {old : Descriptor} {b : List Byte} (h : Asked .setLimits p s req)
    (hi : pointIxOf (byteAt req.body 0) = i) (hb : req.body.drop 1 = b) (hold : s.descOf i = some old)
    (hl : limitsOf old b = none ∨ ∃ d, limitsOf old b = some d ∧ descriptorValid s i d = false) :
    AnswersOnly (.setLimits p) p req .badLimits [] s := by
  refine answersOnly_of_kind h (by decide) rfl ?_
  rcases hl with hl | ⟨d, hl, hv⟩
  · simp [serveSetLimits, hi, hb, hold, hl, refuse, bare]
  · simp [serveSetLimits, hi, hb, hold, hl, hv, refuse, bare]

/-- A request that names an UNDEFINED entry changes nothing and is answered NOT_DEFINED (R10, check 1). -/
theorem refused_notDefined (d : Option Port) (hi : pointIxOf (byteAt req.body 0) = i) (hn : s.descOf i = none) :
    serveSetLimits d req s = (s, some (bare .notDefined)) ∧ serveUndefinePoint d req s = (s, some (bare .notDefined))
      ∧ serveForcePoint p d req s = (s, some (bare .notDefined)) ∧ serveUnforcePoint p d req s = (s, some (bare .notDefined))
      ∧ serveClearAsserted p d req s = (s, some (bare .notDefined)) := by
  simp [serveSetLimits, serveUndefinePoint, serveForcePoint, serveUnforcePoint, serveClearAsserted, hi, hn, refuse]

/-- A route port outside a point's mask is refused PORT_PROTECTED by the three requests on its live record (R10, check 2). -/
theorem refused_portProtected (x : Option Port) {d : Descriptor} (hi : pointIxOf (byteAt req.body 0) = i)
    (hd : s.descOf i = some d) (hp : p ≠ .hut) (hm : d.routeMask.get p = false) :
    serveForcePoint p x req s = (s, some (bare .portProtected)) ∧ serveUnforcePoint p x req s = (s, some (bare .portProtected))
      ∧ serveClearAsserted p x req s = (s, some (bare .portProtected)) := by
  simp [serveForcePoint, serveUnforcePoint, serveClearAsserted, hi, hd, maskAdmits_eq_false hp hm, refuse]

theorem undefinePoint_refused_inUse (h : Asked .undefinePoint p s req) (hi : pointIxOf (byteAt req.body 0) = i)
    (hs : (s.descOf i).isSome = true) (hu : undefineInUse s i = true) : AnswersOnly (.undefinePoint p) p req .inUse [] s := by
  obtain ⟨d, hd⟩ := Option.isSome_iff_exists.1 hs
  refine answersOnly_of_kind h (by decide) rfl ?_
  simp [serveUndefinePoint, hi, hd, hu, refuse, bare]

theorem forcePoint_refused_outOfRange {d : Descriptor} (h : Asked .forcePoint p s req)
    (hi : pointIxOf (byteAt req.body 0) = i) (hd : s.descOf i = some d) (hm : p = .hut ∨ d.routeMask.get p = true)
    (hk : d.isDiscrete = true) (h0 : int16At req.body 1 ≠ 0) (h1 : int16At req.body 1 ≠ 1) :
    AnswersOnly (.forcePoint p) p req .outOfRange [] s := by
  refine answersOnly_of_kind h (by decide) rfl ?_
  simp [serveForcePoint, hi, hd, maskAdmits_eq_true hm, forceInRange, hk, h0, h1, refuse, bare]

theorem clearAsserted_refused_badLimits {d : Descriptor} (h : Asked .clearAsserted p s req)
    (hi : pointIxOf (byteAt req.body 0) = i) (hd : s.descOf i = some d) (hm : p = .hut ∨ d.routeMask.get p = true)
    (hs : isSticky d = false) : AnswersOnly (.clearAsserted p) p req .badLimits [] s := by
  refine answersOnly_of_kind h (by decide) rfl ?_
  simp [serveClearAsserted, hi, hd, maskAdmits_eq_true hm, hs, refuse, bare]

/-- Settles O13, request by request in the order of its checks. -/
theorem pointRequestsRefusedInOrder : Obligations.PointRequestsRefusedInOrder := by
  intro p s req i b hi hb
  have absent : s.descOf i = none → (takeHead p s).descOf i = none := fun h => by rw [takeHead_descOf, h]
  have present : ∀ {d}, s.descOf i = some d → (takeHead p s).descOf i = some d := fun h => by rw [takeHead_descOf, h]
  refine ⟨fun h => ⟨fun hu => ?_, fun hu => ⟨fun hd => ?_, fun d hd => ⟨fun hv => ?_, fun hv ha ht => ?_⟩⟩⟩,
    fun h => ⟨fun hn => ?_, fun old hold hl => setLimits_refused_badLimits h hi hb hold hl⟩,
    fun h => ⟨fun hn => ?_, fun hs hu => undefinePoint_refused_inUse h hi hs (undefineInUse_iff.2 hu)⟩,
    fun h => ⟨fun hn => ?_, fun d hd => ⟨fun hp hm => ?_, fun hm hk h0 h1 => ?_⟩⟩,
    fun h => ⟨fun hn => ?_, fun d hd hp hm => ?_⟩,
    fun h => ⟨fun hn => ?_, fun d hd => ⟨fun hp hm => ?_, fun hm hs => clearAsserted_refused_badLimits h hi hd hm hs⟩⟩⟩
  · exact definePoint_refused_inUse h hi hb (defineInUse_iff.2 hu)
  · exact definePoint_refused_noDescriptor h hi hb hu hd
  · exact definePoint_refused_badLimits h hi hb hu hd hv
  · exact definePoint_refused_duplicateTag h hi hb hu hd hv ha ((tagTaken_iff s).2 ht)
  · obtain ⟨hr, -⟩ := refused_notDefined (p := p) (some p) hi (absent hn)
    exact answersOnly_of_kind h (by decide) rfl hr
  · obtain ⟨-, hr, -⟩ := refused_notDefined (p := p) (some p) hi (absent hn)
    exact answersOnly_of_kind h (by decide) rfl hr
  · obtain ⟨-, -, hr, -⟩ := refused_notDefined (some p) hi (absent hn)
    exact answersOnly_of_kind h (by decide) rfl hr
  · obtain ⟨hr, -⟩ := refused_portProtected (some p) hi (present hd) hp hm
    exact answersOnly_of_kind h (by decide) rfl hr
  · rw [← hb, int16At_drop_one] at h0 h1
    exact forcePoint_refused_outOfRange h hi hd hm hk h0 h1
  · obtain ⟨-, -, -, hr, -⟩ := refused_notDefined (some p) hi (absent hn)
    exact answersOnly_of_kind h (by decide) rfl hr
  · obtain ⟨-, hr, -⟩ := refused_portProtected (some p) hi (present hd) hp hm
    exact answersOnly_of_kind h (by decide) rfl hr
  · obtain ⟨-, -, -, -, hr⟩ := refused_notDefined (some p) hi (absent hn)
    exact answersOnly_of_kind h (by decide) rfl hr
  · obtain ⟨-, -, hr⟩ := refused_portProtected (some p) hi (present hd) hp hm
    exact answersOnly_of_kind h (by decide) rfl hr

end Sys2Proof.Machine
end

section
/-! SUPPORT. What Notice Delivery does for the operations on points, which identities a report touches, and what a served request
leaves of the levels and of the points. -/

set_option Elab.async false

namespace Sys2Proof.Machine

variable (s : State)

/-! ## Delivery (R124) -/

theorem reevaluateAsserted_delivers (d : Option Port) (i : PointIx) : Delivers d s (reevaluateAsserted d s i) := by
  unfold reevaluateAsserted
  split
  · exact .refl s d
  · exact (Delivers.of_frame (setReportedAsserted_frame s i _)).trans (reportActivity_delivers _ d _ _)

theorem reevaluateGated_delivers (d : Option Port) (i : PointIx) : Delivers d s (reevaluateGated d i s) :=
  Delivers.foldl (fun s i => reevaluateAsserted_delivers s d i) _ s

theorem reportAsserted_delivers (d : Option Port) (i : PointIx) (a b : Bool) : Delivers d s (reportAsserted d i a b s) := by
  unfold reportAsserted
  split
  · exact .refl s d
  · exact (reevaluateAsserted_delivers s d i).trans (reevaluateGated_delivers _ d i)

theorem reportFailed_delivers (d : Option Port) (i : PointIx) (a b : Quality) : Delivers d s (reportFailed d i a b s) := by
  unfold reportFailed
  repeat' split
  · exact report_delivers s d _ _
  · exact report_delivers s d _ _
  · exact .refl s d

theorem reportBand_delivers (d : Option Port) (i : PointIx) (a b : Band) : Delivers d s (reportBand d i a b s) := by
  unfold reportBand
  split
  · exact .refl s d
  · split
    · exact report_delivers s d _ _
    · exact report_delivers s d _ _
    · exact report_delivers s d _ _

theorem reportEconomy_delivers (d : Option Port) (a : Bool) : Delivers d s (reportEconomy d a s) := by
  unfold reportEconomy
  split
  · exact .refl s d
  · exact (Delivers.of_frame (setClock_frame s _)).trans (reportActivity_delivers _ d _ _)

theorem actOnWanted_delivers (d : Option Port) : Delivers d s (actOnWanted d s) := by
  unfold actOnWanted
  split
  · exact .of_frame (beginSwitch_frame s _)
  · exact (Delivers.of_frame (beginSwitch_frame s _)).trans (reportEconomy_delivers _ d _)
  · exact .of_frame (abandonSwitch_frame s _)
  · exact (Delivers.of_frame (abandonSwitch_frame s _)).trans (reportEconomy_delivers _ d _)
  · exact .refl s d

theorem reevaluateClock_delivers (d : Option Port) : Delivers d s (reevaluateClock d s) := by
  unfold reevaluateClock
  split
  · exact .refl s d
  · exact (Delivers.of_frame (setClock_frame s _)).trans (actOnWanted_delivers _ d)

/-- An update that is made only under a condition delivers what it delivers. -/
theorem Delivers.ite {c : Prop} [Decidable c] {d : Option Port} {s t u : State} (h : Delivers d s t) (k : Delivers d t u) :
    Delivers d s (if c then u else t) := by
  split
  · exact h.trans k
  · exact h

theorem acceptDefine_delivers (d : Option Port) (i : PointIx) (new : Descriptor) : Delivers d s (acceptDefine d i new s) := by
  have h1 := Delivers.ite (c := (s.point i).desc.isSome = true) (Delivers.refl s d)
    (Delivers.of_frame (removePointNotices_frame s i))
  have h2 := (h1.trans (.of_frame (setPoint_frame _ i ((s.point i).resetRecord (.defined new))))).trans (settle_delivers _ d)
  have h3 := Delivers.ite (c := (s.point i).live.asserted = true) h2 (reevaluateGated_delivers _ d i)
  exact Delivers.ite h3 (reevaluateClock_delivers _ d)

theorem acceptLimits_delivers (d : Option Port) (i : PointIx) (old new : Descriptor) :
    Delivers d s (acceptLimits d i old new s) := by
  have h := (Delivers.of_frame (d := d) (setPoint_frame s i (limitedEntry (s.point i) new))).trans (settle_delivers _ d)
  rw [acceptLimits_eq]
  split
  · exact h
  · exact h.trans (reevaluateAsserted_delivers _ d i)

theorem acceptUndefine_delivers (d : Option Port) (i : PointIx) : Delivers d s (acceptUndefine d i s) :=
  ((Delivers.of_frame (removePointNotices_frame s i)).trans (.of_frame (setPoint_frame _ i _))).trans (settle_delivers _ d)

/-! ## Which identities have entries -/

/-- Every entry of t holds an identity of a set, or one that an entry of s holds. -/
def IdsWithin (ids : NoticeId → Prop) (s t : State) : Prop :=
  ∀ n ∈ t.notices.entries, ids n.id ∨ ∃ m ∈ s.notices.entries, m.id = n.id

variable {ids : NoticeId → Prop}

theorem IdsWithin.refl : IdsWithin ids s s := fun n hn => .inr ⟨n, hn, rfl⟩

theorem IdsWithin.trans {s t u : State} (h : IdsWithin ids s t) (k : IdsWithin ids t u) : IdsWithin ids s u := by
  intro n hn
  rcases k n hn with h1 | ⟨m, hm, he⟩
  · exact .inl h1
  · rw [← he]
    exact h m hm

theorem IdsWithin.of_notices {s t : State} (h : t.notices = s.notices) : IdsWithin ids s t := fun n hn =>
  .inr ⟨n, h ▸ hn, rfl⟩

theorem IdsWithin.foldl {α : Type} {f : State → α → State} (l : List α) (h : ∀ s, ∀ a ∈ l, IdsWithin ids s (f s a)) (s : State) :
    IdsWithin ids s (l.foldl f s) := by
  induction l generalizing s with
  | nil => exact .refl s
  | cons a l ih =>
    exact (h s a List.mem_cons_self).trans (ih (fun s b hb => h s b (List.mem_cons_of_mem _ hb)) (f s a))

theorem updateNotice_ids {id : NoticeId} {f : Notice → Notice} (hf : ∀ n, (f n).id = n.id) :
    IdsWithin ids s (updateNotice id f s) := by
  intro n hn
  simp only [updateNotice, setEntries_notices, List.mem_map] at hn
  obtain ⟨m, hm, rfl⟩ := hn
  refine .inr ⟨m, hm, ?_⟩
  split
  · exact (hf m).symm
  · rfl

theorem removeNotice_ids (id : NoticeId) : IdsWithin ids s (removeNotice id s) := by
  intro n hn
  simp only [removeNotice, setEntries_notices, List.mem_filter] at hn
  exact .inr ⟨n, hn.1, rfl⟩

theorem insertNotice_ids {n : Notice} (h : ids n.id) : IdsWithin ids s (insertNotice n s) := by
  unfold insertNotice
  split
  · intro m hm
    simp only [setEntries_notices, List.mem_append, List.mem_singleton] at hm
    rcases hm with hm | rfl
    · exact .inr ⟨m, hm, rfl⟩
    · exact .inl h
  · split
    · intro m hm
      exact .inr ⟨m, hm, rfl⟩
    · intro m hm
      simp only [setEntries_notices, List.mem_map] at hm
      obtain ⟨k, hk, rfl⟩ := hm
      split
      · exact .inl h
      · exact .inr ⟨k, hk, rfl⟩

theorem enterNotice_ids {id : NoticeId} (h : ids id) (v : Option Severity) : IdsWithin ids s (enterNotice id v s) := by
  unfold enterNotice
  split
  · exact .refl s
  · exact insertNotice_ids s h

theorem reraiseNotice_ids (id : NoticeId) (v : Option Severity) : IdsWithin ids s (reraiseNotice id v s) := by
  unfold reraiseNotice
  split
  · exact removeNotice_ids s id
  · exact updateNotice_ids s fun _ => rfl

theorem changeNotice_ids (n : Notice) (v : Severity) : IdsWithin ids s (changeNotice n v s) := by
  unfold changeNotice
  repeat' split
  · exact updateNotice_ids s fun _ => rfl
  · exact removeNotice_ids s _
  · exact updateNotice_ids s fun _ => rfl
  · exact updateNotice_ids s fun _ => rfl

/-- A report makes an entry of its own identity alone (R105 to R108). -/
theorem applyReport_ids {id : NoticeId} (h : ids id) (r : Report) : IdsWithin ids s (applyReport id r s) := by
  unfold applyReport
  split
  · exact enterNotice_ids s h _
  · exact enterNotice_ids s h _
  · exact .refl s
  · split
    · exact reraiseNotice_ids s _ _
    · exact changeNotice_ids s _ _
    · exact updateNotice_ids s fun _ => rfl
  · split
    · exact reraiseNotice_ids s _ _
    · exact changeNotice_ids s _ _
  · split
    · exact updateNotice_ids s fun _ => rfl
    · exact removeNotice_ids s _
    · exact .refl s

theorem report_ids {id : NoticeId} (h : ids id) (d : Option Port) (r : Report) : IdsWithin ids s (report d id r s) :=
  (applyReport_ids s h r).trans (.of_notices (settle_frame _ d).notices)

theorem reevaluateAsserted_ids {i : PointIx} (h : ids (.point i .asserted)) (d : Option Port) :
    IdsWithin ids s (reevaluateAsserted d s i) := by
  unfold reevaluateAsserted
  split
  · exact .refl s
  · exact (IdsWithin.of_notices (setReportedAsserted_frame s i _).notices).trans (report_ids _ h d _)

theorem reevaluateGated_ids {i : PointIx} (d : Option Port) (h : ∀ j, gatedBy s i j = true → ids (.point j .asserted)) :
    IdsWithin ids s (reevaluateGated d i s) :=
  IdsWithin.foldl _ (fun u j hj => reevaluateAsserted_ids u (h j ((mem_gatedPoints s).1 hj)) d) s

theorem reportEconomy_ids (d : Option Port) (h : ids (.internal .economy)) (a : Bool) :
    IdsWithin ids s (reportEconomy d a s) := by
  unfold reportEconomy
  split
  · exact .refl s
  · exact (IdsWithin.of_notices (setClock_frame s _).notices).trans (report_ids _ h d _)

theorem actOnWanted_ids (d : Option Port) (h : ids (.internal .economy)) : IdsWithin ids s (actOnWanted d s) := by
  unfold actOnWanted
  split
  · exact .of_notices (beginSwitch_frame _ _).notices
  · exact (IdsWithin.of_notices (beginSwitch_frame _ _).notices).trans (reportEconomy_ids _ d h _)
  · exact .of_notices (abandonSwitch_frame _ _).notices
  · exact (IdsWithin.of_notices (abandonSwitch_frame _ _).notices).trans (reportEconomy_ids _ d h _)
  · exact .refl _

theorem reevaluateClock_ids (d : Option Port) (h : ids (.internal .economy)) : IdsWithin ids s (reevaluateClock d s) := by
  unfold reevaluateClock
  split
  · exact .refl s
  · exact (IdsWithin.of_notices (setClock_frame s _).notices).trans (actOnWanted_ids _ d h)

/-! ## The removal of a point's entries (R113) -/

theorem removeNotice_entries (id : NoticeId) :
    (removeNotice id s).notices = { s.notices with entries := s.notices.entries.filter fun n => decide (n.id ≠ id) } := rfl

theorem mem_removePointNotices {i : PointIx} {n : Notice} :
    n ∈ (removePointNotices i s).notices.entries ↔ n ∈ s.notices.entries ∧ ∀ k, n.id ≠ .point i k := by
  simp only [removePointNotices, removeNotice_entries, List.mem_filter, decide_eq_true_eq, and_assoc]
  refine and_congr_right fun _ => ⟨fun ⟨hb, hf, ha⟩ k => ?_, fun h => ⟨h _, h _, h _⟩⟩
  cases k
  · exact hb
  · exact hf
  · exact ha

@[simp] theorem removePointNotices_lost (i : PointIx) : (removePointNotices i s).notices.lost = s.notices.lost := rfl
@[simp] theorem removePointNotices_slots (i : PointIx) : (removePointNotices i s).notices.slots = s.notices.slots := rfl
@[simp] theorem removePointNotices_thresholds (i : PointIx) :
    (removePointNotices i s).notices.thresholds = s.notices.thresholds := rfl

/-! ## What a served request leaves -/

/-- A request of a kind is one that the row of the kind takes. -/
theorem ofKind_of_asked {k : Kind} {s : State} {p : Port} {req : Request} (h : Asked k p s req) : ofKind k req = true := by
  simp [ofKind, h.2]

theorem respond_level (p q : Port) (r : Reply) : ((respond p r s).port q).level = (s.port q).level := by
  unfold respond
  split
  · split
    · simp only [State.port, placeReply_ports, PerPort.get_set]
      split
      · next e => subst e; rfl
      · rfl
    · rw [setExecutor_port]
      split
      · next e => subst e; rfl
      · rfl
  · rfl

/-- The levels after a served request are those that its service leaves. -/
theorem serve_level {s t u : State} {p : Port} {req : Request} {accept : Request → Bool}
    {f : Option Port → Request → State → Served} {reply : Reply} (h : Ready s p req) (ha : accept req = true)
    (hf : f (some p) req (takeHead p s) = (u, some reply)) (ht : serve p accept f s = .next t) (q : Port) :
    (t.port q).level = (u.port q).level := by
  rw [serve_eq h.toTaken ha, deferral_room h.room, hf] at ht
  injection ht with ht
  rw [← ht, (decideHreq_frame _).port]
  exact respond_level u p q reply

/-- Where the service leaves the summaries of R122, so does the answer. -/
theorem serve_follows {s t u : State} {p : Port} {req : Request} {accept : Request → Bool}
    {f : Option Port → Request → State → Served} {reply : Reply} (h : Ready s p req) (ha : accept req = true)
    (hf : f (some p) req (takeHead p s) = (u, some reply)) (ht : serve p accept f s = .next t)
    (hs : ∀ q, (t.port q).summary = (u.port q).summary) (hk : ChangesOnly [.ports, .routes, .hreq] u t)
    (hu : SummariesFollow u) : SummariesFollow t := fun q => by
  rw [hs, hu q, topPriority_of_frame hk q (serve_level h ha hf ht q)]

theorem assertedActive_of_points {s t : State} (h : ∀ j, t.point j = s.point j) (j : PointIx) :
    assertedActive t j = assertedActive s j :=
  assertedActive_congr (by simp only [State.descOf, h]) (by rw [h]) fun k _ => by rw [h]

theorem OtherPointsKept.congr {i : PointIx} {s s' t t' : State} (h : OtherPointsKept i s t)
    (hs : ∀ j, s'.point j = s.point j) (ht : ∀ j, t'.point j = t.point j) : OtherPointsKept i s' t' := fun j hj => by
  rw [hs, ht]
  exact h j hj

end Sys2Proof.Machine
end

section
/-! PROOFS. An accepted DEFINE POINT (O14), SET LIMITS (O15) and UNDEFINE POINT (O16). -/

set_option Elab.async false

namespace Sys2Proof.Machine

variable (s : State)

/-! ## DEFINE POINT (R11) -/

/-- The entry that an accepted DEFINE POINT leaves. -/
theorem acceptDefine_self (d : Option Port) (i : PointIx) (new : Descriptor) :
    (acceptDefine d i new s).point i = ⟨.defined new, .initial, true, false⟩ := by
  rw [acceptDefine_point]
  split
  · rw [assertedActive_of_clear _ (by simp [PointEntry.resetRecord, LiveRecord.initial]), setPoint_point_self]
    rfl
  · rw [setPoint_point_self]
    rfl

theorem acceptDefine_others (d : Option Port) (i : PointIx) (new : Descriptor) :
    OtherPointsKept i s (acceptDefine d i new s) := by
  intro j hj
  rw [acceptDefine_point]
  split <;> simp only [setPoint_point_ne s hj]

/-- The state and the live record of every entry after DEFINE POINT are those of the reset entry and of the others. -/
theorem acceptDefine_kept_fields (d : Option Port) (i j : PointIx) (new : Descriptor) :
    ((acceptDefine d i new s).point j).state = ((s.setPoint i ((s.point i).resetRecord (.defined new))).point j).state
      ∧ ((acceptDefine d i new s).point j).live = ((s.setPoint i ((s.point i).resetRecord (.defined new))).point j).live := by
  rw [acceptDefine_point]
  split <;> exact ⟨rfl, rfl⟩

/-- Where the flag was set, the points gated by the entry report their activity (R33). -/
theorem acceptDefine_reported (d : Option Port) {i j : PointIx} (new : Descriptor) (ha : (s.point i).live.asserted = true)
    (hg : gatedBy s i j = true) (hj : j ≠ i) :
    ((acceptDefine d i new s).point j).reportedAsserted = assertedActive (acceptDefine d i new s) j := by
  have hg' : gatedBy (s.setPoint i ((s.point i).resetRecord (.defined new))) i j = true :=
    (gatedBy_congr (descOf_congr (congrArg PointEntry.state (setPoint_point_ne s hj _)))).trans hg
  have hact : assertedActive (acceptDefine d i new s) j
      = assertedActive (s.setPoint i ((s.point i).resetRecord (.defined new))) j :=
    assertedActive_congr (descOf_congr (acceptDefine_kept_fields s d i j new).1)
      (by rw [(acceptDefine_kept_fields s d i j new).2]) fun k _ => by rw [(acceptDefine_kept_fields s d i k new).2]
  rw [hact, acceptDefine_point, if_pos ⟨ha, hg'⟩]

/-- A valid descriptor does not gate the point by itself (R8, check 8). -/
theorem gate_ne_of_valid {i : PointIx} {d : Descriptor} {g : Gate} (h : descriptorValid s i d = true) (hg : d.gate = some g) :
    g.point ≠ i := by
  simp only [descriptorValid, Bool.and_eq_true] at h
  obtain ⟨-, hp⟩ := h
  cases hd : d.part with
  | analog a => simp [Descriptor.gate, Descriptor.discrete?, hd] at hg
  | discrete x =>
    simp only [Descriptor.gate, Descriptor.discrete?, hd, Option.bind_some] at hg
    simp only [partValid, hd, hg, gateValid, Bool.and_eq_true] at hp
    obtain ⟨-, hv⟩ := hp
    split at hv
    · cases hv
    · simpa using (Bool.and_eq_true_iff.1 hv).2

/-- The reports of a DEFINE POINT make no entry for the point itself, whose entries were removed (R11, R113). -/
theorem acceptDefine_noEntries (d : Option Port) {i : PointIx} {new : Descriptor} (hv : descriptorValid s i new = true)
    (hd : (s.descOf i).isSome = true) : ∀ n ∈ (acceptDefine d i new s).notices.entries, ∀ k, n.id ≠ .point i k := by
  have removed : ∀ n ∈ (removePointNotices i s).notices.entries, ∀ k, n.id ≠ .point i k := fun n hn =>
    ((mem_removePointNotices s).1 hn).2
  have hs2 : ChangesOnly reportBlocks (removePointNotices i s)
      (settle d ((removePointNotices i s).setPoint i ((s.point i).resetRecord (.defined new)))) :=
    (setPoint_frame _ i _).comp (settle_frame _ d)
  have hself : (settle d ((removePointNotices i s).setPoint i ((s.point i).resetRecord (.defined new)))).descOf i = some new := by
    rw [(settle_frame _ d).descOf]
    simp [State.descOf, PointEntry.desc, PointEntry.resetRecord]
  have hent : (settle d ((removePointNotices i s).setPoint i ((s.point i).resetRecord (.defined new)))).notices
      = (removePointNotices i s).notices := (settle_frame _ d).notices
  have hids : IdsWithin (fun id => ∀ k, id ≠ .point i k) (removePointNotices i s) (acceptDefine d i new s) := by
    have hdesc : (s.point i).desc.isSome = true := hd
    unfold acceptDefine
    simp only [hdesc, if_true]
    generalize settle d ((removePointNotices i s).setPoint i ((s.point i).resetRecord (.defined new))) = s2 at hself hent
    have h3 : IdsWithin (fun id => ∀ k, id ≠ .point i k) (removePointNotices i s)
        (if (s.point i).live.asserted = true then reevaluateGated d i s2 else s2) := by
      split
      · refine (IdsWithin.of_notices hent).trans (reevaluateGated_ids s2 d fun j hj k he => ?_)
        cases he
        obtain ⟨e, g, he, hg, hgp⟩ := (gatedBy_iff s2).1 hj
        rw [hself] at he
        cases he
        exact gate_ne_of_valid s hv hg hgp
      · exact .of_notices hent
    generalize (if (s.point i).live.asserted = true then reevaluateGated d i s2 else s2) = s3 at h3 ⊢
    split
    · exact h3.trans (reevaluateClock_ids s3 d fun k => by simp)
    · exact h3
  intro n hn k
  rcases hids n hn with h | ⟨m, hm, he⟩
  · exact h k
  · rw [← he]
    exact removed m hm k

/-- With its flag clear, and its band NORMAL or another point the trigger, a DEFINE POINT reports nothing. -/
theorem acceptDefine_quiet (d : Option Port) {i : PointIx} (new : Descriptor) (ha : (s.point i).live.asserted = false)
    (hb : (s.point i).live.band = .normal ∨ s.economyTrigger ≠ some i) : acceptDefine d i new s
      = settle d ((if (s.descOf i).isSome then removePointNotices i s else s).setPoint i
        ((s.point i).resetRecord (.defined new))) := by
  have htrig : (settle d ((if (s.descOf i).isSome then removePointNotices i s else s).setPoint i
      ((s.point i).resetRecord (.defined new)))).economyTrigger = s.economyTrigger := by
    rw [(settle_frame _ d).economyTrigger, setPoint_economyTrigger]
    split
    · exact (removePointNotices_frame s i).economyTrigger
    · rfl
  have hdesc : (s.point i).desc = s.descOf i := rfl
  unfold acceptDefine
  simp only [ha, hdesc, Bool.false_eq_true, if_false]
  rw [if_neg]
  rintro ⟨h1, h2⟩
  rcases hb with hb | hb
  · exact h1 hb
  · exact hb (by rw [← htrig]; exact h2)

theorem serveDefinePoint_accepted {d : Option Port} {req : Request} {i : PointIx} {new : Descriptor} {b : List Byte}
    (hi : pointIxOf (byteAt req.body 0) = i) (hb : req.body.drop 1 = b) (hu : defineInUse s i (namesDiscrete b) = false)
    (hd : descriptorOf b = some new) (hv : descriptorValid s i new = true)
    (ha : addressValid s new = true) (ht : tagTaken s i new.tag = false) :
    serveDefinePoint d req s = (acceptDefine d i new s, some ⟨.ok, [pointByte i]⟩) := by
  simp [serveDefinePoint, hi, hb, hu, hd, hv, ha, ht, answer]

/-- Settles O14: the entry is reset and reports what it is; the reports that follow are of gated points and of ECONOMY. -/
theorem definePointAccepted : Obligations.DefinePointAccepted := by
  intro p s req i new h hi hu hd hv haddr htag
  have hf : serveDefinePoint (some p) req (takeHead p s)
      = (acceptDefine (some p) i new (takeHead p s), some ⟨.ok, [pointByte i]⟩) :=
    serveDefinePoint_accepted (takeHead p s) hi rfl (by rw [takeHead_defineInUse]; exact hu) hd (by simpa using hv) (by simpa using haddr)
      (by simpa using htag)
  obtain ⟨t, ht, hans, -, hk⟩ := serve_answeredAfter h.1 (ofKind_of_asked h) hf (acceptDefine_delivers _ _ i new)
    (.inl (kind_ne_restart h.2 (by decide)))
  have htp : ∀ j, t.point j = (acceptDefine (some p) i new (takeHead p s)).point j := fun j => hk.point j
  have hcl : ChangesOnly [.points, .notices, .ports, .routes, .clock, .arb, .hreq] s t :=
    ((takeHead_frame s p).comp (acceptDefine_frame _ (some p) i new)
      (n := [.points, .notices, .ports, .routes, .clock, .arb, .hreq])).comp hk
  refine ⟨t, ht, hans, hcl, ?_, ?_, fun hsome n hn => ?_, fun ha j hg hj => ?_, fun ha hb => ?_⟩
  · rw [htp, acceptDefine_self]
  · exact (acceptDefine_others (takeHead p s) (some p) i new).congr (fun j => (takeHead_point s p j).symm) htp
  · rw [hk.notices] at hn
    exact acceptDefine_noEntries (takeHead p s) (some p) (by simpa using hv) (by simpa using hsome) n hn
  · rw [htp, assertedActive_of_points htp]
    refine acceptDefine_reported (takeHead p s) (some p) new (by simpa using ha) ?_ hj
    rw [gatedBy_congr (takeHead_descOf s p j)]
    exact hg
  · have hquiet := acceptDefine_quiet (takeHead p s) (some p) new (by simpa using ha) (by simpa using hb)
    have hrem : ChangesOnly [.notices] (takeHead p s)
        (if ((takeHead p s).descOf i).isSome then removePointNotices i (takeHead p s) else takeHead p s) := by
      split
      · exact removePointNotices_frame _ i
      · exact .refl _ _
    have hframe : ChangesOnly reportBlocks (takeHead p s) (acceptDefine (some p) i new (takeHead p s)) := by
      rw [hquiet]
      exact (hrem.comp (setPoint_frame _ i _) (n := reportBlocks)).comp (settle_frame _ _)
    have hnot : t.notices
        = (if (s.descOf i).isSome then removePointNotices i (takeHead p s) else takeHead p s).notices := by
      rw [hk.notices, hquiet, (settle_frame _ _).notices, setPoint_notices, takeHead_descOf]
    refine ⟨((takeHead_frame s p).comp hframe (n := [.points, .notices, .ports, .routes, .hreq])).comp hk, fun j hj => ?_, ?_⟩
    · rw [htp, hquiet, (settle_frame _ _).point, setPoint_point_ne _ hj, hrem.point, takeHead_point]
    · rw [hnot]
      cases hs : (s.descOf i).isSome with
      | false => simp [takeHead_notices]
      | true =>
        refine ⟨by simp, by simp, by simp, fun n => ?_⟩
        simp only [if_true, mem_removePointNotices, takeHead_notices, true_implies]

/-! ## SET LIMITS (R13, R14) -/

theorem acceptLimits_live (d : Option Port) (i : PointIx) (old new : Descriptor) :
    ((acceptLimits d i old new s).point i).live = { (s.point i).live with candidate := none, count := 0 }
      ∧ ((acceptLimits d i old new s).point i).scanMark = (s.point i).scanMark := by
  rw [acceptLimits_point]
  split
  · exact ⟨rfl, rfl⟩
  · rw [setPoint_point_self]
    exact ⟨rfl, rfl⟩

/-- Under the same gate nothing is reported. -/
theorem acceptLimits_quiet (d : Option Port) (i : PointIx) {old new : Descriptor} (h : old.gate = new.gate) :
    (acceptLimits d i old new s).notices = s.notices
      ∧ ((acceptLimits d i old new s).point i).reportedAsserted = (s.point i).reportedAsserted := by
  rw [acceptLimits_eq, if_pos h, (settle_frame _ d).notices, (settle_frame _ d).point, setPoint_point_self]
  exact ⟨rfl, rfl⟩

/-- Under a new gate the point reports its activity (R33). -/
theorem acceptLimits_reported (d : Option Port) (i : PointIx) {old new : Descriptor} (h : old.gate ≠ new.gate) :
    ((acceptLimits d i old new s).point i).reportedAsserted = assertedActive (acceptLimits d i old new s) i := by
  rw [acceptLimits_active, acceptLimits_point, if_pos ⟨h, rfl⟩]

/-- Settles O15: the limit fields alone are new, and a new gate has the point's own activity reported. -/
theorem setLimitsAccepted : Obligations.SetLimitsAccepted := by
  intro p s req i old new h hi hold hl hv
  have hf : serveSetLimits (some p) req (takeHead p s) = (acceptLimits (some p) i old new (takeHead p s), some (bare .ok)) := by
    generalize hb : req.body.drop 1 = b at hl
    simp [serveSetLimits, hi, hb, hold, hl, hv, answer]
  obtain ⟨t, ht, hans, -, hk⟩ := serve_answeredAfter h.1 (ofKind_of_asked h) hf (acceptLimits_delivers _ _ i old new)
    (.inl (kind_ne_restart h.2 (by decide)))
  have htp : ∀ j, t.point j = (acceptLimits (some p) i old new (takeHead p s)).point j := fun j => hk.point j
  have hlive := acceptLimits_live (takeHead p s) (some p) i old new
  rw [takeHead_point] at hlive
  obtain ⟨-, hnew⟩ := limitsOf_some hl
  refine ⟨t, ht, hans, ((takeHead_frame s p).comp (acceptLimits_frame _ (some p) i old new)
    (n := [.points, .notices, .ports, .routes, .hreq])).comp hk, ?_, ?_, by rw [hnew], ?_, ?_, fun j hj => ?_, fun hg => ?_,
    fun hg => ?_⟩
  · rw [hk.descOf]
    exact acceptLimits_descOf (takeHead p s) (some p) i (by simpa using hold)
  · rw [htp, acceptLimits_isScanned, takeHead_point]
  · rw [htp, hlive.1]
  · rw [htp, hlive.2]
  · rw [htp, acceptLimits_others _ _ _ _ hj, takeHead_point]
  · rw [htp, hk.notices]
    simpa using acceptLimits_quiet (takeHead p s) (some p) i hg
  · rw [htp, assertedActive_of_points htp]
    exact acceptLimits_reported (takeHead p s) (some p) i hg

/-! ## UNDEFINE POINT (R15) -/

/-- Settles O16: the point's entries go, its record is reset, and the summaries follow. -/
theorem undefinePointAccepted : Obligations.UndefinePointAccepted := by
  intro p s req i h hi hs hu
  obtain ⟨x, hx⟩ := Option.isSome_iff_exists.1 hs
  have hf : serveUndefinePoint (some p) req (takeHead p s) = (acceptUndefine (some p) i (takeHead p s), some (bare .ok)) := by
    simp [serveUndefinePoint, hi, hx, hu, answer, acceptUndefine]
  have hacc := ofKind_of_asked h
  obtain ⟨t, ht, hans, hsum, hk⟩ := serve_answeredAfter h.1 hacc hf (acceptUndefine_delivers _ _ i)
    (.inl (kind_ne_restart h.2 (by decide)))
  have htp : ∀ j, t.point j = ((takeHead p s).setPoint i (((takeHead p s).point i).resetRecord .undefined)).point j := fun j => by
    rw [hk.point, acceptUndefine_point]
  have hnot : t.notices = (removePointNotices i (takeHead p s)).notices := by
    rw [hk.notices, acceptUndefine, (settle_frame _ _).notices, setPoint_notices]
  refine ⟨t, ht, hans, serve_follows h.1 hacc hf ht hsum hk (settle_follows _ _),
    ((takeHead_frame s p).comp (acceptUndefine_frame _ (some p) i) (n := [.points, .notices, .ports, .routes, .hreq])).comp hk,
    ?_, fun j hj => ?_, ?_⟩
  · rw [htp, setPoint_point_self]
    rfl
  · rw [htp, setPoint_point_ne _ hj, takeHead_point]
  · rw [hnot]
    refine ⟨by simp, by simp, by simp, fun n => ?_⟩
    rw [mem_removePointNotices, takeHead_notices]

end Sys2Proof.Machine
end

section
/-! PROOFS. The scan period, the scan list and its reading (O19). -/

set_option Elab.async false

namespace Sys2Proof.Machine

variable (s : State)

/-! ## What a cycle's start, walk and end keep of the Scanner (R43, R46, R50) -/

/-- The scan list, the scan state and the scan period are the same. -/
structure ListKept (s t : State) : Prop where
  list : t.scan.list = s.scan.list
  scanState : t.scan.scanState = s.scan.scanState
  period : t.scan.period = s.scan.period

theorem ListKept.refl : ListKept s s := ⟨rfl, rfl, rfl⟩

theorem ListKept.trans {s t u : State} (h : ListKept s t) (k : ListKept t u) : ListKept s u :=
  ⟨k.list.trans h.list, k.scanState.trans h.scanState, k.period.trans h.period⟩

theorem ListKept.of_frame {l : List Block} {s t : State} (h : ChangesOnly l s t) (hs : Block.scan ∉ l := by decide) :
    ListKept s t := by
  have := h.scan hs
  exact ⟨by rw [this], by rw [this], by rw [this]⟩

theorem endOverrun_listKept (d : Option Port) : ListKept s (endOverrun d s) := by
  unfold endOverrun
  split
  · exact (⟨rfl, rfl, rfl⟩ : ListKept s (s.setScan { s.scan with overrun := false })).trans
      (.of_frame (reportActivity_frame _ d _ _))
  · exact .refl s

theorem completeCycle_listKept (d : Option Port) : ListKept s (completeCycle d s) := by
  have h : ListKept s (s.setScan { s.scan with
      cycleState := .idle
      passed := s.scan.list
      ahead := []
      cycleNumber := s.scan.cycleNumber + 1 }) := ⟨by simp [Scanner.list], rfl, rfl⟩
  unfold completeCycle
  simp only []
  split
  · exact h
  · exact h.trans (endOverrun_listKept _ d)

theorem walkOnce_listKept (d : Option Port) : ListKept s (walkOnce d s) := by
  unfold walkOnce
  split
  · exact .of_frame (setScannerWaiting_frame s true)
  · exact completeCycle_listKept s d

theorem beginCycle_listKept : ListKept s (beginCycle s) := ⟨by simp [beginCycle, Scanner.list], rfl, rfl⟩

theorem walk_listKept (d : Option Port) : ListKept s (walk d s) := by
  unfold walk
  split
  · split
    · exact .of_frame (setScannerWaiting_frame s true)
    · simp only []
      split
      · exact ((completeCycle_listKept s d).trans (beginCycle_listKept _)).trans (walkOnce_listKept _ d)
      · exact completeCycle_listKept s d
  · exact .refl s

theorem startCycle_listKept (d : Option Port) : ListKept s (startCycle d s) :=
  (beginCycle_listKept s).trans (walk_listKept _ d)

/-- Between cycles there is no walk. -/
theorem walk_idle (d : Option Port) (h : s.scan.cycleState = .idle) : walk d s = s := by
  simp [walk, h]

/-! ## What Notice Delivery does for a walk (R55, R124) -/

theorem endOverrun_delivers (d : Option Port) : Delivers d s (endOverrun d s) := by
  unfold endOverrun
  split
  · exact (Delivers.of_frame (setScan_frame s _)).trans (reportActivity_delivers _ d _ _)
  · exact .refl s d

theorem completeCycle_delivers (d : Option Port) : Delivers d s (completeCycle d s) := by
  unfold completeCycle
  simp only []
  split
  · exact .of_frame (setScan_frame s _)
  · exact (Delivers.of_frame (setScan_frame s _)).trans (endOverrun_delivers _ d)

theorem walkOnce_delivers (d : Option Port) : Delivers d s (walkOnce d s) := by
  unfold walkOnce
  split
  · exact .of_frame (setScannerWaiting_frame s true)
  · exact completeCycle_delivers s d

theorem walk_delivers (d : Option Port) : Delivers d s (walk d s) := by
  unfold walk
  split
  · split
    · exact .of_frame (setScannerWaiting_frame s true)
    · simp only []
      split
      · exact ((completeCycle_delivers s d).trans (.of_frame (beginCycle_frame _))).trans (walkOnce_delivers _ d)
      · exact completeCycle_delivers s d
  · exact .refl s d

theorem startCycle_delivers (d : Option Port) : Delivers d s (startCycle d s) :=
  (Delivers.of_frame (beginCycle_frame s)).trans (walk_delivers _ d)

/-! ## SCAN ADD and SCAN REMOVE (R56, R57) -/

theorem scanAdded_frame (i : PointIx) (d : Descriptor) : ChangesOnly [.points, .scan] s (scanAdded i d s) :=
  (setPoint_frame s i _).comp (setScan_frame _ _)

theorem scanRemoved_frame (i : PointIx) (d : Descriptor) : ChangesOnly [.points, .scan] s (scanRemoved i d s) :=
  (setPoint_frame s i _).comp (setScan_frame _ _)

/-- An index joins the list at its tail: where no cycle walks, nothing stands ahead of the walk position (R43, R56). -/
theorem appendScan_list (i : PointIx) (x : Scanner) (h : x.cycleState = .idle → x.ahead = []) :
    (appendScan i x).list = x.list ++ [i] := by
  unfold appendScan
  cases hc : x.cycleState with
  | idle => simp [Scanner.list, h hc]
  | walking => simp [Scanner.list]

theorem appendScan_kept (i : PointIx) (x : Scanner) :
    (appendScan i x).scanState = x.scanState ∧ (appendScan i x).period = x.period
      ∧ (appendScan i x).cycleState = x.cycleState := by
  unfold appendScan
  cases x.cycleState <;> exact ⟨rfl, rfl, rfl⟩

theorem serveScanAdd_accepted {d : Option Port} {req : Request} {i : PointIx} {x : Descriptor}
    (hi : pointIxOf (byteAt req.body 0) = i) (hs : (s.point i).state = .defined x)
    (hw : s.scan.cycleState = .idle → s.scan.ahead = []) :
    serveScanAdd d req s = (walk d (scanAdded i x s),
      some ⟨.ok, natByte s.scan.list.length :: sendNat16 (s.scan.list.length + 1)⟩) := by
  have hl : (scanAdded i x s).scan.list.length = s.scan.list.length + 1 := by
    rw [show (scanAdded i x s).scan = appendScan i s.scan from rfl, appendScan_list i s.scan hw]
    simp
  rw [← Nat.add_sub_cancel (n := s.scan.list.length) (m := 1), ← hl, Nat.sub_add_cancel (by omega)]
  simp only [serveScanAdd, hi, hs]
  rfl

theorem serveScanRemove_accepted {d : Option Port} {req : Request} {i : PointIx} {x : Descriptor}
    (hi : pointIxOf (byteAt req.body 0) = i) (hs : (s.point i).state = .scanned x) :
    serveScanRemove d req s = (scanRemoved i x s,
      some ⟨.ok, sendNat16 (s.scan.list.filter (fun j => decide (j ≠ i))).length⟩) := by
  rw [← removeScan_list]
  simp only [serveScanRemove, hi, hs]
  rfl

theorem leftLive_eq (l : LiveRecord) :
    leftLive l = { l with quality := if l.quality = .good then .stale else l.quality } := by
  unfold leftLive
  split <;> rfl

/-! ## READ SCAN LIST (R58) -/

theorem scanState_code (x : ScanState) : x.code = if x = .running then 1 else 0 := by cases x <;> rfl

theorem cycleState_code (x : CycleState) : x.code = if x = .walking then 1 else 0 := by cases x <;> rfl

/-- A served request that changes no port: the answer, the state before it being u. -/
theorem serve_answered_of_kind {k : Kind} {u : State} {p : Port} {req : Request}
    {f : Option Port → Request → State → Served} {reply : Reply} {s : State} (h : Asked k p s req)
    (hk : k ≠ .restartSupervision) (hf : f (some p) req (takeHead p s) = (u, some reply)) {l : List Block}
    (hu : ChangesOnly l (takeHead p s) u) (hp : Block.ports ∉ l := by decide) (hr : Block.routes ∉ l := by decide) :
    ∃ t, serve p (ofKind k) f s = .next t ∧ Answered p req reply.result reply.body s t
      ∧ ChangesOnly [.ports, .routes, .hreq] u t :=
  serve_answered h.1 (ofKind_of_asked h) hf (hu.ports hp) ((hu.routes hr).trans (takeHead_frame s p).routes)
    (.inl (kind_ne_restart h.2 hk))

/-- Settles O19: each request rewrites its part of the Scanner, and an added entry lets a walk go on. -/
theorem scanListRequestsServed : Obligations.ScanListRequestsServed := by
  intro p s req i hi
  refine ⟨fun h => ?_, fun h => ⟨fun hs => ?_, fun d hs => ?_, fun d hs hsound => ?_⟩,
    fun h => ⟨fun hs => ?_, fun d hs => ?_, fun d hs => ?_⟩, fun h => ?_⟩
  · have hu := setScan_frame (takeHead p s) { s.scan with period := clampPeriod (word16At req.body 0).toNat }
    obtain ⟨t, ht, hans, hk⟩ := serve_answered_of_kind (f := serveSetScanPeriod) h (by decide)
      (by rw [serveSetScanPeriod, takeHead_scan, answer]) hu
    exact ⟨t, ht, hans, ((takeHead_frame s p).comp hu (n := [.scan, .ports, .routes, .hreq])).comp hk, hk.scan⟩
  · refine answersOnly_of_kind h (by decide) rfl ?_
    simp [serveScanAdd, hi, hs, refuse, bare]
  · refine answersOnly_of_kind h (by decide) rfl ?_
    simp [serveScanAdd, hi, hs, refuse, bare]
  · obtain ⟨-, -, hw⟩ := hsound
    have hf := serveScanAdd_accepted (takeHead p s) (d := some p) (x := d) hi (by simpa using hs) (by simpa using hw)
    obtain ⟨t, ht, hans, -, hk⟩ := serve_answeredAfter h.1 (ofKind_of_asked h) hf
      ((Delivers.of_frame (scanAdded_frame _ i d)).trans (walk_delivers _ (some p)))
      (.inl (kind_ne_restart h.2 (by decide)))
    rw [takeHead_scan] at hans
    obtain ⟨hstate, hperiod, hcycle⟩ := appendScan_kept i s.scan
    have hscan : (scanAdded i d (takeHead p s)).scan = appendScan i s.scan := by
      rw [← takeHead_scan s p]; rfl
    have hlist := walk_listKept (scanAdded i d (takeHead p s)) (some p)
    refine ⟨t, ht, hans, (((takeHead_frame s p).comp (scanAdded_frame _ i d)
      (n := [.points, .scan, .arb, .notices, .ports, .routes, .hreq])).comp (walk_frame _ (some p))
      (n := [.points, .scan, .arb, .notices, .ports, .routes, .hreq])).comp hk, ?_, ?_, ?_, ?_, fun hc => ?_⟩
    · rw [hk.points, (walk_frame _ _).points, scanAdded, setScan_points, takeHead_point, setPoint_points, setPoint_points,
        (takeHead_frame s p).points]
    · rw [hk.scan, hlist.list, hscan, appendScan_list i s.scan hw]
    · rw [hk.scan, hlist.scanState, hscan, hstate]
    · rw [hk.scan, hlist.period, hscan, hperiod]
    · rw [hk.scan, hk.arb, hk.notices, walk_idle _ _ (by rw [hscan, hcycle, hc]), hscan]
      refine ⟨by simp only [appendScan, hc], ?_, ?_⟩
      · rw [(scanAdded_frame _ i d).arb, takeHead_arb]
      · rw [(scanAdded_frame _ i d).notices, takeHead_notices]
  · refine answersOnly_of_kind h (by decide) rfl ?_
    simp [serveScanRemove, hi, hs, refuse, bare]
  · refine answersOnly_of_kind h (by decide) rfl ?_
    simp [serveScanRemove, hi, hs, refuse, bare]
  · have hu := scanRemoved_frame (takeHead p s) i d
    obtain ⟨t, ht, hans, hk⟩ := serve_answered_of_kind h (by decide)
      (serveScanRemove_accepted (takeHead p s) (d := some p) (x := d) hi (by simpa using hs)) hu
    rw [takeHead_scan] at hans
    refine ⟨t, ht, hans, ((takeHead_frame s p).comp hu (n := [.points, .scan, .ports, .routes, .hreq])).comp hk, ?_, ?_⟩
    · rw [hk.points, scanRemoved, setScan_points, takeHead_point, leftLive_eq, setPoint_points, setPoint_points,
        (takeHead_frame s p).points]
    · rw [hk.scan, scanRemoved, setScan_scan, takeHead_scan]
      rfl
  · refine answersOnly_of_kind h (by decide) rfl ?_
    simp only [serveReadScanList, takeHead_scan, answer, effectivePeriod, takeHead_clock, scanState_code, cycleState_code,
      boolByte]
    rfl

end Sys2Proof.Machine
end

section
/-! SUPPORT. The end of claims within a served request (R147, R148): which entries change, which ports are answered, and what the
port whose request is served keeps. -/

set_option Elab.async false

namespace Sys2Proof.Machine

variable (s : State)

/-! ## Frames with less -/

/-- A part that a change can reach and did not. -/
theorem ChangesOnly.without {l n : List Block} {s t : State} (h : ChangesOnly l s t) {b : Block} (hb : b.same s t)
    (hl : ∀ c ∈ l, c ∈ n ∨ c = b := by decide) : ChangesOnly n s t := by
  intro c hc
  by_cases hm : c ∈ l
  · rcases hl c hm with hn | rfl
    · exact absurd hn hc
    · exact hb
  · exact h c hm

/-- A response that is no OK begins no restart (R181). -/
theorem respond_restart (p : Port) {r : Reply} (hr : r.result ≠ .ok) : (respond p r s).restart = s.restart := by
  unfold respond
  split
  · split
    · rw [placeReply_restart, if_neg]
      rw [markOf_response (.inr hr)]
      simp
    · rfl
  · rfl

/-! ## The port whose request is served, and the others -/

/-- Port p goes on with its request and its place in the output queue; of the other ports only the executors, frames and
summaries have changed (R124, R147). -/
structure KeepsRequest (p : Port) (s t : State) : Prop where
  requests : (t.port p).requests = (s.port p).requests
  executor : (t.port p).executor = (s.port p).executor
  room : (t.port p).output.length = (s.port p).output.length
  others : ∀ q, q ≠ p → (t.port q).receiver = (s.port q).receiver ∧ (t.port q).requests = (s.port q).requests
    ∧ (t.port q).transmitter = (s.port q).transmitter ∧ (t.port q).level = (s.port q).level
  routes : ∀ r, DeliveryOnlyRoute (s.route r) (t.route r)

theorem KeepsRequest.refl (p : Port) : KeepsRequest p s s :=
  ⟨rfl, rfl, rfl, fun _ _ => ⟨rfl, rfl, rfl, rfl⟩, fun _ => .refl _⟩

theorem KeepsRequest.trans {p : Port} {s t u : State} (h : KeepsRequest p s t) (k : KeepsRequest p t u) :
    KeepsRequest p s u := by
  refine ⟨k.requests.trans h.requests, k.executor.trans h.executor, k.room.trans h.room, fun q hq => ?_,
    fun r => (h.routes r).trans (k.routes r)⟩
  obtain ⟨h1, h2, h3, h4⟩ := h.others q hq
  obtain ⟨k1, k2, k3, k4⟩ := k.others q hq
  exact ⟨k1.trans h1, k2.trans h2, k3.trans h3, k4.trans h4⟩

/-- Notice Delivery keeps the request of the port whose response waits (R124). -/
theorem Delivers.keepsRequest {p : Port} {s t : State} (h : Delivers (some p) s t) : KeepsRequest p s t := by
  refine ⟨(h.ports p).2.1, (h.ports p).2.2.1, h.held p rfl, fun q _ => ?_, h.routes⟩
  obtain ⟨hrec, hreq, -, htx, -, hlev⟩ := h.ports q
  exact ⟨hrec, hreq, htx, hlev⟩

theorem KeepsRequest.of_frame {l : List Block} {p : Port} {s t : State} (h : ChangesOnly l s t)
    (hp : Block.ports ∉ l := by decide) (hr : Block.routes ∉ l := by decide) : KeepsRequest p s t :=
  (Delivers.of_frame h hp hr).keepsRequest

/-- A response of another port keeps the request of p. -/
theorem respond_keepsRequest {p q : Port} (h : q ≠ p) (r : Reply) : KeepsRequest p s (respond q r s) := by
  have hport : ∀ x, ((respond q r s).port x).receiver = (s.port x).receiver
      ∧ ((respond q r s).port x).requests = (s.port x).requests
      ∧ ((respond q r s).port x).transmitter = (s.port x).transmitter
      ∧ (x ≠ q → (respond q r s).port x = s.port x) := by
    intro x
    unfold respond
    split
    · split
      · simp only [State.port, placeReply_ports, PerPort.get_set]
        split
        · next e => subst e; exact ⟨rfl, rfl, rfl, fun hn => absurd rfl hn⟩
        · exact ⟨rfl, rfl, rfl, fun _ => rfl⟩
      · rw [setExecutor_port]
        split
        · next e => subst e; exact ⟨rfl, rfl, rfl, fun hn => absurd rfl hn⟩
        · exact ⟨rfl, rfl, rfl, fun _ => rfl⟩
    · exact ⟨rfl, rfl, rfl, fun _ => rfl⟩
  have hroute : ∀ x, DeliveryOnlyRoute (s.route x) ((respond q r s).route x) := by
    intro x
    unfold respond
    split
    · split
      · simp only [State.route, placeReply_routes]
        cases q <;> cases x <;> exact ⟨rfl, rfl, rfl, rfl, rfl, rfl⟩
      · exact .refl _
    · exact .refl _
  have hp : (respond q r s).port p = s.port p := (hport p).2.2.2 (Ne.symm h)
  refine ⟨by rw [hp], by rw [hp], by rw [hp], fun x _ => ?_, hroute⟩
  obtain ⟨h1, h2, h3, -⟩ := hport x
  exact ⟨h1, h2, h3, respond_level s q x r⟩

/-! ## The work list at the end of a claim (R147, R155) -/

/-- The items of a port and the pending POLICY WRITEs, as an end of claims leaves them: no COMMAND or EXCHANGE joins, and a pending
POLICY WRITE stays. -/
structure WorkKept (s t : State) : Prop where
  items : ∀ w ∈ t.acts.workList, w.port.isSome = true → w ∈ s.acts.workList
  policies : ∀ i, .policy i ∈ s.acts.workList → .policy i ∈ t.acts.workList

theorem WorkKept.refl : WorkKept s s := ⟨fun _ h _ => h, fun _ h => h⟩

theorem WorkKept.trans {s t u : State} (h : WorkKept s t) (k : WorkKept t u) : WorkKept s u :=
  ⟨fun w hw hp => h.items w (k.items w hw hp) hp, fun i hi => k.policies i (h.policies i hi)⟩

theorem WorkKept.of_workList {s t : State} (h : t.acts.workList = s.acts.workList) : WorkKept s t :=
  ⟨fun _ hw _ => h ▸ hw, fun _ hi => h ▸ hi⟩

theorem NoItems.of_workKept {p : Port} {s t : State} (h : NoItems p s) (k : WorkKept s t) : NoItems p t := fun w hw hp =>
  h w (k.items w hw (by rw [hp]; rfl)) hp

theorem requestActuator_acts : (requestActuator s).acts = s.acts := (requestActuator_frame s).acts

theorem dropRefresh_workKept (i : ActIx) : WorkKept s (dropRefresh i s) := by
  refine ⟨fun w hw _ => ?_, fun j hj => ?_⟩
  · simp only [dropRefresh, setWorkList_acts, List.mem_filter] at hw
    exact hw.1
  · simp [dropRefresh, hj]

/-- A POLICY WRITE is pending once it is queued (R155), and nothing else of the work list that matters to a port has changed. -/
theorem queuePolicy_workKept (m : Nat) (i : ActIx) :
    WorkKept s (queuePolicy m i s) ∧ .policy i ∈ (queuePolicy m i s).acts.workList := by
  unfold queuePolicy
  split
  · next h => exact ⟨.of_workList (by rw [requestActuator_acts]), by rw [requestActuator_acts]; exact h⟩
  · simp only [requestActuator_acts, setWorkList_acts, recordMoment, setMoments_acts]
    refine ⟨⟨fun w hw hp => ?_, fun j hj => ?_⟩, by simp⟩
    · simp only [requestActuator_acts, setWorkList_acts, List.mem_append, List.mem_singleton] at hw
      rcases hw with hw | rfl
      · exact (dropRefresh_workKept s i).items w hw hp
      · cases hp
    · simp only [requestActuator_acts, setWorkList_acts, List.mem_append]
      exact .inl ((dropRefresh_workKept s i).policies j hj)

theorem dismissCommand_workKept (p : Port) (i : ActIx) : WorkKept s (dismissCommand p i s) := by
  unfold dismissCommand
  split
  · refine WorkKept.trans (t := s.setWorkList (s.acts.workList.filter fun w => !isCommandOf p i w)) ⟨fun w hw _ => ?_, fun j hj => ?_⟩
      (.of_workList (by rw [(respond_frame _ p _).acts]))
    · simp only [setWorkList_acts, List.mem_filter] at hw
      exact hw.1
    · simp [hj, isCommandOf]
  · exact .refl s

/-! ## The end of a claim (R147) -/

/-- A waiting command is dismissed for a port that has none: that port keeps its request. -/
theorem dismissCommand_keepsRequest {p : Port} (h : NoItems p s) (q : Port) (i : ActIx) :
    KeepsRequest p s (dismissCommand q i s) := by
  unfold dismissCommand
  split
  · next hany =>
    have hq : q ≠ p := by
      rintro rfl
      obtain ⟨w, hw, hc⟩ := List.any_eq_true.1 hany
      refine h w hw ?_
      cases w with
      | policy _ => cases hc
      | refresh _ => cases hc
      | command r _ _ =>
        simp only [isCommandOf, Bool.and_eq_true, decide_eq_true_eq] at hc
        rw [WorkItem.port, hc.1]
      | exchange r _ _ =>
        simp only [isCommandOf, Bool.and_eq_true, decide_eq_true_eq] at hc
        rw [WorkItem.port, hc.1]
    exact (KeepsRequest.of_frame (setWorkList_frame s _)).trans (respond_keepsRequest _ hq _)
  · exact .refl s p

theorem dismissCommand_restart (q : Port) (i : ActIx) : (dismissCommand q i s).restart = s.restart := by
  unfold dismissCommand
  split
  · rw [respond_restart _ q (by simp)]
    rfl
  · rfl

/-- What the end of one claim or of several leaves: the port with no items keeps its request, no restart begins, and the work
list keeps what it must. -/
structure ClaimsEnd (p : Port) (s t : State) : Prop where
  request : KeepsRequest p s t
  restart : t.restart = s.restart
  work : WorkKept s t

theorem ClaimsEnd.refl (p : Port) : ClaimsEnd p s s := ⟨.refl s p, rfl, .refl s⟩

theorem ClaimsEnd.trans {p : Port} {s t u : State} (h : ClaimsEnd p s t) (k : ClaimsEnd p t u) : ClaimsEnd p s u :=
  ⟨h.request.trans k.request, k.restart.trans h.restart, h.work.trans k.work⟩

theorem applyPolicy_claimsEnd (p : Port) (m : Nat) (i : ActIx) : ClaimsEnd p s (applyPolicy m i s) := by
  refine ⟨.of_frame (applyPolicy_frame s m i), (applyPolicy_frame s m i).restart, ?_⟩
  unfold applyPolicy
  split
  · exact .refl s
  · split
    · exact (queuePolicy_workKept s m i).1
    · exact .refl s

theorem endClaim_claimsEnd {p : Port} (h : NoItems p s) (m : Nat) (i : ActIx) : ClaimsEnd p s (endClaim m i s) := by
  unfold endClaim
  split
  · exact .refl s p
  · next q _ =>
    have h1 : ClaimsEnd p s (s.setActuator i { s.actuator i with holder := none, lease := 0 }) :=
      ⟨.of_frame (setActuator_frame s i _), rfl, .of_workList rfl⟩
    have h2 : ClaimsEnd p (s.setActuator i { s.actuator i with holder := none, lease := 0 })
        (dismissCommand q i (s.setActuator i { s.actuator i with holder := none, lease := 0 })) :=
      ⟨dismissCommand_keepsRequest _ (h.of_workKept h1.work) q i, dismissCommand_restart _ q i, dismissCommand_workKept _ q i⟩
    exact (h1.trans h2).trans (applyPolicy_claimsEnd _ p m i)

theorem queuePolicy_actuator (m : Nat) (i a : ActIx) : (queuePolicy m i s).actuator a = s.actuator a := by
  have h : (queuePolicy m i s).acts.entries = s.acts.entries := by
    unfold queuePolicy
    split
    · rw [requestActuator_acts]
    · rw [requestActuator_acts]
      rfl
  simp only [State.actuator, h]

theorem dismissCommand_actuator (q : Port) (i a : ActIx) : (dismissCommand q i s).actuator a = s.actuator a := by
  unfold dismissCommand
  split
  · rw [(respond_frame _ q _).actuator]
    rfl
  · rfl

theorem applyPolicy_actuator (m : Nat) (i a : ActIx) : (applyPolicy m i s).actuator a = s.actuator a := by
  unfold applyPolicy
  split
  · rfl
  · split
    · exact queuePolicy_actuator s m i a
    · rfl

/-- The end of a claim takes the holder and the lease from its entry alone. -/
theorem endClaim_actuator (m : Nat) (i a : ActIx) : (endClaim m i s).actuator a
    = if a = i ∧ (s.actuator i).holder ≠ none then { s.actuator i with holder := none, lease := 0 } else s.actuator a := by
  unfold endClaim
  split
  · next h => simp [h]
  · next q h =>
    rw [applyPolicy_actuator, dismissCommand_actuator, setActuator_actuator]
    simp [h]

/-- A SAFE actuator's POLICY WRITE is pending once its claim has ended (R147). -/
theorem endClaim_policy (m : Nat) {i : ActIx} {d : ActDescriptor} (hh : (s.actuator i).holder ≠ none)
    (hd : (s.actuator i).desc = some d) (hp : d.policy = .safe) : .policy i ∈ (endClaim m i s).acts.workList := by
  unfold endClaim
  split
  · next h => exact absurd h hh
  · unfold applyPolicy
    rw [dismissCommand_actuator, setActuator_actuator_self]
    simp only [hd, hp, if_true]
    exact (queuePolicy_workKept _ m i).2

/-! ## The ends of several claims (R148) -/

/-- One turn of `endClaims`: the claim of actuator i ends if its holder is one of those named. -/
def endClaimOf (m : Nat) (who : Port → Bool) (s : State) (i : ActIx) : State :=
  match (s.actuator i).holder with
  | none => s
  | some p => if who p then endClaim m i s else s

theorem endClaims_eq (m : Nat) (who : Port → Bool) : endClaims m who s = actIndices.foldl (endClaimOf m who) s := rfl

theorem endClaimOf_claimsEnd {p : Port} (h : NoItems p s) (m : Nat) (who : Port → Bool) (i : ActIx) :
    ClaimsEnd p s (endClaimOf m who s i) := by
  unfold endClaimOf
  split
  · exact .refl s p
  · split
    · exact endClaim_claimsEnd s h m i
    · exact .refl s p

theorem endClaimOf_actuator_ne (m : Nat) (who : Port → Bool) {i a : ActIx} (h : a ≠ i) :
    (endClaimOf m who s i).actuator a = s.actuator a := by
  unfold endClaimOf
  split
  · rfl
  · split
    · rw [endClaim_actuator, if_neg (by simp [h])]
    · rfl

/-- The claim of a named holder has ended after its turn. -/
theorem endClaimOf_ended (m : Nat) {who : Port → Bool} {i : ActIx} {q : Port} (hq : (s.actuator i).holder = some q)
    (hw : who q = true) : ClaimEnded i s (endClaimOf m who s i) := by
  unfold endClaimOf
  simp only [hq, hw, if_true]
  refine ⟨?_, fun d hd hp => endClaim_policy s m (by simp [hq]) hd hp⟩
  rw [endClaim_actuator, if_pos ⟨rfl, by simp [hq]⟩]

theorem endClaimOf_free (m : Nat) (who : Port → Bool) {i : ActIx} (h : (s.actuator i).holder = none) :
    endClaimOf m who s i = s := by
  simp [endClaimOf, h]

/-- The turns of a list: the port with no items keeps its request. -/
theorem endClaims_list_claimsEnd {p : Port} (m : Nat) (who : Port → Bool) (l : List ActIx) (s : State) (h : NoItems p s) :
    ClaimsEnd p s (l.foldl (endClaimOf m who) s) := by
  induction l generalizing s with
  | nil => exact .refl s p
  | cons i l ih =>
    have h1 := endClaimOf_claimsEnd s h m who i
    exact h1.trans (ih _ (h.of_workKept h1.work))

/-- The turns of a list keep every pending POLICY WRITE. -/
theorem endClaims_list_policies (m : Nat) (who : Port → Bool) (l : List ActIx) (s : State) {a : ActIx}
    (h : .policy a ∈ s.acts.workList) : .policy a ∈ (l.foldl (endClaimOf m who) s).acts.workList := by
  induction l generalizing s with
  | nil => exact h
  | cons i l ih =>
    refine ih _ ?_
    unfold endClaimOf
    split
    · exact h
    · next q _ =>
      split
      · unfold endClaim
        split
        · exact h
        · exact (applyPolicy_claimsEnd _ q m i).work.policies a ((dismissCommand_workKept _ _ i).policies a h)
      · exact h

/-- The turns of a list keep an entry that is free. -/
theorem endClaims_list_free (m : Nat) (who : Port → Bool) (l : List ActIx) (s : State) {a : ActIx}
    (h : (s.actuator a).holder = none) : (l.foldl (endClaimOf m who) s).actuator a = s.actuator a := by
  induction l generalizing s with
  | nil => rfl
  | cons i l ih =>
    have hkeep : (endClaimOf m who s i).actuator a = s.actuator a := by
      by_cases ha : a = i
      · subst ha
        rw [endClaimOf_free s m who h]
      · exact endClaimOf_actuator_ne s m who ha
    rw [List.foldl_cons, ih _ (by rw [hkeep]; exact h), hkeep]

/-- The turns of a list end the claim of every named holder in it. -/
theorem endClaims_list_ended (m : Nat) {who : Port → Bool} (l : List ActIx) (s : State) {a : ActIx} {q : Port}
    (ha : a ∈ l) (hq : (s.actuator a).holder = some q) (hw : who q = true) :
    ClaimEnded a s (l.foldl (endClaimOf m who) s) := by
  induction l generalizing s with
  | nil => cases ha
  | cons i l ih =>
    by_cases hai : a = i
    · subst hai
      obtain ⟨he, hp⟩ := endClaimOf_ended s m hq hw
      refine ⟨?_, fun d hd hs => endClaims_list_policies m who l _ (hp d hd hs)⟩
      rw [List.foldl_cons, endClaims_list_free m who l _ (by rw [he]), he]
    · have hkeep := endClaimOf_actuator_ne s m who (i := i) hai
      obtain ⟨he, hp⟩ := ih (endClaimOf m who s i) ((List.mem_cons.1 ha).resolve_left hai) (by rw [hkeep]; exact hq)
      rw [hkeep] at he hp
      exact ⟨he, hp⟩

theorem endClaims_claimsEnd {p : Port} (h : NoItems p s) (m : Nat) (who : Port → Bool) :
    ClaimsEnd p s (endClaims m who s) := endClaims_list_claimsEnd m who actIndices s h

theorem endClaims_ended (m : Nat) {who : Port → Bool} {a : ActIx} {q : Port} (hq : (s.actuator a).holder = some q)
    (hw : who q = true) : ClaimEnded a s (endClaims m who s) :=
  endClaims_list_ended m actIndices s (List.mem_finRange a) hq hw

/-! ## The answer where claims may have ended -/

/-- A served request whose service may end claims of others: the response is the last frame of the port's queue. -/
theorem serve_answeredLast {s u : State} {p : Port} {req : Request} {accept : Request → Bool}
    {f : Option Port → Request → State → Served} {reply : Reply} (h : Ready s p req) (ha : accept req = true)
    (hf : f (some p) req (takeHead p s) = (u, some reply)) (hd : KeepsRequest p (takeHead p s) u)
    (hm : req.kind ≠ Config.restartSupervisionKind ∨ reply.result ≠ .ok) :
    ∃ t, serve p accept f s = .next t ∧ AnsweredLast p req reply.result reply.body s t
      ∧ ChangesOnly [.ports, .routes, .hreq] u t := by
  have hth := takeHead_port h.queue p
  simp only [if_true] at hth
  have he : (u.port p).executor = .serving req := by rw [hd.executor, hth]
  have ho : (u.port p).output.length < Config.outputPlaces := by rw [hd.room, hth]; exact h.room
  have hk : ChangesOnly [.ports, .routes] u (placeReply p req reply u) := by
    refine (placeReply_frame u p req reply).without (b := .restart) ?_
    show (placeReply p req reply u).restart = u.restart
    rw [placeReply_restart, if_neg (by simp [markOf_response hm])]
  have hport : ∀ q, (decideHreq (placeReply p req reply u)).port q = if q = p then
      { u.port p with executor := .idle, output := (u.port p).output ++ [replyFrame req reply (u.port p).summary] }
      else u.port q := fun q => by
    rw [(decideHreq_frame _).port]
    simp only [State.port, placeReply_ports, PerPort.get_set]
  have hroute : ∀ r, DeliveryOnlyRoute (u.route r) ((decideHreq (placeReply p req reply u)).route r) := fun r => by
    rw [(decideHreq_frame _).route]
    simp only [State.route, placeReply_routes]
    cases p <;> cases r <;> exact ⟨rfl, rfl, rfl, rfl, rfl, rfl⟩
  refine ⟨_, serve_eq h.toTaken ha, ?_⟩
  rw [deferral_room h.room, hf]
  simp only [finishService, respond_room reply he ho]
  refine ⟨⟨?_, ?_, ?_, fun q hq => ?_, fun r => ?_⟩, hk.comp (decideHreq_frame _)⟩
  · rw [hport]
    simp [replyFrame, markOf_response hm]
  · rw [hport]
    simp [hd.requests, hth]
  · rw [hport]
    simp
  · rw [hport, if_neg hq]
    have := hd.others q hq
    rw [takeHead_port h.queue, if_neg hq] at this
    exact this
  · rw [← takeHead_route s p r]
    exact (hd.routes r).trans (hroute r)

end Sys2Proof.Machine
end

section
/-! PROOFS. Accepted FORCE POINT, UNFORCE POINT and CLEAR ASSERTED (O17). -/

set_option Elab.async false

namespace Sys2Proof.Machine

variable (s : State)

/-! ## The live records that the requests make (R19, R37) -/

/-- What a forced value is whatever the point's kind. -/
theorem forcedLive_fields (d : Descriptor) (v : Int) (l : LiveRecord) :
    (forcedLive d v l).value = v ∧ (forcedLive d v l).filtered = v ∧ (forcedLive d v l).sat = false
      ∧ (forcedLive d v l).quality = .forced ∧ (forcedLive d v l).forcedValue = some v
      ∧ (forcedLive d v l).candidate = none ∧ (forcedLive d v l).count = 0 ∧ (forcedLive d v l).raw = l.raw
      ∧ (forcedLive d v l).failCount = l.failCount ∧ (forcedLive d v l).lastCycle = l.lastCycle := by
  unfold forcedLive
  cases d.part <;> exact ⟨rfl, rfl, rfl, rfl, rfl, rfl, rfl, rfl, rfl, rfl⟩

theorem forcedLive_analog {d : Descriptor} {a : AnalogPart} (h : d.part = .analog a) (v : Int) (l : LiveRecord) :
    (forcedLive d v l).band = targetBand a l.band v := by
  simp [forcedLive, h]

theorem forcedLive_discrete {d : Descriptor} {x : DiscretePart} (h : d.part = .discrete x) (v : Int) (l : LiveRecord) :
    (forcedLive d v l).level = decide (v ≠ 0) ∧ (forcedLive d v l).asserted
      = if decide (v ≠ 0) = l.level then l.asserted else assertedAfterEdge x (decide (v ≠ 0)) l.asserted := by
  simp [forcedLive, h]

/-- R30's table for the edge to a forced value of 0 or 1. -/
theorem assertedAfterEdge_forced (x : DiscretePart) {v : Int} (hv : v = 0 ∨ v = 1) (a : Bool) :
    assertedAfterEdge x (decide (v ≠ 0)) a
      = if x.edge = .both ∨ x.edge = .rising ∧ v = 1 ∨ x.edge = .falling ∧ v = 0 then true
        else decide (x.mode = .sticky) && a := by
  unfold assertedAfterEdge
  rcases hv with rfl | rfl <;> cases x.edge <;> cases x.mode <;> simp [edgeSelected]

theorem unforcedLive_kept (l : LiveRecord) : (unforcedLive l).asserted = l.asserted ∧ (unforcedLive l).band = l.band :=
  ⟨rfl, rfl⟩

/-! ## A new live record with nothing to hand off (R41) -/

theorem points_ext {s t : State} (h : ∀ j, t.point j = s.point j) : t.points = s.points := by
  refine Vector.ext fun k hk => ?_
  have := h ⟨k, hk⟩
  simpa only [State.point, Vector.get_eq_getElem] using this

/-- With the band kept and no flag newly set, nothing is handed off. -/
theorem handOff_quiet (d : Option Port) (i : PointIx) {a b : LiveRecord} (hb : a.band = b.band)
    (ha : a.asserted = false → b.asserted = false) : handOff d i a b s = s := by
  unfold handOff
  simp only [hb, ne_eq, not_true_eq_false, false_and, if_false]
  rw [if_neg]
  rintro ⟨h1, h2, -⟩
  rw [ha h1] at h2
  cases h2

/-- The reports of a new live record, before its hand-offs (R40). -/
def reportLive (d : Option Port) (i : PointIx) (x : LiveRecord) (s : State) : State :=
  reportAsserted d i (s.point i).live.asserted x.asserted (reportBand d i (s.point i).live.band x.band
    (reportFailed d i (s.point i).live.quality x.quality (s.setLive i x)))

theorem commitLive_eq (d : Option Port) (i : PointIx) (x : LiveRecord) :
    commitLive d i x s = handOff d i (s.point i).live x (reportLive d i x s) := rfl

theorem reportLive_frame (d : Option Port) (i : PointIx) (x : LiveRecord) : ChangesOnly reportBlocks s (reportLive d i x s) :=
  (((setLive_frame s i x).comp (reportFailed_frame _ d i _ _) (n := reportBlocks)).comp (reportBand_frame _ d i _ _)
    (n := reportBlocks)).comp (reportAsserted_frame _ d i _ _)

theorem reportLive_delivers (d : Option Port) (i : PointIx) (x : LiveRecord) : Delivers d s (reportLive d i x s) :=
  (((Delivers.of_frame (setLive_frame s i x)).trans (reportFailed_delivers _ d i _ _)).trans
    (reportBand_delivers _ d i _ _)).trans (reportAsserted_delivers _ d i _ _)

theorem commitLive_quiet (d : Option Port) (i : PointIx) (x : LiveRecord) (hb : (s.point i).live.band = x.band)
    (ha : (s.point i).live.asserted = false → x.asserted = false) : commitLive d i x s = reportLive d i x s := by
  rw [commitLive_eq, handOff_quiet _ d i hb ha]

/-- A live record that keeps quality, band and flag is written and nothing is reported. -/
theorem reportLive_silent (d : Option Port) (i : PointIx) (x : LiveRecord) (hq : (s.point i).live.quality = x.quality)
    (hb : (s.point i).live.band = x.band) (ha : (s.point i).live.asserted = x.asserted) :
    reportLive d i x s = s.setLive i x := by
  have hf : reportFailed d i (s.point i).live.quality x.quality (s.setLive i x) = s.setLive i x := by
    unfold reportFailed
    rw [if_neg (by rw [hq]; tauto), if_neg (by rw [hq]; tauto)]
  rw [reportLive, hf, reportBand, if_pos hb, reportAsserted, if_pos ha]

/-! ## The hand-off that ends claims (R41, R148) -/

/-- The economy trigger's part of the hand-off. -/
def handClock (d : Option Port) (i : PointIx) (a b : LiveRecord) (s : State) : State :=
  if a.band ≠ b.band ∧ s.economyTrigger = some i then reevaluateClock d s else s

theorem handOff_eq (d : Option Port) (i : PointIx) (a b : LiveRecord) : handOff d i a b s
    = if a.asserted = false ∧ b.asserted = true ∧ (handClock d i a b s).siteLocal = some i
      then endRouteClaims (handClock d i a b s) else handClock d i a b s := rfl

theorem handClock_delivers (d : Option Port) (i : PointIx) (a b : LiveRecord) : Delivers d s (handClock d i a b s) :=
  Delivers.ite (.refl s d) (reevaluateClock_delivers s d)

theorem handClock_blocks (d : Option Port) (i : PointIx) (a b : LiveRecord) :
    ChangesOnly [.arb, .clock, .notices, .ports, .routes] s (handClock d i a b s) := by
  unfold handClock
  split
  · exact reevaluateClock_frame s d
  · exact .refl _ s

/-- While port p's request is served, a new live record keeps that request and begins no restart. -/
theorem commitLive_keepsRequest {p : Port} (h : NoItems p s) (i : PointIx) (x : LiveRecord) :
    KeepsRequest p s (commitLive (some p) i x s) ∧ (commitLive (some p) i x s).restart = s.restart := by
  have h1 := (reportLive_delivers s (some p) i x).trans (handClock_delivers _ (some p) i (s.point i).live x)
  have hframe := (reportLive_frame s (some p) i x).comp (handClock_blocks _ (some p) i (s.point i).live x)
    (n := [.points, .arb, .clock, .notices, .ports, .routes])
  rw [commitLive_eq, handOff_eq]
  generalize handClock (some p) i (s.point i).live x (reportLive (some p) i x s) = u at h1 hframe ⊢
  split
  · have hu : NoItems p u := h.of_workKept (.of_workList (by rw [hframe.acts]))
    have h2 : ClaimsEnd p u (endRouteClaims u) := endClaims_claimsEnd u hu (nextMoment u) isRoute
    exact ⟨h1.keepsRequest.trans h2.request, h2.restart.trans hframe.restart⟩
  · exact ⟨h1.keepsRequest, hframe.restart⟩

/-- The site-local point's flag newly set ends the claims of the route ports (R143, R148). -/
theorem commitLive_endsClaims (d : Option Port) {i : PointIx} {x : LiveRecord} (hs : s.siteLocal = some i)
    (h0 : (s.point i).live.asserted = false) (h1 : x.asserted = true) {a : ActIx}
    (hh : (s.actuator a).holder = some .east ∨ (s.actuator a).holder = some .west) : ClaimEnded a s (commitLive d i x s) := by
  have hframe := (reportLive_frame s d i x).comp (handClock_blocks _ d i (s.point i).live x)
    (n := [.points, .arb, .clock, .notices, .ports, .routes])
  rw [commitLive_eq, handOff_eq, if_pos ⟨h0, h1, by rw [hframe.siteLocal]; exact hs⟩]
  generalize handClock d i (s.point i).live x (reportLive d i x s) = u at hframe ⊢
  have hact : u.actuator a = s.actuator a := hframe.actuator a
  have hend : ∀ q, (u.actuator a).holder = some q → isRoute q = true → ClaimEnded a s (endRouteClaims u) := fun q hq hr => by
    have hu : ClaimEnded a u (endRouteClaims u) := endClaims_ended u (nextMoment u) hq hr
    unfold ClaimEnded at hu ⊢
    rwa [hact] at hu
  rcases hh with hh | hh
  · exact hend .east (by rw [hact]; exact hh) rfl
  · exact hend .west (by rw [hact]; exact hh) rfl

theorem takeHead_noItems {p q : Port} (h : NoItems p s) : NoItems p (takeHead q s) :=
  h.of_workKept (.of_workList (by rw [takeHead_acts]))

/-! ## The three requests -/

section requests
variable {s} {p : Port} {req : Request} {i : PointIx} {d : Descriptor}

theorem serveForcePoint_accepted {x : Option Port} (hi : pointIxOf (byteAt req.body 0) = i) (hd : s.descOf i = some d)
    (hm : p = .hut ∨ d.routeMask.get p = true) {v : Int} (hv : int16At req.body 1 = v)
    (hr : d.isDiscrete = true → v = 0 ∨ v = 1) : serveForcePoint p x req s
      = (commitLive x i (forcedLive d v (s.point i).live) s, some ⟨.ok, liveBytes d (forcedLive d v (s.point i).live)⟩) := by
  have hrange : forceInRange d v = true := by
    cases hk : d.isDiscrete with
    | false => simp [forceInRange, hk]
    | true => simpa [forceInRange, hk] using hr hk
  simp [serveForcePoint, hi, hd, maskAdmits_eq_true hm, hv, hrange, answer, commitLive_live]

theorem serveUnforcePoint_forced {x : Option Port} (hi : pointIxOf (byteAt req.body 0) = i) (hd : s.descOf i = some d)
    (hm : p = .hut ∨ d.routeMask.get p = true) (hq : (s.point i).live.quality = .forced) : serveUnforcePoint p x req s
      = (reportLive x i (unforcedLive (s.point i).live) s, some ⟨.ok, liveBytes d (unforcedLive (s.point i).live)⟩) := by
  have hc := commitLive_quiet s x i (unforcedLive (s.point i).live) rfl fun h => h
  rw [← hc]
  simp [serveUnforcePoint, hi, hd, maskAdmits_eq_true hm, hq, answer, commitLive_live]

theorem serveUnforcePoint_other {x : Option Port} (hi : pointIxOf (byteAt req.body 0) = i) (hd : s.descOf i = some d)
    (hm : p = .hut ∨ d.routeMask.get p = true) (hq : (s.point i).live.quality ≠ .forced) :
    serveUnforcePoint p x req s = (s, some ⟨.ok, liveBytes d (s.point i).live⟩) := by
  simp [serveUnforcePoint, hi, hd, maskAdmits_eq_true hm, hq, answer]

theorem serveClearAsserted_accepted {x : Option Port} (hi : pointIxOf (byteAt req.body 0) = i) (hd : s.descOf i = some d)
    (hm : p = .hut ∨ d.routeMask.get p = true) (hs : isSticky d = true) : serveClearAsserted p x req s
      = (reportLive x i { (s.point i).live with asserted := false } s, some ⟨.ok, [boolByte (s.point i).live.level, 0]⟩) := by
  have hc := commitLive_quiet s x i { (s.point i).live with asserted := false } rfl fun _ => rfl
  rw [← hc]
  simp [serveClearAsserted, hi, hd, maskAdmits_eq_true hm, hs, answer, commitLive_live, boolByte]

/-- An accepted FORCE POINT (R18, R37). -/
theorem forcePoint_accepted (hi : pointIxOf (byteAt req.body 0) = i) (hd : s.descOf i = some d)
    (hm : p = .hut ∨ d.routeMask.get p = true) (h : Asked .forcePoint p s req) (hn : NoItems p s) {v : Int}
    (hv : int16At req.body 1 = v) (hr : d.isDiscrete = true → v = 0 ∨ v = 1) :
    ∃ t, exec (.forcePoint p) s = .next t ∧ AnsweredLast p req .ok (liveBytes d (t.point i).live) s t
      ∧ ChangesOnly [.points, .notices, .ports, .routes, .clock, .arb, .acts, .hreq] s t ∧ OtherPointsKept i s t
      ∧ (t.point i).state = (s.point i).state ∧ (t.point i).scanMark = (s.point i).scanMark
      ∧ (t.point i).live = forcedLive d v (s.point i).live
      ∧ (s.siteLocal = some i → (s.point i).live.asserted = false → (t.point i).live.asserted = true →
          ∀ a, ((s.actuator a).holder = some .east ∨ (s.actuator a).holder = some .west) → ClaimEnded a s t) := by
  have hf := serveForcePoint_accepted (s := takeHead p s) (x := some p) hi (by simpa using hd) hm hv hr
  rw [takeHead_point] at hf
  obtain ⟨hkeep, hrest⟩ := commitLive_keepsRequest (takeHead p s) (takeHead_noItems s hn) i (forcedLive d v (s.point i).live)
  obtain ⟨t, ht, hans, hk⟩ := serve_answeredLast h.1 (ofKind_of_asked h) hf hkeep (.inl (kind_ne_restart h.2 (by decide)))
  have htp : ∀ j, t.point j = (commitLive (some p) i (forcedLive d v (s.point i).live) (takeHead p s)).point j := fun j =>
    hk.point j
  have hlive : (t.point i).live = forcedLive d v (s.point i).live := by
    rw [htp, commitLive_live, if_pos rfl]
  have hframe : ChangesOnly [.points, .notices, .ports, .routes, .clock, .arb, .acts] (takeHead p s)
      (commitLive (some p) i (forcedLive d v (s.point i).live) (takeHead p s)) :=
    (commitLive_frame _ _ i _).without (b := .restart) hrest
  refine ⟨t, ht, by rw [hlive]; exact hans, ((takeHead_frame s p).comp hframe
    (n := [.points, .notices, .ports, .routes, .clock, .arb, .acts, .hreq])).comp hk,
    (commitLive_others (takeHead p s) _ i _).congr (fun j => (takeHead_point s p j).symm) htp, ?_, ?_, hlive,
    fun hsite h0 h1 a ha => ?_⟩
  · rw [htp, commitLive_state, takeHead_point]
  · rw [htp, commitLive_scanMark, takeHead_point]
  · rw [hlive] at h1
    have hend := commitLive_endsClaims (takeHead p s) (some p) (x := forcedLive d v (s.point i).live) (by simpa using hsite)
      (by simpa using h0) h1 (a := a) (by simpa using ha)
    unfold ClaimEnded at hend ⊢
    rw [hk.actuator, hk.acts]
    simpa using hend

/-- An accepted UNFORCE POINT (R19). -/
theorem unforcePoint_accepted (hi : pointIxOf (byteAt req.body 0) = i) (hd : s.descOf i = some d)
    (hm : p = .hut ∨ d.routeMask.get p = true) (h : Asked .unforcePoint p s req) :
    ∃ t, exec (.unforcePoint p) s = .next t ∧ AnsweredAfter p req .ok (liveBytes d (t.point i).live) s t
      ∧ ChangesOnly [.points, .notices, .ports, .routes, .hreq] s t ∧ (∀ j, j ≠ i → t.point j = s.point j)
      ∧ ((s.point i).live.quality ≠ .forced → t.point i = s.point i ∧ t.notices = s.notices)
      ∧ ((s.point i).live.quality = .forced → t.point i = { s.point i with live := unforcedLive (s.point i).live }) := by
  have hd' : (takeHead p s).descOf i = some d := by simpa using hd
  by_cases hq : (s.point i).live.quality = .forced
  · have hf := serveUnforcePoint_forced (x := some p) hi hd' hm (by simpa using hq)
    rw [takeHead_point] at hf
    obtain ⟨t, ht, hans, -, hk⟩ := serve_answeredAfter h.1 (ofKind_of_asked h) hf (reportLive_delivers _ _ i _)
      (.inl (kind_ne_restart h.2 (by decide)))
    have htp : ∀ j, t.point j = ((takeHead p s).setLive i (unforcedLive (s.point i).live)).point j := fun j => by
      rw [hk.point, ← commitLive_quiet _ _ _ _ (by rw [takeHead_point]; rfl) (by rw [takeHead_point]; exact id),
        commitLive_point, if_neg]
      rw [takeHead_point]
      exact fun hc => hc.1 rfl
    have hself : t.point i = { s.point i with live := unforcedLive (s.point i).live } := by
      rw [htp, setLive_point_self, takeHead_point]
    refine ⟨t, ht, by rw [hself]; exact hans, ((takeHead_frame s p).comp (reportLive_frame _ _ i _)
      (n := [.points, .notices, .ports, .routes, .hreq])).comp hk, fun j hj => ?_, fun hn => absurd hq hn, fun _ => hself⟩
    rw [htp, setLive_point, if_neg hj, takeHead_point]
  · have hf := serveUnforcePoint_other (x := some p) hi hd' hm (by simpa using hq)
    rw [takeHead_point] at hf
    obtain ⟨t, ht, hans, -, hk⟩ := serve_answeredAfter h.1 (ofKind_of_asked h) hf (.refl _ _)
      (.inl (kind_ne_restart h.2 (by decide)))
    have htp : ∀ j, t.point j = s.point j := fun j => by rw [hk.point, takeHead_point]
    exact ⟨t, ht, by rw [htp]; exact hans, (takeHead_frame s p).comp hk, fun j _ => htp j,
      fun _ => ⟨htp i, by rw [hk.notices, takeHead_notices]⟩, fun hc => absurd hc hq⟩

/-- An accepted CLEAR ASSERTED (R31). -/
theorem clearAsserted_accepted (hi : pointIxOf (byteAt req.body 0) = i) (hd : s.descOf i = some d)
    (hm : p = .hut ∨ d.routeMask.get p = true) (h : Asked .clearAsserted p s req) (hs : isSticky d = true) :
    ∃ t, exec (.clearAsserted p) s = .next t ∧ AnsweredAfter p req .ok [boolByte (s.point i).live.level, 0] s t
      ∧ ChangesOnly [.points, .notices, .ports, .routes, .hreq] s t ∧ OtherPointsKept i s t
      ∧ (t.point i).live = { (s.point i).live with asserted := false }
      ∧ (t.point i).state = (s.point i).state ∧ (t.point i).scanMark = (s.point i).scanMark
      ∧ ((s.point i).live.asserted = false → t.points = s.points ∧ t.notices = s.notices)
      ∧ ((s.point i).live.asserted = true → ∀ j, j = i ∨ gatedBy s i j = true →
          (t.point j).reportedAsserted = assertedActive t j) := by
  have hf := serveClearAsserted_accepted (s := takeHead p s) (x := some p) hi (by simpa using hd) hm hs
  rw [takeHead_point] at hf
  obtain ⟨t, ht, hans, -, hk⟩ := serve_answeredAfter h.1 (ofKind_of_asked h) hf (reportLive_delivers _ _ i _)
    (.inl (kind_ne_restart h.2 (by decide)))
  have hquiet := commitLive_quiet (takeHead p s) (some p) i { (s.point i).live with asserted := false }
    (by rw [takeHead_point]) fun _ => rfl
  have htp : ∀ j, t.point j
      = (commitLive (some p) i { (s.point i).live with asserted := false } (takeHead p s)).point j := fun j => by
    rw [hk.point, hquiet]
  refine ⟨t, ht, hans, ((takeHead_frame s p).comp (reportLive_frame _ _ i _)
    (n := [.points, .notices, .ports, .routes, .hreq])).comp hk,
    (commitLive_others (takeHead p s) _ i _).congr (fun j => (takeHead_point s p j).symm) htp, ?_, ?_, ?_, fun h0 => ?_,
    fun h1 j hj => ?_⟩
  · rw [htp, commitLive_live, if_pos rfl]
  · rw [htp, commitLive_state, takeHead_point]
  · rw [htp, commitLive_scanMark, takeHead_point]
  · have hsame : { (s.point i).live with asserted := false } = (s.point i).live := by rw [← h0]
    have hsilent := reportLive_silent (takeHead p s) (some p) i { (s.point i).live with asserted := false }
      (by rw [takeHead_point]) (by rw [takeHead_point]) (by rw [takeHead_point, h0])
    rw [hsilent] at hk
    refine ⟨points_ext fun j => ?_, by rw [hk.notices, setLive_notices, takeHead_notices]⟩
    rw [hk.point, setLive_point, hsame]
    split
    · next e => subst e; rw [takeHead_point]
    · rw [takeHead_point]
  · rw [htp, assertedActive_of_points htp]
    refine commitLive_reported (takeHead p s) (some p) i j _ (by rw [takeHead_point, h1]; simp) ?_
    rw [gatedBy_congr (takeHead_descOf s p j)]
    exact hj

end requests

/-- Settles O17, from the live record that each request makes. -/
theorem forcedValueSetAndRemoved : Obligations.ForcedValueSetAndRemoved := by
  intro p s req i d hi hd hm
  refine ⟨fun h hn v hv hr => ?_, fun h => ?_, fun h hs => clearAsserted_accepted hi hd hm h hs⟩
  · obtain ⟨t, ht, hans, hframe, hothers, hstate, hmark, hlive, hend⟩ := forcePoint_accepted hi hd hm h hn hv hr
    obtain ⟨hval, hfil, hsat, hq, hfv, hcand, hcount, hraw, hfail, hcyc⟩ := forcedLive_fields d v (s.point i).live
    refine ⟨t, ht, hans, hframe, hothers, hstate, hmark, by rw [hlive, hval], by rw [hlive, hfil], by rw [hlive, hsat],
      by rw [hlive, hq], by rw [hlive, hfv], by rw [hlive, hcand], by rw [hlive, hcount], by rw [hlive, hraw],
      by rw [hlive, hfail], by rw [hlive, hcyc], fun a ha => by rw [hlive, forcedLive_analog ha], fun x hx => ?_, hend⟩
    have hv01 : v = 0 ∨ v = 1 := hr (by simp [Descriptor.isDiscrete, Descriptor.discrete?, hx])
    obtain ⟨hlevel, hasserted⟩ := forcedLive_discrete hx v (s.point i).live
    rw [hlive, hlevel, hasserted]
    refine ⟨by rcases hv01 with rfl | rfl <;> rfl, fun he => by rw [if_pos he], fun he => ?_⟩
    rw [if_neg he]
    exact assertedAfterEdge_forced x hv01 _
  · obtain ⟨t, ht, hans, hframe, hothers, hother, hforced⟩ := unforcePoint_accepted hi hd hm h
    exact ⟨t, ht, hans, hframe, hothers, hother, hforced⟩

end Sys2Proof.Machine
end

section
/-! SUPPORT. What the steps of a supervision restart do, operation by operation: the frames that Notice Delivery adds, reports to an
empty Notice Table, the policy writes, cycle 0 and the clock (R46, R98, R124, R157, R181). -/

set_option Elab.async false

namespace Sys2Proof.Machine

variable (s : State)

/-! ## Notice Delivery places ATTENTION frames and no others (R124, R127) -/

/-- Notice Delivery alone has acted on the ports, and what stands in an output queue stood there before or is an ATTENTION. -/
structure AddsAttention (s t : State) : Prop where
  delivers : Delivers none s t
  frames : ∀ q, ∀ f ∈ (t.port q).output, f.mark = .attention ∨ f ∈ (s.port q).output

theorem AddsAttention.trans {s t u : State} (h : AddsAttention s t) (k : AddsAttention t u) : AddsAttention s u :=
  ⟨h.delivers.trans k.delivers, fun q f hf => (k.frames q f hf).elim .inl (h.frames q f)⟩

/-- A change elsewhere adds no frame. -/
theorem AddsAttention.of_frame {l : List Block} {s t : State} (h : ChangesOnly l s t) (hp : Block.ports ∉ l := by decide)
    (hr : Block.routes ∉ l := by decide) : AddsAttention s t :=
  ⟨.of_frame h hp hr, fun q _ hf => .inr (by rwa [h.port q hp] at hf)⟩

/-- A change that leaves the ports alone and that Notice Delivery made adds no frame. -/
theorem AddsAttention.of_ports {l : List Block} {s t : State} (h : Delivers none s t) (hf : ChangesOnly l s t)
    (hp : Block.ports ∉ l := by decide) : AddsAttention s t :=
  ⟨h, fun q _ hm => .inr (by rwa [hf.port q hp] at hm)⟩

theorem AddsAttention.refl : AddsAttention s s := .of_frame (.refl [] s)

theorem setReported_adds (p : Port) (v : Nat) : AddsAttention s (setReported p v s) :=
  .of_ports (setReported_delivers s none p v) (setReported_frame s p v)

theorem setOwed_adds (r : RoutePort) (b : Bool) : AddsAttention s (setOwed r b s) :=
  .of_ports (setOwed_delivers s none r b) (setOwed_frame s r b)

/-- A port's queue whose frames are ATTENTIONs or were there. -/
theorem setPort_output_frames (p : Port) {x : PortState}
    (h : ∀ f ∈ x.output, f.mark = .attention ∨ f ∈ (s.port p).output) :
    ∀ q, ∀ f ∈ ((s.setPort p x).port q).output, f.mark = .attention ∨ f ∈ (s.port q).output := by
  intro q f hf
  rw [setPort_port] at hf
  split at hf
  · next e => exact e ▸ h f hf
  · exact .inr hf

theorem replaceAttention_frames {v : Nat} {l : List OutFrame} {f : OutFrame} (h : f ∈ replaceAttention v l) :
    f.mark = .attention ∨ f ∈ l := by
  obtain ⟨g, hg, rfl⟩ := List.mem_map.1 h
  split
  · exact .inl rfl
  · exact .inr hg

theorem refreshAttention_adds (r : RoutePort) : AddsAttention s (refreshAttention r s) := by
  refine ⟨refreshAttention_delivers s none r, ?_⟩
  unfold refreshAttention
  simp only []
  split
  · intro q f hf
    rw [(setReported_frame _ _ _).port] at hf
    exact setPort_output_frames s _ (fun _ => replaceAttention_frames) q f hf
  · exact fun _ _ hf => .inr hf

theorem pushAttention_adds (p : Port) (v w : Nat) : AddsAttention s (pushFrame p (attentionFrame v) w s) := by
  refine ⟨pushFrame_delivers s none p _ w (by simp), fun q f hf => ?_⟩
  unfold pushFrame at hf
  rw [(setReported_frame _ _ _).port] at hf
  refine setPort_output_frames s p (fun g hg => ?_) q f hf
  rcases List.mem_append.1 hg with hg | hg
  · exact .inr hg
  · exact .inl (by rw [List.mem_singleton.1 hg]; rfl)

theorem decideAttention_adds (r : RoutePort) : AddsAttention s (decideAttention r s) := by
  unfold decideAttention
  simp only []
  split
  · exact refreshAttention_adds s r
  · split
    · split
      · exact pushAttention_adds s _ _ _
      · exact setOwed_adds s r true
    · exact setOwed_adds s r false

theorem lowerReported_adds (p : Port) (v : Nat) : AddsAttention s (lowerReported p v s) := by
  unfold lowerReported
  split
  · exact .refl s
  · split
    · exact setReported_adds s p v
    · exact .refl s

theorem decideAttentionOf_adds (p : Port) : AddsAttention s (decideAttentionOf none p s) := by
  unfold decideAttentionOf
  split
  · exact .refl s
  · simp only [reduceCtorEq, if_false]
    exact decideAttention_adds s _

theorem recompute_adds (p : Port) : AddsAttention s (recompute none p s) := by
  unfold recompute
  split
  · exact .refl s
  · refine AddsAttention.trans (AddsAttention.trans ?_ (lowerReported_adds _ p _)) (decideAttentionOf_adds _ p)
    exact ⟨setPort_delivers s none p _ ⟨rfl, rfl, rfl, rfl, rfl, rfl⟩ (by simp), setPort_output_frames s p fun _ h => .inr h⟩

theorem settle_adds : AddsAttention s (settle none s) :=
  ((recompute_adds s .east).trans (recompute_adds _ .west)).trans (recompute_adds _ .hut)

theorem report_adds (id : NoticeId) (r : Report) : AddsAttention s (report none id r s) :=
  (AddsAttention.of_frame (applyReport_frame s id r)).trans (settle_adds _)

theorem reportActivity_adds (id : NoticeId) (a : Bool) : AddsAttention s (reportActivity none id a s) := report_adds s id _

theorem reportEconomy_adds (a : Bool) : AddsAttention s (reportEconomy none a s) := by
  unfold reportEconomy
  split
  · exact .refl s
  · exact (AddsAttention.of_frame (setClock_frame s _)).trans (reportActivity_adds _ _ a)

/-! ## Reports to an empty Notice Table (R105, R107) -/

theorem report_notices (d : Option Port) (id : NoticeId) (r : Report) :
    (report d id r s).notices = (applyReport id r s).notices := (settle_frame _ d).notices

/-- The end of a condition that has no entry changes no entry (R107). -/
theorem reportActivity_end_notices (d : Option Port) (id : NoticeId) (h : s.notices.entries = []) :
    (reportActivity d id false s).notices = s.notices := by
  refine (report_notices s d id _).trans ?_
  simp [applyReport, findNotice, h]

/-- The start of ECONOMY with no entry makes the one entry (R105, R116). -/
theorem reportActivity_economy_notices (d : Option Port) (h : s.notices.entries = []) :
    (reportActivity d (.internal .economy) true s).notices
      = { s.notices with entries := [newNotice s (.internal .economy) none] } := by
  refine (report_notices s d _ _).trans ?_
  simp [applyReport, findNotice, h, enterNotice, priorityOf, InternalSource.priority, insertNotice, Config.notices,
    State.setEntries]

/-! ## The policy writes of step 4 (R155, R157) -/

/-- What the arbiter grants by, apart from the Actuator Unit's request, is the same. -/
structure GrantKept (s t : State) : Prop where
  scanner : t.arb.waiting.scanner = s.arb.waiting.scanner
  tenure : t.arb.tenure = s.arb.tenure
  hold : t.arb.grantHold = s.arb.grantHold

theorem GrantKept.of_arb {s t : State} (h : t.arb = s.arb) : GrantKept s t := by
  constructor <;> rw [h]

theorem GrantKept.trans {s t u : State} (h : GrantKept s t) (k : GrantKept t u) : GrantKept s u :=
  ⟨k.scanner.trans h.scanner, k.tenure.trans h.tenure, k.hold.trans h.hold⟩

theorem requestActuator_grantKept : GrantKept s (requestActuator s) := by
  unfold requestActuator
  split
  · exact ⟨rfl, rfl, rfl⟩
  · exact .of_arb rfl

theorem queuePolicy_grantKept (m : Nat) (i : ActIx) : GrantKept s (queuePolicy m i s) := by
  unfold queuePolicy
  split
  · exact requestActuator_grantKept s
  · refine GrantKept.trans ?_ (requestActuator_grantKept _)
    exact .of_arb rfl

theorem queuePolicy_running (m : Nat) (i : ActIx) : (queuePolicy m i s).acts.running = s.acts.running := by
  unfold queuePolicy
  split
  · rw [requestActuator_acts]
  · rw [requestActuator_acts]
    rfl

/-- What the policy writes of several actuators leave: the work list keeps what it must, no entry and no grant changes, and nothing
begins to run. -/
structure PoliciesQueued (s t : State) : Prop where
  work : WorkKept s t
  entries : ∀ a, t.actuator a = s.actuator a
  running : t.acts.running = s.acts.running
  grant : GrantKept s t

theorem PoliciesQueued.refl : PoliciesQueued s s := ⟨.refl s, fun _ => rfl, rfl, .of_arb rfl⟩

theorem PoliciesQueued.trans {s t u : State} (h : PoliciesQueued s t) (k : PoliciesQueued t u) : PoliciesQueued s u :=
  ⟨h.work.trans k.work, fun a => (k.entries a).trans (h.entries a), k.running.trans h.running, h.grant.trans k.grant⟩

theorem applyPolicy_queued (m : Nat) (i : ActIx) : PoliciesQueued s (applyPolicy m i s) := by
  unfold applyPolicy
  split
  · exact .refl s
  · split
    · exact ⟨(queuePolicy_workKept s m i).1, queuePolicy_actuator s m i, queuePolicy_running s m i, queuePolicy_grantKept s m i⟩
    · exact .refl s

theorem applyPolicy_policy (m : Nat) {i : ActIx} {d : ActDescriptor} (hd : (s.actuator i).desc = some d)
    (hp : d.policy = .safe) : .policy i ∈ (applyPolicy m i s).acts.workList := by
  unfold applyPolicy
  simp only [hd, hp, if_true]
  exact (queuePolicy_workKept s m i).2

theorem applyPolicies_queued (m : Nat) (l : List ActIx) (s : State) :
    PoliciesQueued s (l.foldl (fun s i => applyPolicy m i s) s) := by
  induction l generalizing s with
  | nil => exact .refl s
  | cons i l ih => exact (applyPolicy_queued s m i).trans (ih _)

theorem applyPolicies_policy (m : Nat) (l : List ActIx) (s : State) {i : ActIx} {d : ActDescriptor} (hi : i ∈ l)
    (hd : (s.actuator i).desc = some d) (hp : d.policy = .safe) :
    .policy i ∈ (l.foldl (fun s i => applyPolicy m i s) s).acts.workList := by
  induction l generalizing s with
  | nil => cases hi
  | cons j l ih =>
    rw [List.foldl_cons]
    rcases List.mem_cons.1 hi with rfl | hi
    · exact (applyPolicies_queued m l _).work.policies i (applyPolicy_policy s m hd hp)
    · exact ih _ hi (by rw [applyPolicy_actuator]; exact hd)

/-- The Actuator Unit at step 4 before its policy writes are queued. -/
def actuatorsCleared (s : State) : State :=
  { s with acts := { s.acts with entries := s.acts.entries.map restartEntry, running := none } }

theorem restartActuators_eq : restartActuators s
    = actIndices.foldl (fun u i => applyPolicy (nextMoment (actuatorsCleared s)) i u) (actuatorsCleared s) := rfl

theorem actuatorsCleared_actuator (a : ActIx) : (actuatorsCleared s).actuator a = restartEntry (s.actuator a) := by
  simp [State.actuator, actuatorsCleared, Vector.get_eq_getElem]

theorem restartActuators_queued : PoliciesQueued (actuatorsCleared s) (restartActuators s) := by
  rw [restartActuators_eq]
  exact applyPolicies_queued _ actIndices _

theorem restartActuators_actuator (a : ActIx) : (restartActuators s).actuator a = restartEntry (s.actuator a) :=
  ((restartActuators_queued s).entries a).trans (actuatorsCleared_actuator s a)

theorem restartActuators_policy {i : ActIx} {d : ActDescriptor} (hd : (s.actuator i).desc = some d) (hp : d.policy = .safe) :
    .policy i ∈ (restartActuators s).acts.workList := by
  rw [restartActuators_eq]
  exact applyPolicies_policy _ actIndices _ (List.mem_finRange i) (by rw [actuatorsCleared_actuator]; exact hd) hp

/-! ## Cycle 0 (R46, R49, R50) -/

/-- The walk at its end: IDLE, the position at the end of the list, the cycle number one higher (R50). -/
def cycleEnded (s : State) : State :=
  s.setScan { s.scan with cycleState := .idle, passed := s.scan.list, ahead := [], cycleNumber := s.scan.cycleNumber + 1 }

/-- A cycle starts with the held start clear, so that at most one cycle starts and completes at once. -/
theorem startCycle_eq (d : Option Port) : startCycle d s
    = if s.scan.inFlight = none ∧ s.arb.waiting.scanner = false ∧ s.arb.tenure ≠ some .scanner then
        if anyDueAhead (beginCycle s) then setScannerWaiting true (beginCycle s) else endOverrun d (cycleEnded (beginCycle s))
      else beginCycle s := by
  have hheld : (endOverrun d (cycleEnded (beginCycle s))).scan.heldStart = false := by
    unfold endOverrun
    split
    · rw [(reportActivity_frame _ d _ _).scan]
      rfl
    · rfl
  have hend : completeCycle d (beginCycle s) = endOverrun d (cycleEnded (beginCycle s)) := by
    simp [completeCycle, cycleEnded, beginCycle]
  have hguard : ((beginCycle s).scan.cycleState = .walking ∧ (beginCycle s).scan.inFlight = none
      ∧ (beginCycle s).arb.waiting.scanner = false ∧ (beginCycle s).arb.tenure ≠ some .scanner)
      ↔ (s.scan.inFlight = none ∧ s.arb.waiting.scanner = false ∧ s.arb.tenure ≠ some .scanner) :=
    ⟨fun ⟨_, h⟩ => h, fun h => ⟨rfl, h⟩⟩
  unfold startCycle walk
  simp only [hguard, hend, hheld, Bool.false_eq_true, if_false]

theorem endOverrun_adds : AddsAttention s (endOverrun none s) := by
  unfold endOverrun
  split
  · exact (AddsAttention.of_frame (setScan_frame s _)).trans (reportActivity_adds _ _ _)
  · exact .refl s

/-- What `endOverrun` leaves of the Scanner: the overrun alone ends (R55). -/
theorem endOverrun_scan (d : Option Port) : (endOverrun d s).scan = { s.scan with overrun := false } := by
  unfold endOverrun
  split
  · rw [(reportActivity_frame _ d _ _).scan]
    rfl
  · next h =>
    generalize s.scan = x at h
    cases x
    simp_all

/-- `endOverrun` reports an end, which an empty Notice Table ignores. -/
theorem endOverrun_notices (d : Option Port) (h : s.notices.entries = []) : (endOverrun d s).notices = s.notices := by
  unfold endOverrun
  split
  · exact reportActivity_end_notices _ d _ h
  · rfl

theorem endOverrun_arb (d : Option Port) : (endOverrun d s).arb = s.arb := by
  unfold endOverrun
  split
  · rw [(reportActivity_frame _ d _ _).arb]
    rfl
  · rfl

/-- What the start of a cycle leaves, whatever the cycle comes to at once. -/
structure CycleStarted (s t : State) : Prop where
  adds : AddsAttention s t
  notices : t.notices = s.notices
  hold : t.arb.grantHold = s.arb.grantHold
  inFlight : t.scan.inFlight = s.scan.inFlight

theorem startCycle_started (h : s.notices.entries = []) : CycleStarted s (startCycle none s) := by
  have h0 : AddsAttention s (beginCycle s) := .of_frame (beginCycle_frame s)
  rw [startCycle_eq]
  split
  · split
    · exact ⟨h0.trans (.of_frame (setScannerWaiting_frame _ true)), rfl, rfl, rfl⟩
    · refine ⟨(h0.trans (.of_frame (setScan_frame _ _))).trans (endOverrun_adds _), endOverrun_notices _ none h, ?_, ?_⟩
      · rw [endOverrun_arb]; rfl
      · rw [endOverrun_scan]; rfl
  · exact ⟨h0, rfl, rfl, rfl⟩

/-- In cycle 0 every class is due (R49). -/
theorem dueIn_zero (c : ScanClass) : dueIn 0 c = true := by cases c <;> rfl

theorem anyDueAhead_beginCycle (hn : s.scan.cycleNumber = 0) (hd : ∀ i ∈ s.scan.list, (s.descOf i).isSome = true)
    (hl : s.scan.list ≠ []) : anyDueAhead (beginCycle s) = true := by
  obtain ⟨i, l, hil⟩ := List.exists_cons_of_ne_nil hl
  obtain ⟨x, hx⟩ := Option.isSome_iff_exists.1 (hd i (by simp [hil]))
  refine List.any_eq_true.2 ⟨i, by simp [beginCycle, hil], ?_⟩
  have hx' : (beginCycle s).descOf i = some x := hx
  have hn' : (beginCycle s).scan.cycleNumber = 0 := hn
  simp only [isDue, hx', hn', dueIn_zero]

/-! ## The clock at step 8 (R92, R94, R98) -/

/-- The rows of R92 without their reports. -/
def clockSwitched (s : State) : State :=
  match s.clock.clockState, s.clock.wanted with
  | .full, .economy => beginSwitch .toEconomy s
  | .economy, .full => beginSwitch .toFull s
  | .toEconomy, .full => abandonSwitch .full s
  | .toFull, .economy => abandonSwitch .economy s
  | _, _ => s

/-- The clock re-evaluated, without reports (R91, R92). -/
def clockReevaluated (s : State) : State :=
  if wantedClock s = s.clock.wanted then s else clockSwitched (s.setClock { s.clock with wanted := wantedClock s })

theorem clockSwitched_frame : ChangesOnly [.arb, .clock] s (clockSwitched s) := by
  unfold clockSwitched
  split
  · exact beginSwitch_frame s _
  · exact beginSwitch_frame s _
  · exact abandonSwitch_frame s _
  · exact abandonSwitch_frame s _
  · exact .refl _ s

theorem clockReevaluated_frame : ChangesOnly [.arb, .clock] s (clockReevaluated s) := by
  unfold clockReevaluated
  split
  · exact .refl _ s
  · exact (setClock_frame s _).comp (clockSwitched_frame _)

/-- A switch sets neither the mode nor the wanted state nor what is reported. -/
theorem clockSwitched_kept : (clockSwitched s).clock.mode = s.clock.mode ∧ (clockSwitched s).clock.wanted = s.clock.wanted
    ∧ (clockSwitched s).clock.economyReported = s.clock.economyReported := by
  unfold clockSwitched
  split <;> exact ⟨rfl, rfl, rfl⟩

theorem clockReevaluated_kept : (clockReevaluated s).clock.mode = s.clock.mode
    ∧ (clockReevaluated s).clock.wanted = wantedClock s
    ∧ (clockReevaluated s).clock.economyReported = s.clock.economyReported := by
  unfold clockReevaluated
  split
  · next h => exact ⟨rfl, h.symm, rfl⟩
  · exact clockSwitched_kept _

/-- With no ECONOMY reported the rows of R92 differ from their form without reports in the one that returns to ECONOMY. -/
theorem actOnWanted_eq (d : Option Port) (h : s.clock.economyReported = false) : actOnWanted d s
    = if s.clock.clockState = .toFull ∧ s.clock.wanted = .economy then reportEconomy d true (clockSwitched s)
      else clockSwitched s := by
  have hback : reportEconomy d false (beginSwitch .toFull s) = beginSwitch .toFull s := if_pos h
  unfold actOnWanted clockSwitched
  cases s.clock.clockState <;> cases s.clock.wanted <;> simp [hback]

/-- ECONOMY once reported is not reported again (R95). -/
theorem reportEconomy_true_twice (d : Option Port) : reportEconomy d true (reportEconomy d true s) = reportEconomy d true s := by
  refine if_pos ?_
  unfold reportEconomy
  split
  · next h => exact h
  · rw [(reportActivity_frame _ d _ _).clock]
    rfl

theorem reportEconomy_clock (d : Option Port) : (reportEconomy d true s).clock = { s.clock with economyReported := true } := by
  unfold reportEconomy
  split
  · next h =>
    generalize s.clock = x at h
    cases x
    simp_all
  · rw [(reportActivity_frame _ d _ _).clock]
    rfl

/-- Step 8 with no ECONOMY reported: the clock is re-evaluated, and one that is then in ECONOMY is reported, once (R98). -/
theorem restartClock_eq (h : s.clock.economyReported = false) : restartClock s
    = if (clockReevaluated s).clock.clockState = .economy then reportEconomy none true (clockReevaluated s)
      else clockReevaluated s := by
  unfold restartClock reevaluateClock
  by_cases hw : wantedClock s = s.clock.wanted
  · simp [clockReevaluated, hw]
  · simp only [if_neg hw, clockReevaluated]
    have hu : (s.setClock { s.clock with wanted := wantedClock s }).clock.economyReported = false := h
    generalize s.setClock { s.clock with wanted := wantedClock s } = u at hu ⊢
    rw [actOnWanted_eq u none hu]
    split
    · next hrow =>
      obtain ⟨hstate, hwant⟩ := hrow
      have hs : (clockSwitched u).clock.clockState = .economy := by
        simp only [clockSwitched, hstate, hwant]
        rfl
      simp only [reportEconomy_clock, hs, if_true, reportEconomy_true_twice]
    · rfl

end Sys2Proof.Machine
end

section
/-! PROOFS. Steps 2 to 8 of a supervision restart (O52). -/

set_option Elab.async false

namespace Sys2Proof.Machine

variable (s : State)

/-! ## Steps 2 to 6 -/

/-- The state once steps 2 to 6 are done. -/
def restartCleared (p : Port) (s : State) : State :=
  restartPoints (restartLink (restartActuators (restartNotices (restartPorts p s))))

theorem finishRestart_eq (p : Port) :
    finishRestart p s = (restartClock (restartScan (restartCleared p s))).setRestart .idle := rfl

theorem restartPoints_frame : ChangesOnly [.points] s (restartPoints s) := by
  intro b hb; cases b <;> simp_all [Block.same, restartPoints]

theorem restartPorts_port (p q : Port) : (restartPorts p s).port q = restartPort p q (s.port q) := by cases q <;> rfl

theorem restartPorts_route (p : Port) (r : RoutePort) : (restartPorts p s).route r = restartRoute (s.route r) := by
  cases r <;> rfl

theorem keptFrames_restartOk {p q : Port} {l : List OutFrame} {f : OutFrame} (h : f ∈ keptFrames p q l) :
    f.mark = .restartOk ∧ q = p := by
  unfold keptFrames at h
  split at h
  · next hq =>
    have hm := List.mem_of_getLast? (Option.mem_toList.1 h)
    exact ⟨by simpa using (List.mem_filter.1 hm).2, hq⟩
  · cases h

/-- The Referral Queue and the link at step 5 (R168). -/
def clearedLink (s : State) : HutLink :=
  { s.link with
    slots := Vector.replicate 4 .free
    silence := false
    silenceTimer := if s.link.pulse then none else some Config.silenceTime
    makingOrder := 0 }

theorem restartLink_eq : restartLink s
    = if s.link.silence then reportActivity none (.internal .hutSilent) false (s.setLink (clearedLink s))
      else s.setLink (clearedLink s) := rfl

theorem restartLink_link : (restartLink s).link = clearedLink s := by
  rw [restartLink_eq]
  split
  · exact (reportActivity_frame _ none _ _).link
  · rfl

theorem restartLink_notices (h : s.notices.entries = []) : (restartLink s).notices = s.notices := by
  rw [restartLink_eq]
  split
  · exact reportActivity_end_notices _ none _ h
  · rfl

theorem restartLink_adds : AddsAttention s (restartLink s) := by
  rw [restartLink_eq]
  split
  · exact (AddsAttention.of_frame (setLink_frame s _)).trans (reportActivity_adds _ _ _)
  · exact .of_frame (setLink_frame s _)

section cleared
variable (p : Port)

/-- Steps 2 and 3 leave the actuators, the link and the points. -/
theorem restartNotices_ports_frame :
    ChangesOnly [.ports, .routes, .notices, .clock] s (restartNotices (restartPorts p s)) :=
  (restartPorts_frame s p).comp (restartNotices_frame _)

/-- Steps 5 and 6 leave the actuators and the arbiter. -/
theorem restartPoints_link_frame : ChangesOnly [.link, .notices, .ports, .routes, .points] s (restartPoints (restartLink s)) :=
  (restartLink_frame s).comp (restartPoints_frame _)

theorem restartCleared_frame :
    ChangesOnly [.points, .arb, .clock, .notices, .ports, .routes, .acts, .link] s (restartCleared p s) :=
  ((restartNotices_ports_frame s p).comp (restartActuators_frame _)
    (n := [.arb, .clock, .notices, .ports, .routes, .acts])).comp (restartPoints_link_frame _)

theorem restartCleared_clock : (restartCleared p s).clock = { s.clock with economyReported := false } := by
  unfold restartCleared
  rw [(restartPoints_link_frame _).clock, (restartActuators_frame _).clock]
  rfl

theorem restartCleared_notices :
    (restartCleared p s).notices = { NoticeTable.initial with thresholds := s.notices.thresholds } := by
  have h : (restartActuators (restartNotices (restartPorts p s))).notices
      = { NoticeTable.initial with thresholds := s.notices.thresholds } := by
    rw [(restartActuators_frame _).notices]
    rfl
  unfold restartCleared
  rw [(restartPoints_frame _).notices, restartLink_notices _ (by rw [h]; rfl), h]

theorem restartCleared_entries : (restartCleared p s).notices.entries = [] := by
  rw [restartCleared_notices]; rfl

theorem restartCleared_acts :
    (restartCleared p s).acts = (restartActuators (restartNotices (restartPorts p s))).acts :=
  (restartPoints_link_frame _).acts

theorem restartCleared_actuator (i : ActIx) : (restartCleared p s).actuator i = restartEntry (s.actuator i) := by
  unfold restartCleared
  rw [(restartPoints_link_frame _).actuator, restartActuators_actuator, (restartNotices_ports_frame s p).actuator]

theorem restartCleared_running : (restartCleared p s).acts.running = none := by
  rw [restartCleared_acts]
  exact (restartActuators_queued _).running

theorem restartCleared_policy {i : ActIx} {d : ActDescriptor} (hd : (s.actuator i).desc = some d) (hp : d.policy = .safe) :
    .policy i ∈ (restartCleared p s).acts.workList := by
  rw [restartCleared_acts]
  exact restartActuators_policy _ (by rw [(restartNotices_ports_frame s p).actuator]; exact hd) hp

theorem restartCleared_grant : GrantKept s (restartCleared p s) := by
  have h0 : GrantKept s (actuatorsCleared (restartNotices (restartPorts p s))) := .of_arb rfl
  exact (h0.trans (restartActuators_queued _).grant).trans (.of_arb (restartPoints_link_frame _).arb)

theorem restartCleared_adds : AddsAttention (restartPorts p s) (restartCleared p s) :=
  (((AddsAttention.of_frame (restartNotices_frame _)).trans (.of_frame (restartActuators_frame _))).trans
    (restartLink_adds _)).trans (.of_frame (restartPoints_frame _))

theorem restartCleared_link : (restartCleared p s).link = clearedLink s := by
  refine ((restartPoints_frame _).link.trans (restartLink_link _)).trans ?_
  unfold clearedLink
  rw [(restartActuators_frame _).link, (restartNotices_ports_frame s p).link]

theorem restartCleared_point (i : PointIx) :
    (restartCleared p s).point i = ⟨(s.point i).state, .initial, true, false⟩ := by
  unfold restartCleared
  rw [restartPoints_point, (restartLink_frame _).point, (restartActuators_frame _).point,
    (restartNotices_ports_frame s p).point]
  rfl

theorem restartCleared_descOf (i : PointIx) : (restartCleared p s).descOf i = s.descOf i := by
  simp only [State.descOf, PointEntry.desc, restartCleared_point]

end cleared

/-! ## Step 7 -/

theorem restartedScan_frame : ChangesOnly [.uptime, .scan] s (restartedScan s) := by
  intro b hb; cases b <;> simp_all [Block.same, restartedScan]

theorem restartScan_frame : ChangesOnly [.uptime, .scan, .arb, .notices, .ports, .routes] s (restartScan s) := by
  rw [restartScan_eq]
  split
  · exact (restartedScan_frame s).comp (startCycle_frame _ none)
  · exact (restartedScan_frame s).mono

theorem restartScan_uptime : (restartScan s).uptime = 0 := by
  rw [restartScan_eq]
  split
  · exact (startCycle_frame _ none).uptime
  · rfl

theorem CycleStarted.refl : CycleStarted s s := ⟨.refl s, rfl, rfl, rfl⟩

theorem restartScan_started (h : s.notices.entries = []) : CycleStarted (restartedScan s) (restartScan s) := by
  rw [restartScan_eq]
  split
  · exact startCycle_started _ h
  · exact .refl _

theorem restartScan_adds (h : s.notices.entries = []) : AddsAttention s (restartScan s) :=
  (AddsAttention.of_frame (restartedScan_frame s)).trans (restartScan_started s h).adds

theorem restartScan_notices (h : s.notices.entries = []) : (restartScan s).notices = s.notices := by
  rw [(restartScan_started s h).notices, (restartedScan_frame s).notices]

theorem restartScan_hold (h : s.notices.entries = []) : (restartScan s).arb.grantHold = s.arb.grantHold := by
  rw [(restartScan_started s h).hold, (restartedScan_frame s).arb]

theorem restartScan_inFlight (h : s.notices.entries = []) : (restartScan s).scan.inFlight = none :=
  (restartScan_started s h).inFlight

theorem restartScan_listKept : ListKept s (restartScan s) := by
  have h : ListKept s (restartedScan s) := ⟨by simp [restartedScan, Scanner.list], rfl, rfl⟩
  rw [restartScan_eq]
  split
  · exact h.trans (startCycle_listKept _ none)
  · exact h

theorem restartScan_stopped (h : s.scan.scanState = .stopped) : restartScan s = restartedScan s := by
  rw [restartScan_eq, if_neg (by simp [h])]

/-- Cycle 0 of a RUNNING Scanner that has no bus request and no tenure. -/
theorem restartScan_running (h : s.scan.scanState = .running) (hw : s.arb.waiting.scanner = false)
    (ht : s.arb.tenure ≠ some .scanner) : restartScan s
    = if anyDueAhead (beginCycle (restartedScan s)) then setScannerWaiting true (beginCycle (restartedScan s))
      else endOverrun none (cycleEnded (beginCycle (restartedScan s))) := by
  rw [restartScan_eq, if_pos h, startCycle_eq, if_pos ⟨rfl, hw, ht⟩]

theorem beginCycle_restartedScan_scan : (beginCycle (restartedScan s)).scan
    = { s.scan with
        cycleNumber := 0
        inFlight := none
        heldStart := false
        cycleState := .walking
        passed := []
        ahead := s.scan.list
        periodTimer := some (effectivePeriod s) } := by
  simp [beginCycle, restartedScan, Scanner.list, effectivePeriod]
  rfl

/-- Cycle 0 with an entry in the list: every entry is due, so that the Scanner asks for the bus (R49, R50). -/
theorem restartScan_walks (h : s.scan.scanState = .running) (hw : s.arb.waiting.scanner = false)
    (ht : s.arb.tenure ≠ some .scanner) (hd : ∀ i ∈ s.scan.list, (s.descOf i).isSome = true) (hl : s.scan.list ≠ []) :
    restartScan s = setScannerWaiting true (beginCycle (restartedScan s)) := by
  have hlist : (restartedScan s).scan.list = s.scan.list := by simp [restartedScan, Scanner.list]
  rw [restartScan_running s h hw ht, if_pos]
  exact anyDueAhead_beginCycle _ rfl (fun i hi => hd i (hlist ▸ hi)) (hlist ▸ hl)

/-- Cycle 0 with an empty list completes at once (R50). -/
theorem restartScan_completes (h : s.scan.scanState = .running) (hw : s.arb.waiting.scanner = false)
    (ht : s.arb.tenure ≠ some .scanner) (hl : s.scan.list = []) :
    restartScan s = endOverrun none (cycleEnded (beginCycle (restartedScan s))) := by
  rw [restartScan_running s h hw ht, if_neg]
  simp [anyDueAhead, beginCycle_restartedScan_scan, hl]

theorem restartScan_timer (h : s.scan.scanState = .running) (hw : s.arb.waiting.scanner = false)
    (ht : s.arb.tenure ≠ some .scanner) : (restartScan s).scan.heldStart = false
      ∧ (restartScan s).scan.periodTimer = some (effectivePeriod s) := by
  rw [restartScan_running s h hw ht]
  split
  · exact ⟨rfl, rfl⟩
  · rw [endOverrun_scan]
    exact ⟨rfl, rfl⟩

theorem restartScan_walks_state (h : s.scan.scanState = .running) (hw : s.arb.waiting.scanner = false)
    (ht : s.arb.tenure ≠ some .scanner) (hd : ∀ i ∈ s.scan.list, (s.descOf i).isSome = true) (hl : s.scan.list ≠ []) :
    (restartScan s).scan.cycleState = .walking ∧ (restartScan s).scan.cycleNumber = 0 ∧ (restartScan s).scan.passed = []
      ∧ (restartScan s).scan.ahead = s.scan.list ∧ (restartScan s).scan.overrun = s.scan.overrun
      ∧ (restartScan s).arb.waiting.scanner = true := by
  have hscan := beginCycle_restartedScan_scan s
  rw [restartScan_walks s h hw ht hd hl]
  show (beginCycle (restartedScan s)).scan.cycleState = _ ∧ (beginCycle (restartedScan s)).scan.cycleNumber = _
    ∧ (beginCycle (restartedScan s)).scan.passed = _ ∧ (beginCycle (restartedScan s)).scan.ahead = _
    ∧ (beginCycle (restartedScan s)).scan.overrun = _ ∧ true = true
  rw [hscan]
  exact ⟨rfl, rfl, rfl, rfl, rfl, rfl⟩

theorem restartScan_completes_state (h : s.scan.scanState = .running) (hw : s.arb.waiting.scanner = false)
    (ht : s.arb.tenure ≠ some .scanner) (hl : s.scan.list = []) :
    (restartScan s).scan.cycleState = .idle ∧ (restartScan s).scan.cycleNumber = 1 ∧ (restartScan s).scan.overrun = false
      ∧ (restartScan s).arb.waiting.scanner = false := by
  rw [restartScan_completes s h hw ht hl, endOverrun_scan, endOverrun_arb]
  exact ⟨rfl, rfl, rfl, hw⟩

/-! ## Step 8 -/

/-- With every band NORMAL the mode alone decides the wanted state (R91). -/
theorem wantedClock_of_normal (h : ∀ i, (s.point i).live.band = .normal) :
    wantedClock s = if s.clock.mode = .forceEconomy then .economy else .full := by
  unfold wantedClock
  cases hm : s.clock.mode
  case auto =>
    cases s.economyTrigger with
    | none => simp
    | some i => simp [h i]
  all_goals simp

theorem restartClock_adds (h : s.clock.economyReported = false) : AddsAttention s (restartClock s) := by
  have h0 : AddsAttention s (clockReevaluated s) := .of_frame (clockReevaluated_frame s)
  rw [restartClock_eq s h]
  split
  · exact h0.trans (reportEconomy_adds _ true)
  · exact h0

theorem restartClock_arb (h : s.clock.economyReported = false) : (restartClock s).arb = (clockReevaluated s).arb := by
  rw [restartClock_eq s h]
  split
  · exact (reportEconomy_frame _ none true).arb
  · rfl

theorem restartClock_clock (h : s.clock.economyReported = false) : (restartClock s).clock
    = { (clockReevaluated s).clock with economyReported := decide ((clockReevaluated s).clock.clockState = .economy) } := by
  rw [restartClock_eq s h]
  split
  · next he => simp [reportEconomy_clock, he]
  · next he =>
    have hr := (clockReevaluated_kept s).2.2.trans h
    generalize (clockReevaluated s).clock = x at he hr
    cases x
    simp_all

theorem restartClock_mode_wanted (h : s.clock.economyReported = false) : (restartClock s).clock.mode = s.clock.mode
    ∧ (restartClock s).clock.wanted = wantedClock s := by
  obtain ⟨hm, hw, -⟩ := clockReevaluated_kept s
  rw [restartClock_clock s h]
  exact ⟨hm, hw⟩

/-- An empty Notice Table gets the entry of ECONOMY and no other (R98). -/
theorem restartClock_notices (h : s.clock.economyReported = false) (hn : s.notices.entries = []) :
    (restartClock s).notices = if (clockReevaluated s).clock.clockState = .economy
      then { s.notices with entries := [newNotice (clockReevaluated s) (.internal .economy) none] } else s.notices := by
  have hf := (clockReevaluated_frame s).notices
  rw [restartClock_eq s h]
  split
  · have hr := (clockReevaluated_kept s).2.2.trans h
    simp only [reportEconomy, hr, Bool.false_eq_true, if_false]
    rw [reportActivity_economy_notices _ none (by rw [← hn, ← hf]; rfl), ← hf]
    rfl
  · exact hf

/-- A switch of the clock sets nothing of the arbiter but the grant hold. -/
theorem clockReevaluated_waiting : (clockReevaluated s).arb.waiting = s.arb.waiting := by
  unfold clockReevaluated
  split
  · rfl
  · unfold clockSwitched
    split <;> rfl

/-- The rows of R92 and R94 for the clock state, the handover and the grant hold, where w is the wanted state re-evaluated. -/
structure SwitchRows (w : WantedClock) (s t : State) : Prop where
  same : w = s.clock.wanted → t.clock.clockState = s.clock.clockState ∧ t.clock.handover = s.clock.handover
    ∧ t.arb.grantHold = s.arb.grantHold
  toEconomy : w ≠ s.clock.wanted → s.clock.clockState = .full → w = .economy →
    t.clock.clockState = .toEconomy ∧ t.arb.grantHold = true ∧ t.clock.handover = s.clock.handover
  toFull : w ≠ s.clock.wanted → s.clock.clockState = .economy → w = .full →
    t.clock.clockState = .toFull ∧ t.arb.grantHold = true ∧ t.clock.handover = s.clock.handover
  backToFull : w ≠ s.clock.wanted → s.clock.clockState = .toEconomy → w = .full →
    t.clock.clockState = .full ∧ t.clock.handover = none ∧ t.arb.grantHold = false
  backToEconomy : w ≠ s.clock.wanted → s.clock.clockState = .toFull → w = .economy →
    t.clock.clockState = .economy ∧ t.clock.handover = none ∧ t.arb.grantHold = false

/-- The rows read nothing of the state before but its clock and its grant hold, and do not read what is reported. -/
theorem SwitchRows.congr {w : WantedClock} {s u t : State} {r : Bool} (h : SwitchRows w u t)
    (hc : u.clock = { s.clock with economyReported := r }) (hg : u.arb.grantHold = s.arb.grantHold) : SwitchRows w s t := by
  obtain ⟨h0, h1, h2, h3, h4⟩ := h
  rw [hc] at h0 h1 h2 h3 h4
  rw [hg] at h0
  exact ⟨h0, h1, h2, h3, h4⟩

theorem clockReevaluated_rows : SwitchRows (wantedClock s) s (clockReevaluated s) := by
  have hrow : ∀ {c w}, wantedClock s ≠ s.clock.wanted → s.clock.clockState = c → wantedClock s = w →
      clockReevaluated s = match c, w with
        | .full, .economy => beginSwitch .toEconomy (s.setClock { s.clock with wanted := w })
        | .economy, .full => beginSwitch .toFull (s.setClock { s.clock with wanted := w })
        | .toEconomy, .full => abandonSwitch .full (s.setClock { s.clock with wanted := w })
        | .toFull, .economy => abandonSwitch .economy (s.setClock { s.clock with wanted := w })
        | _, _ => s.setClock { s.clock with wanted := w } := by
    rintro c w hne rfl rfl
    exact if_neg hne
  constructor
  case same => exact fun h => by rw [clockReevaluated, if_pos h]; exact ⟨rfl, rfl, rfl⟩
  all_goals exact fun hne hc hw => by rw [hrow hne hc hw]; exact ⟨rfl, rfl, rfl⟩

theorem restartClock_rows (h : s.clock.economyReported = false) : SwitchRows (wantedClock s) s (restartClock s) := by
  obtain ⟨h0, h1, h2, h3, h4⟩ := clockReevaluated_rows s
  constructor <;> rw [restartClock_clock s h, restartClock_arb s h] <;> assumption

/-! ## Steps 2 to 8 together -/

/-- The state once steps 2 to 8 are done. It stays folded: the lemmas below say all that is used of it. -/
@[irreducible] def restarted (p : Port) (s : State) : State := restartClock (restartScan (restartCleared p s))

section restarted
variable (p : Port)

theorem scanned_clock : (restartScan (restartCleared p s)).clock = { s.clock with economyReported := false } :=
  (restartScan_frame _).clock.trans (restartCleared_clock s p)

theorem scanned_notices : (restartScan (restartCleared p s)).notices
    = { NoticeTable.initial with thresholds := s.notices.thresholds } := by
  rw [restartScan_notices _ (restartCleared_entries s p), restartCleared_notices]

theorem scanned_hold : (restartScan (restartCleared p s)).arb.grantHold = s.arb.grantHold := by
  rw [restartScan_hold _ (restartCleared_entries s p), (restartCleared_grant s p).hold]

theorem scanned_unreported : (restartScan (restartCleared p s)).clock.economyReported = false := by rw [scanned_clock]

/-- What steps 7 and 8 leave as steps 2 to 6 left it. -/
theorem restarted_cleared_frame : ChangesOnly [.scan, .arb, .clock, .notices, .ports, .routes, .uptime]
    (restartCleared p s) (restarted p s) := by
  unfold restarted
  exact (restartScan_frame _).comp (restartClock_frame _)

theorem restarted_frame :
    ChangesOnly [.points, .scan, .arb, .clock, .notices, .ports, .routes, .acts, .link, .uptime] s (restarted p s) :=
  (restartCleared_frame s p).comp (restarted_cleared_frame s p)

theorem restarted_adds : AddsAttention (restartPorts p s) (restarted p s) := by
  unfold restarted
  exact ((restartCleared_adds s p).trans (restartScan_adds _ (restartCleared_entries s p))).trans
    (restartClock_adds _ (scanned_unreported s p))

theorem restarted_scan : (restarted p s).scan = (restartScan (restartCleared p s)).scan := by
  unfold restarted
  exact (restartClock_frame _).scan

theorem restarted_uptime : (restarted p s).uptime = 0 := by
  unfold restarted
  rw [(restartClock_frame _).uptime, restartScan_uptime]

theorem restarted_wanted : wantedClock (restartScan (restartCleared p s))
    = if s.clock.mode = .forceEconomy then .economy else .full := by
  rw [wantedClock_of_normal, scanned_clock]
  intro i
  rw [(restartScan_frame _).point, restartCleared_point]
  rfl

theorem restarted_mode_wanted : (restarted p s).clock.mode = s.clock.mode
    ∧ (restarted p s).clock.wanted = if s.clock.mode = .forceEconomy then .economy else .full := by
  obtain ⟨hm, hw⟩ := restartClock_mode_wanted _ (scanned_unreported s p)
  unfold restarted
  rw [hm, hw, restarted_wanted, scanned_clock]
  exact ⟨rfl, rfl⟩

theorem restarted_rows : SwitchRows (restarted p s).clock.wanted s (restarted p s) := by
  rw [(restarted_mode_wanted s p).2, ← restarted_wanted s p]
  unfold restarted
  exact (restartClock_rows _ (scanned_unreported s p)).congr (scanned_clock s p) (scanned_hold s p)

theorem restarted_economyReported :
    (restarted p s).clock.economyReported = decide ((restarted p s).clock.clockState = .economy) := by
  unfold restarted
  rw [restartClock_clock _ (scanned_unreported s p)]

theorem restarted_waiting : (restarted p s).arb.waiting = (restartScan (restartCleared p s)).arb.waiting := by
  unfold restarted
  rw [restartClock_arb _ (scanned_unreported s p), clockReevaluated_waiting]

/-- The Notice Table at the end of step 8: empty, but for ECONOMY with its clock in ECONOMY. -/
theorem restarted_notices : ∃ n : Notice, n.id = .internal .economy ∧ n.state = .raised ∧ n.priority = 8 ∧ n.stamp = 0
    ∧ (restarted p s).notices = { NoticeTable.initial with
        thresholds := s.notices.thresholds
        entries := if (restarted p s).clock.clockState = .economy then [n] else [] } := by
  refine ⟨newNotice (clockReevaluated (restartScan (restartCleared p s))) (.internal .economy) none, rfl, rfl, rfl, ?_, ?_⟩
  · have hu : ∀ u : State, (newNotice u (.internal .economy) none).stamp = u.uptime := fun _ => rfl
    rw [hu, (clockReevaluated_frame _).uptime, restartScan_uptime]
  · unfold restarted
    rw [restartClock_notices _ (scanned_unreported s p) (by rw [scanned_notices]; rfl),
      restartClock_clock _ (scanned_unreported s p), scanned_notices]
    split <;> rfl

theorem restarted_port (q : Port) : DeliveryOnly (restartPort p q (s.port q)) ((restarted p s).port q) :=
  restartPorts_port s p q ▸ (restarted_adds s p).delivers.ports q

theorem restarted_route (r : RoutePort) : DeliveryOnlyRoute (restartRoute (s.route r)) ((restarted p s).route r) :=
  restartPorts_route s p r ▸ (restarted_adds s p).delivers.routes r

/-- What stands in an output queue after a restart: the restart's own OK, and ATTENTIONs (R181 step 2). -/
theorem restarted_output (q : Port) {f : OutFrame} (hf : f ∈ ((restarted p s).port q).output) :
    f.mark = .attention ∨ f.mark = .restartOk ∧ q = p := by
  refine ((restarted_adds s p).frames q f hf).imp_right fun h => ?_
  rw [restartPorts_port] at h
  exact keptFrames_restartOk h

/-! ### What steps 7 and 8 leave alone -/

theorem restarted_actuator (i : ActIx) : (restarted p s).actuator i = restartEntry (s.actuator i) := by
  rw [(restarted_cleared_frame s p).actuator, restartCleared_actuator]

theorem restarted_running : (restarted p s).acts.running = none := by
  rw [(restarted_cleared_frame s p).acts, restartCleared_running]

theorem restarted_policy {i : ActIx} {d : ActDescriptor} (hd : (s.actuator i).desc = some d) (hp : d.policy = .safe) :
    .policy i ∈ (restarted p s).acts.workList := by
  rw [(restarted_cleared_frame s p).acts]
  exact restartCleared_policy s p hd hp

theorem restarted_link : (restarted p s).link = clearedLink s := by
  rw [(restarted_cleared_frame s p).link, restartCleared_link]

theorem restarted_slot (k : ReferralIx) : (restarted p s).slot k = .free := by
  rw [State.slot, restarted_link]
  exact get_replicate _ k

theorem restarted_point (i : PointIx) : (restarted p s).point i = ⟨(s.point i).state, .initial, true, false⟩ := by
  rw [(restarted_cleared_frame s p).point, restartCleared_point]

/-! ### Cycle 0 after a restart -/

theorem restarted_listKept : ListKept s (restarted p s) := by
  unfold restarted
  exact ((ListKept.of_frame (restartCleared_frame s p)).trans (restartScan_listKept _)).trans (.of_frame (restartClock_frame _))

theorem restarted_inFlight : (restarted p s).scan.inFlight = none := by
  rw [restarted_scan, restartScan_inFlight _ (restartCleared_entries s p)]

theorem restarted_stopped (h : s.scan.scanState = .stopped) :
    (restarted p s).scan.cycleState = .idle ∧ (restarted p s).scan.cycleNumber = 0 := by
  rw [restarted_scan, restartScan_stopped _ (by rw [(restartCleared_frame s p).scan, h])]
  exact ⟨rfl, rfl⟩

/-- The Scanner is RUNNING and has neither a bus request nor the tenure. -/
structure ScannerFree (s : State) : Prop where
  running : s.scan.scanState = .running
  waiting : s.arb.waiting.scanner = false
  tenure : s.arb.tenure ≠ some .scanner

variable {s} in
theorem ScannerFree.cleared (h : ScannerFree s) : ScannerFree (restartCleared p s) where
  running := by rw [(restartCleared_frame s p).scan, h.running]
  waiting := by rw [(restartCleared_grant s p).scanner, h.waiting]
  tenure := by rw [(restartCleared_grant s p).tenure]; exact h.tenure

theorem restarted_timer (h : ScannerFree s) : (restarted p s).scan.heldStart = false ∧ (restarted p s).scan.periodTimer
    = some (if s.clock.clockState = .economy then 4 * s.scan.period else s.scan.period) := by
  obtain ⟨hr, hw, ht⟩ := h.cleared p
  obtain ⟨hheld, htimer⟩ := restartScan_timer _ hr hw ht
  rw [restarted_scan, hheld, htimer, effectivePeriod, restartCleared_clock, (restartCleared_frame s p).scan]
  exact ⟨rfl, rfl⟩

/-- Every entry of a sound scan list names a defined point. -/
theorem ScanListSound.defined {s : State} (h : ScanListSound s) {i : PointIx} (hi : i ∈ s.scan.list) :
    (s.descOf i).isSome = true := by
  have := (h.2.1 i).1 hi
  unfold PointEntry.isScanned at this
  unfold State.descOf PointEntry.desc
  cases hs : (s.point i).state <;> simp_all

theorem restarted_walks (h : ScannerFree s) (hs : ScanListSound s) (hl : s.scan.list ≠ []) :
    (restarted p s).scan.cycleState = .walking ∧ (restarted p s).scan.cycleNumber = 0 ∧ (restarted p s).scan.passed = []
      ∧ (restarted p s).scan.ahead = s.scan.list ∧ (restarted p s).scan.overrun = s.scan.overrun
      ∧ (restarted p s).arb.waiting.scanner = true := by
  have hscan := (restartCleared_frame s p).scan
  obtain ⟨hr, hw, ht⟩ := h.cleared p
  have := restartScan_walks_state _ hr hw ht
    (fun i hi => by rw [restartCleared_descOf]; exact hs.defined (by rwa [hscan] at hi)) (fun h => hl (by rw [← h, hscan]))
  rwa [← restarted_scan, ← restarted_waiting, hscan] at this

theorem restarted_completes (h : ScannerFree s) (hl : s.scan.list = []) :
    (restarted p s).scan.cycleState = .idle ∧ (restarted p s).scan.cycleNumber = 1 ∧ (restarted p s).scan.overrun = false
      ∧ (restarted p s).arb.waiting.scanner = false := by
  obtain ⟨hr, hw, ht⟩ := h.cleared p
  have := restartScan_completes_state _ hr hw ht (by rw [(restartCleared_frame s p).scan, hl])
  rwa [← restarted_scan, ← restarted_waiting] at this

end restarted

/-! ## The obligation -/

theorem exec_supervisionRestartSteps {p : Port} {s : State} (hp : s.por = false) (hr : s.restart = .running p)
    (hb : s.bus.inFlight = none) :
    ∃ b, exec .supervisionRestartSteps s = .next (((restarted p s).setRestart .idle).setHreq b) := by
  refine ⟨hreqWanted (finishRestart p s), ?_⟩
  unfold restarted
  show execSupervisionRestartSteps s = _
  simp only [execSupervisionRestartSteps, hr, hb]
  exact event_next hp rfl

/-- Settles O52: the steps one after another, each by its own rules above; Notice Delivery adds ATTENTIONs alone and the Notice Table stays
empty until the clock is re-evaluated. -/
theorem supervisionRestartStepsRun : Obligations.SupervisionRestartStepsRun := by
  intro p s hpor hrun hbus
  obtain ⟨b, hexec⟩ := exec_supervisionRestartSteps hpor hrun hbus
  obtain ⟨n, hid, hstate, hprio, hstamp, hnotices⟩ := restarted_notices s p
  obtain ⟨hmode, hwanted⟩ := restarted_mode_wanted s p
  have hids : ∀ m ∈ (restarted p s).notices.entries, m.id = .internal .economy := by
    rw [hnotices]
    intro m hm
    split at hm
    · rw [List.mem_singleton.1 hm, hid]
    · cases hm
  have hslots : ∀ k, (restarted p s).notices.slots.get k = none := by rw [hnotices]; exact get_replicate none
  have hlost : (restarted p s).notices.lost = .empty := by rw [hnotices]; rfl
  have hthresholds : (restarted p s).notices.thresholds = s.notices.thresholds := by rw [hnotices]
  have hrows := restarted_rows s p
  have hlist := restarted_listKept s p
  have hlink := restarted_link s p
  refine ⟨_, hexec, rfl, ?frame, fun q => ?port, fun r => ?route, hids, hslots, hlost, hthresholds, restarted_actuator s p,
    restarted_running s p, fun _ _ => restarted_policy s p, restarted_slot s p, congrArg HutLink.silence hlink,
    congrArg HutLink.makingOrder hlink, congrArg HutLink.silenceTimer hlink, (congrArg HutLink.pulse hlink :),
    (congrArg HutLink.pulseTimer hlink :), (congrArg HutLink.hcrst hlink :), restarted_point s p, restarted_uptime s p,
    hlist.scanState, hlist.list, hlist.period, restarted_inFlight s p, restarted_stopped s p, fun hr hw ht hs => ?cycle,
    hmode, hwanted, hrows.same, fun hne => ⟨hrows.toEconomy hne, hrows.toFull hne, hrows.backToFull hne,
    hrows.backToEconomy hne⟩, restarted_economyReported s p, fun he => ?none, fun he => ⟨n, ?one, hid, hstate, hprio, hstamp⟩⟩
  case frame =>
    exact ((restarted_frame s p).comp (setRestart_frame _ .idle) (n := [.points, .scan, .arb, .clock, .notices, .ports, .routes,
      .acts, .link, .restart, .uptime])).comp (setHreq_frame _ b)
  case port =>
    obtain ⟨hrec, hreq, hexe, htrans, -, hlevel⟩ := restarted_port s p q
    exact ⟨hreq, hexe, hlevel, hrec, htrans, fun f => restarted_output s p q⟩
  case route =>
    obtain ⟨hup, htimer, -, hconf, hwin, hmay⟩ := restarted_route s p r
    exact ⟨hup, htimer, hconf, hwin, hmay⟩
  case cycle =>
    have hfree : ScannerFree s := ⟨hr, hw, ht⟩
    obtain ⟨hheld, htimer⟩ := restarted_timer s p hfree
    exact ⟨hheld, htimer, restarted_walks s p hfree hs, restarted_completes s p hfree⟩
  case none => exact (congrArg NoticeTable.entries hnotices).trans (if_neg he)
  case one => exact (congrArg NoticeTable.entries hnotices).trans (if_pos he)

end Sys2Proof.Machine
end

section
/-! PROOFS. The scaled value (O22), the bands and persistence (O23), the live record after a sample (O24), and the activity of
ASSERTED (O25). -/

set_option Elab.async false

namespace Sys2Proof.Machine

/-! ## The scaled value (R24) -/

/-- p ÷ 256 rounded lies within a half of p ÷ 256, and a half goes away from zero (R24). -/
theorem roundDiv256_nearest (p : Int) :
    p - 128 ≤ 256 * roundDiv256 p ∧ 256 * roundDiv256 p ≤ p + 128 ∧ (p = 256 * roundDiv256 p - 128 → 0 < p)
      ∧ (p = 256 * roundDiv256 p + 128 → p < 0) := by
  unfold roundDiv256
  split <;> omega

/-- `sat` tells whether the clamp changed the quotient (R24). -/
theorem scaled_eq (a : AnalogPart) (r : Int) :
    scaled a r = (max (-32768) (min 32767 (quotientOf a r)),
      decide (quotientOf a r < -32768 ∨ 32767 < quotientOf a r)) := by
  unfold scaled clamp16
  refine Prod.ext rfl (decide_eq_decide.2 ?_)
  omega

/-- Settles O22: the quotient of R24 is the nearest integer, and the three cases of the clamp tell `sat`. -/
theorem scaledValueRoundsAndClamps : Obligations.ScaledValueRoundsAndClamps := by
  intro a r
  obtain ⟨hlow, hhigh, hup, hdown⟩ := roundDiv256_nearest ((r - a.zero) * a.slope)
  refine ⟨quotientOf a r, hlow, hhigh, hup, hdown, fun h => ?_, fun h => ?_, fun h1 h2 => ?_⟩
  · rw [scaled_eq, decide_eq_true (.inl h), min_eq_right (by omega), max_eq_left (by omega)]
  · rw [scaled_eq, decide_eq_true (.inr h), min_eq_left (by omega), max_eq_right (by omega)]
  · rw [scaled_eq, decide_eq_false (by omega), min_eq_right h2, max_eq_right h1]

/-! ## Bands and persistence (R26, R27) -/

/-- A high threshold holds where it is present and reached, or held by the present band (R26, rows 1 and 2). -/
theorem highHolds_iff {t : Option Int} {f : Int} {held : Bool} {hyst : Nat} :
    highHolds t f held hyst = true ↔ ∃ x, t = some x ∧ (x ≤ f ∨ held = true ∧ x - hyst < f) := by
  cases t <;> simp [highHolds]

/-- A low threshold holds where it is present and reached, or held by the present band (R26, rows 3 and 4). -/
theorem lowHolds_iff {t : Option Int} {f : Int} {held : Bool} {hyst : Nat} :
    lowHolds t f held hyst = true ↔ ∃ x, t = some x ∧ (f ≤ x ∨ held = true ∧ f < x + hyst) := by
  cases t <;> simp [lowHolds]

/-- Persistence toward another target than the present: the count goes on or starts at 1, and at the setting the target is
accepted (R27). -/
theorem persist_ne {n : Nat} {present t : Target} (h : t ≠ present) (c : Option Target) (k : Nat) :
    persist n present t c k
      = if n ≤ (if c = some t then k + 1 else 1) then ⟨true, none, 0⟩
        else ⟨false, some t, if c = some t then k + 1 else 1⟩ := by
  simp [persist, h]

/-- Settles O23: each row of R26 is a threshold's test, and each case of R27 one of the count's. -/
theorem bandDecidedAndPersisted : Obligations.BandDecidedAndPersisted := by
  refine ⟨fun a b f => ?_, fun n present t c k => ⟨fun h => ?_, fun h hc hn => ?_, fun h hc hn => ?_, fun h hc hn => ?_,
    fun h hc hn => ?_⟩⟩
  · simp only [targetBand, highHolds_iff, lowHolds_iff, Bool.or_eq_true, decide_eq_true_eq]
    exact ⟨fun h1 => by rw [if_pos h1], fun h1 h2 => by rw [if_neg h1, if_pos h2],
      fun h1 h2 h3 => by rw [if_neg h1, if_neg h2, if_pos h3],
      fun h1 h2 h3 h4 => by rw [if_neg h1, if_neg h2, if_neg h3, if_pos h4],
      fun h1 h2 h3 h4 => by rw [if_neg h1, if_neg h2, if_neg h3, if_neg h4]⟩
  · simp [persist, h]
  · rw [persist_ne h, if_pos hc, if_neg (by omega)]
  · rw [persist_ne h, if_pos hc, if_pos hn]
  · rw [persist_ne h, if_neg hc, if_neg (by omega)]
  · rw [persist_ne h, if_neg hc, if_pos hn]

/-! ## The live record after a sample (R28 to R30, R34, R38) -/

section samples
variable {d : Descriptor} {cycle raw : Word16} {e : PointEntry}

/-- Only the raw word and the count of failures of a FORCED point follow a good sample (R38). -/
theorem sampledLive_forced (h : e.live.quality = .forced) :
    sampledLive d cycle e (.good raw) = { e.live with raw := raw, failCount := 0 } := by
  simp [sampledLive, h]

theorem sampledLive_analog {a : AnalogPart} (h : e.live.quality ≠ .forced) (ha : d.part = .analog a) :
    sampledLive d cycle e (.good raw) = analogLive d a cycle e.scanMark e.live raw := by
  simp [sampledLive, h, ha]

theorem sampledLive_discrete {x : DiscretePart} (h : e.live.quality ≠ .forced) (hx : d.part = .discrete x) :
    sampledLive d cycle e (.good raw) = discreteLive d x cycle e.scanMark e.live raw := by
  simp [sampledLive, h, hx]

/-- What an evaluated good sample sets whatever the point's kind. -/
theorem sampledLive_fields (h : e.live.quality ≠ .forced) :
    (sampledLive d cycle e (.good raw)).raw = raw ∧ (sampledLive d cycle e (.good raw)).failCount = 0
      ∧ (sampledLive d cycle e (.good raw)).quality = .good ∧ (sampledLive d cycle e (.good raw)).lastCycle = cycle
      ∧ (sampledLive d cycle e (.good raw)).forcedValue = e.live.forcedValue := by
  cases hp : d.part with
  | analog a =>
    rw [sampledLive_analog h hp]
    exact ⟨rfl, rfl, rfl, rfl, rfl⟩
  | discrete x =>
    rw [sampledLive_discrete h hp]
    unfold discreteLive
    simp only []
    split <;> exact ⟨rfl, rfl, rfl, rfl, rfl⟩

end samples

/-- The samples that seed an analog point: the first in the scan list, and the first good one after none or a failed one (R25). -/
theorem isSeeding_iff {mark : Bool} {q : Quality} :
    isSeeding mark q = true ↔ mark = true ∨ q = .unscanned ∨ q = .stale ∨ q = .failed := by
  simp [isSeeding, or_assoc]

theorem isSeeding_good : isSeeding false .good = false := rfl

theorem startsAfresh_iff {q : Quality} : startsAfresh q = true ↔ q = .unscanned ∨ q = .stale ∨ q = .failed := by
  simp [startsAfresh, or_assoc]

/-- An evaluated sample meets a GOOD point or starts its persistence afresh (R29, step 2). -/
theorem good_or_startsAfresh {q : Quality} (h : q ≠ .forced) : q = .good ∨ startsAfresh q = true := by
  cases q <;> simp_all [startsAfresh]

section analog
variable (d : Descriptor) (a : AnalogPart) (cycle : Word16) (mark : Bool) (l : LiveRecord) (raw : Word16)

/-- A seeding sample: the filter takes the scaled value, and persistence starts afresh (R25, R28). -/
theorem analogLive_seeding (h : isSeeding mark l.quality = true) {v : Int} {target : Band} {r : Persisted}
    (hv : (scaled a (interpret d.width d.signed raw)).1 = v)
    (ht : targetBand a l.band (analogLive d a cycle mark l raw).filtered = target)
    (hr : persist d.persistence (.band l.band) (.band target) none 0 = r) :
    (analogLive d a cycle mark l raw).filtered = v
      ∧ (analogLive d a cycle mark l raw).band = (if r.accepted then target else l.band)
      ∧ (analogLive d a cycle mark l raw).candidate = r.candidate ∧ (analogLive d a cycle mark l raw).count = r.count := by
  subst hv hr ht
  simp [analogLive, h]

/-- A sample that does not seed: the filter steps, and persistence goes on (R25, R28). -/
theorem analogLive_following (h : isSeeding mark l.quality = false) {v : Int} {target : Band} {r : Persisted}
    (hv : (scaled a (interpret d.width d.signed raw)).1 = v)
    (ht : targetBand a l.band (analogLive d a cycle mark l raw).filtered = target)
    (hr : persist d.persistence (.band l.band) (.band target) l.candidate l.count = r) :
    (analogLive d a cycle mark l raw).filtered = filterStep a.filterShift l.filtered v
      ∧ (analogLive d a cycle mark l raw).band = (if r.accepted then target else l.band)
      ∧ (analogLive d a cycle mark l raw).candidate = r.candidate ∧ (analogLive d a cycle mark l raw).count = r.count := by
  subst hv hr ht
  simp [analogLive, h]

end analog

section discrete
variable (d : Descriptor) (x : DiscretePart) (cycle : Word16) (mark : Bool) (l : LiveRecord) (raw : Word16)

/-- The value of a discrete point is the sample bit (R29). -/
theorem discreteLive_value :
    (discreteLive d x cycle mark l raw).value = (sampleBit d x raw).toNat
      ∧ (discreteLive d x cycle mark l raw).filtered = (sampleBit d x raw).toNat
      ∧ (discreteLive d x cycle mark l raw).sat = false ∧ (discreteLive d x cycle mark l raw).band = l.band := by
  unfold discreteLive
  simp only []
  split <;> exact ⟨rfl, rfl, rfl, rfl⟩

/-- At the scan-entry mark the level is set with no edge (R29, R30). -/
theorem discreteLive_marked :
    (discreteLive d x cycle true l raw).level = sampleBit d x raw ∧ (discreteLive d x cycle true l raw).candidate = none
      ∧ (discreteLive d x cycle true l raw).count = 0
      ∧ (discreteLive d x cycle true l raw).asserted = assertedWithoutEdge x (sampleBit d x raw) l.asserted :=
  ⟨rfl, rfl, rfl, rfl⟩

/-- Without the mark the level moves as persistence decides, and an accepted level is an edge (R29, R30). -/
theorem discreteLive_persisted {candidate : Option Target} {count : Nat} {r : Persisted}
    (hc : candidate = if startsAfresh l.quality then none else l.candidate)
    (hk : count = if startsAfresh l.quality then 0 else l.count)
    (hr : persist d.persistence (.level l.level) (.level (sampleBit d x raw)) candidate count = r) :
    (discreteLive d x cycle false l raw).level = (if r.accepted then sampleBit d x raw else l.level)
      ∧ (discreteLive d x cycle false l raw).candidate = r.candidate
      ∧ (discreteLive d x cycle false l raw).count = r.count
      ∧ (discreteLive d x cycle false l raw).asserted
        = if r.accepted then assertedAfterEdge x (sampleBit d x raw) l.asserted else l.asserted := by
  subst hc hk hr
  exact ⟨rfl, rfl, rfl, rfl⟩

/-- R30's table: a selected edge sets the flag, another one clears it in LEVEL mode and keeps it in STICKY mode. -/
theorem assertedAfterEdge_eq (bit asserted : Bool) :
    assertedAfterEdge x bit asserted
      = if x.edge = .both ∨ x.edge = .rising ∧ bit = true ∨ x.edge = .falling ∧ bit = false then true
        else decide (x.mode = .sticky) && asserted := by
  unfold assertedAfterEdge
  cases x.mode <;> cases x.edge <;> cases bit <;> simp [edgeSelected]

end discrete

/-- A failed sample counts, and the quality falls by the rows of R34; a FORCED point stays FORCED (R38). -/
theorem failedLive_eq (l : LiveRecord) : failedLive l = { l with
    failCount := min 255 (l.failCount + 1)
    quality := if l.quality = .forced then .forced
      else if 3 ≤ min 255 (l.failCount + 1) then .failed
      else if l.quality = .good then .stale else l.quality } := by
  unfold failedLive
  simp only [Config.failLimit]
  by_cases hn : 3 ≤ min 255 (l.failCount + 1) <;> cases hq : l.quality <;> simp [hn]

/-- The count that persistence goes on from: the one that stands for a GOOD point, none for another that is not FORCED (R29,
step 2). -/
theorem persistence_start {l : LiveRecord} (h : l.quality ≠ .forced) {candidate : Option Target} {count : Nat}
    (hafresh : (l.quality = .unscanned ∨ l.quality = .stale ∨ l.quality = .failed) → candidate = none ∧ count = 0)
    (hgoes : l.quality = .good → candidate = l.candidate ∧ count = l.count) :
    candidate = (if startsAfresh l.quality then none else l.candidate)
      ∧ count = (if startsAfresh l.quality then 0 else l.count) := by
  rcases good_or_startsAfresh h with hg | hs
  · rw [hg]
    exact hgoes hg
  · rw [if_pos hs, if_pos hs]
    exact hafresh (startsAfresh_iff.1 hs)

/-- Settles O24, by the sample, the quality and the kind of the point. -/
theorem samplesMakeLiveRecord : Obligations.SamplesMakeLiveRecord := by
  intro d cycle e raw
  refine ⟨sampledLive_forced, fun hq new hnew => ?_, fun _ => failedLive_eq e.live⟩
  obtain ⟨hraw, hfail, hquality, hcycle, hforced⟩ := sampledLive_fields (d := d) (cycle := cycle) (raw := raw) hq
  rw [hnew] at hraw hfail hquality hcycle hforced
  refine ⟨hraw, hfail, hquality, hcycle, hforced, fun a ha v target hv ht => ?_, fun x hx bit hb => ?_⟩
  · rw [sampledLive_analog hq ha] at hnew
    subst hnew
    refine ⟨hv, rfl, rfl, rfl, fun hs => ?_, fun hm hg => ?_⟩
    · have seed := fun r => analogLive_seeding d a cycle e.scanMark e.live raw (isSeeding_iff.2 hs) hv ht (r := r)
      exact ⟨(seed _ rfl).1, fun r hr => (seed r hr).2⟩
    · have follow := fun r =>
        analogLive_following d a cycle e.scanMark e.live raw (by rw [hm, hg, isSeeding_good]) hv ht (r := r)
      obtain ⟨hf, -⟩ := follow _ rfl
      refine ⟨fun h0 => ?_, fun h0 => ?_, fun r hr => (follow r hr).2⟩
      · rw [hf, filterStep, if_pos h0]
      · rw [hf, filterStep, if_neg h0]
  · rw [sampledLive_discrete hq hx] at hnew
    subst hnew hb
    obtain ⟨hval, hfil, hsat, hband⟩ := discreteLive_value d x cycle e.scanMark e.live raw
    refine ⟨hval, hfil, hsat, hband, fun hm => ?_, fun hm candidate count r hafresh hgoes hr => ?_⟩
    · rw [hm]
      obtain ⟨hlevel, hcand, hcount, hasserted⟩ := discreteLive_marked d x cycle e.live raw
      rw [hasserted]
      refine ⟨hlevel, hcand, hcount, fun h => ?_, fun h he => ?_, fun h he => ?_⟩
      · simp only [assertedWithoutEdge, h]
      · simp only [assertedWithoutEdge, h, he, edgeSelected]
      · simp only [assertedWithoutEdge, h, he, edgeSelected]
    · obtain ⟨hc, hk⟩ := persistence_start hq hafresh hgoes
      rw [hm]
      obtain ⟨hlevel, hcand, hcount, hasserted⟩ := discreteLive_persisted d x cycle e.live raw hc hk hr
      refine ⟨hlevel, hcand, hcount, fun h => ?_, fun h => ?_⟩
      · rw [hasserted, h]
        rfl
      · rw [hasserted, if_pos h, assertedAfterEdge_eq]

/-! ## The ASSERTED condition (R32) -/

/-- A gate is open where there is none, or as its sense reads its point's flag (R32). -/
theorem gateOpen_iff {s : State} {g : Option Gate} :
    gateOpen s g = true ↔ g = none ∨ ∃ x, g = some x ∧ ((x.sense = .openWhileSet ∧ (s.point x.point).live.asserted = true)
      ∨ (x.sense = .openWhileClear ∧ (s.point x.point).live.asserted = false)) := by
  cases g with
  | none => simp [gateOpen]
  | some x =>
    obtain ⟨j, v⟩ := x
    cases v <;> simp [gateOpen]

/-- Settles O25: an analog point has no ASSERTED condition, and a discrete one that of its flag and its gate. -/
theorem assertedWhileGateOpen : Obligations.AssertedWhileGateOpen := by
  intro s i
  unfold assertedActive
  cases hd : s.descOf i with
  | none => simp
  | some d =>
    cases hp : d.part with
    | analog a => simp [Descriptor.isDiscrete, Descriptor.discrete?, hp]
    | discrete x =>
      simp only [Descriptor.isDiscrete, Descriptor.discrete?, Descriptor.gate, hp, Option.isSome_some, Option.bind_some,
        Bool.true_and, Bool.and_eq_true, gateOpen_iff]
      constructor
      · rintro ⟨ha, hg⟩
        exact ⟨d, x, rfl, hp, ha, hg⟩
      · rintro ⟨d', x', hd', hp', ha, hg⟩
        cases hd'
        rw [hp] at hp'
        cases hp'
        exact ⟨ha, hg⟩

end Sys2Proof.Machine
end

section
/-! SUPPORT. What a sample leaves of the part besides its point: claims may end, and no tenure, no running item and no restart
changes (R41, R87, R147, R152). -/

set_option Elab.async false

namespace Sys2Proof.Machine

variable (s : State)

/-! ## The arbiter -/

/-- The Scanner's bus request, the tenure and the locked tenure are the same. -/
structure TenureKept (s t : State) : Prop where
  scanner : t.arb.waiting.scanner = s.arb.waiting.scanner
  tenure : t.arb.tenure = s.arb.tenure
  locked : t.arb.locked = s.arb.locked

theorem TenureKept.of_arb {s t : State} (h : t.arb = s.arb) : TenureKept s t := by
  constructor <;> rw [h]

theorem TenureKept.trans {s t u : State} (h : TenureKept s t) (k : TenureKept t u) : TenureKept s u :=
  ⟨k.scanner.trans h.scanner, k.tenure.trans h.tenure, k.locked.trans h.locked⟩

/-- A switch of the clock holds grants and gives none (R92, R94). -/
theorem actOnWanted_tenureKept (d : Option Port) : TenureKept s (actOnWanted d s) := by
  have switched : ∀ c, TenureKept s (beginSwitch c s) := fun _ => ⟨rfl, rfl, rfl⟩
  have abandoned : ∀ c, TenureKept s (abandonSwitch c s) := fun _ => ⟨rfl, rfl, rfl⟩
  unfold actOnWanted
  split
  · exact switched _
  · exact (switched _).trans (.of_arb (reportEconomy_frame _ d _).arb)
  · exact abandoned _
  · exact (abandoned _).trans (.of_arb (reportEconomy_frame _ d _).arb)
  · exact .of_arb rfl

theorem handClock_tenureKept (d : Option Port) (i : PointIx) (a b : LiveRecord) : TenureKept s (handClock d i a b s) := by
  unfold handClock reevaluateClock
  split
  · split
    · exact .of_arb rfl
    · refine TenureKept.trans ?_ (actOnWanted_tenureKept _ d)
      exact .of_arb rfl
  · exact .of_arb rfl

theorem requestActuator_tenureKept : TenureKept s (requestActuator s) := by
  unfold requestActuator
  split
  · exact ⟨rfl, rfl, rfl⟩
  · exact .of_arb rfl

theorem applyPolicy_tenureKept (m : Nat) (i : ActIx) : TenureKept s (applyPolicy m i s) := by
  unfold applyPolicy queuePolicy
  split
  · exact .of_arb rfl
  · split
    · split
      · exact requestActuator_tenureKept s
      · refine TenureKept.trans ?_ (requestActuator_tenureKept _)
        exact .of_arb rfl
    · exact .of_arb rfl

/-! ## The end of claims (R147, R148) -/

/-- From s to t claims may have ended: of an actuator only the holder and the lease, and no restart begins, no item stops running,
and no tenure changes. -/
structure HoldersOnly (s t : State) : Prop where
  restart : t.restart = s.restart
  running : t.acts.running = s.acts.running
  entries : ∀ a, t.actuator a
    = { s.actuator a with holder := (t.actuator a).holder, lease := (t.actuator a).lease }
  tenure : TenureKept s t

theorem HoldersOnly.of_frame {l : List Block} {s t : State} (h : ChangesOnly l s t) (k : TenureKept s t)
    (hr : Block.restart ∉ l := by decide) (ha : Block.acts ∉ l := by decide) : HoldersOnly s t :=
  ⟨h.restart hr, by rw [h.acts ha], fun a => by rw [h.actuator a ha], k⟩

theorem HoldersOnly.refl : HoldersOnly s s := .of_frame (.refl [] s) (.of_arb rfl)

theorem HoldersOnly.trans {s t u : State} (h : HoldersOnly s t) (k : HoldersOnly t u) : HoldersOnly s u :=
  ⟨k.restart.trans h.restart, k.running.trans h.running, fun a => by rw [k.entries, h.entries], h.tenure.trans k.tenure⟩

theorem HoldersOnly.foldl {α : Type} {f : State → α → State} (h : ∀ s a, HoldersOnly s (f s a)) (xs : List α) (s : State) :
    HoldersOnly s (xs.foldl f s) := by
  induction xs generalizing s with
  | nil => exact .refl s
  | cons a xs ih => exact (h s a).trans (ih (f s a))

theorem dismissCommand_running (p : Port) (i : ActIx) : (dismissCommand p i s).acts.running = s.acts.running := by
  unfold dismissCommand
  split
  · rw [(respond_frame _ p _).acts]
    rfl
  · rfl

theorem endClaim_holdersOnly (m : Nat) (i : ActIx) : HoldersOnly s (endClaim m i s) := by
  have freed : HoldersOnly s (s.setActuator i { s.actuator i with holder := none, lease := 0 }) := by
    refine ⟨rfl, rfl, fun a => ?_, .of_arb rfl⟩
    rw [setActuator_actuator]
    split
    · next e => subst e; rfl
    · rfl
  have dismissed : ∀ (p : Port) (u : State), HoldersOnly u (dismissCommand p i u) := fun p u =>
    ⟨dismissCommand_restart u p i, dismissCommand_running u p i, fun a => by rw [dismissCommand_actuator],
      .of_arb (dismissCommand_frame u p i).arb⟩
  have queued : ∀ u : State, HoldersOnly u (applyPolicy m i u) := fun u =>
    ⟨(applyPolicy_frame u m i).restart, (applyPolicy_queued u m i).running, fun a => by rw [applyPolicy_actuator],
      applyPolicy_tenureKept u m i⟩
  unfold endClaim
  split
  · exact .refl s
  · exact (freed.trans (dismissed _ _)).trans (queued _)

theorem endClaimOf_holdersOnly (m : Nat) (who : Port → Bool) (i : ActIx) : HoldersOnly s (endClaimOf m who s i) := by
  unfold endClaimOf
  split
  · exact .refl s
  · split
    · exact endClaim_holdersOnly s m i
    · exact .refl s

theorem endRouteClaims_holdersOnly : HoldersOnly s (endRouteClaims s) := by
  rw [endRouteClaims, endClaims_eq]
  exact HoldersOnly.foldl (fun u i => endClaimOf_holdersOnly u _ _ i) actIndices s

/-! ## A new live record (R41, R42) -/

/-- What a new live record can do: its reports and the clock's hand-off, which Notice Delivery alone carries to the ports, and then
perhaps the end of the route claims. -/
theorem commitLive_cases (d : Option Port) (i : PointIx) (x : LiveRecord) :
    ∃ u, Delivers d s u ∧ ChangesOnly [.points, .arb, .clock, .notices, .ports, .routes] s u ∧ TenureKept s u
      ∧ (commitLive d i x s = u ∨ commitLive d i x s = endRouteClaims u) := by
  refine ⟨handClock d i (s.point i).live x (reportLive d i x s),
    (reportLive_delivers s d i x).trans (handClock_delivers _ d i _ x),
    (reportLive_frame s d i x).comp (handClock_blocks _ d i _ x),
    (TenureKept.of_arb (reportLive_frame s d i x).arb).trans (handClock_tenureKept _ d i _ x), ?_⟩
  rw [commitLive_eq, handOff_eq]
  split
  · exact .inr rfl
  · exact .inl rfl

theorem commitLive_holdersOnly (d : Option Port) (i : PointIx) (x : LiveRecord) : HoldersOnly s (commitLive d i x s) := by
  obtain ⟨u, -, hframe, htenure, hu | hu⟩ := commitLive_cases s d i x
  · rw [hu]
    exact .of_frame hframe htenure
  · rw [hu]
    exact (HoldersOnly.of_frame hframe htenure).trans (endRouteClaims_holdersOnly u)

/-- A port that has no item in the work list keeps its executor while a live record changes (R147, R174). -/
theorem commitLive_executor {p : Port} (h : NoItems p s) (d : Option Port) (i : PointIx) (x : LiveRecord) :
    ((commitLive d i x s).port p).executor = (s.port p).executor := by
  obtain ⟨u, hdel, hframe, -, hu | hu⟩ := commitLive_cases s d i x
  · rw [hu]
    exact (hdel.ports p).2.2.1
  · have hn : NoItems p u := h.of_workKept (.of_workList (by rw [hframe.acts]))
    rw [hu]
    exact (endClaims_claimsEnd u hn (nextMoment u) isRoute).request.executor.trans (hdel.ports p).2.2.1

/-! ## A sample (R28, R29, R42) -/

/-- What a sample makes of a record depends on the live record and the scan-entry mark alone. -/
theorem sampledLive_congr {e e' : PointEntry} (hl : e'.live = e.live) (hm : e'.scanMark = e.scanMark) (d : Descriptor)
    (cycle : Word16) (x : Sample) :
    sampledLive d cycle e' x = sampledLive d cycle e x ∧ markAfter e' x = markAfter e x := by
  cases x <;> simp only [sampledLive, markAfter, hl, hm, and_self]

theorem takeSample_none {i : PointIx} (h : s.descOf i = none) (d : Option Port) (x : Sample) : takeSample d i x s = s := by
  simp [takeSample, h]

/-- The state in which a sample's live record is committed: the scan-entry mark has been set (R21). -/
def marked (i : PointIx) (x : Sample) (s : State) : State :=
  s.setPoint i { s.point i with scanMark := markAfter (s.point i) x }

theorem takeSample_some {i : PointIx} {desc : Descriptor} (h : s.descOf i = some desc) (d : Option Port) (x : Sample) :
    takeSample d i x s = commitLive d i (sampledLive desc s.scan.cycleNumber (s.point i) x) (marked i x s) := by
  simp only [takeSample, h, marked]

theorem marked_frame (i : PointIx) (x : Sample) : ChangesOnly [.points] s (marked i x s) := setPoint_frame s i _

theorem marked_state (i j : PointIx) (x : Sample) : ((marked i x s).point j).state = (s.point j).state := by
  rw [marked, setPoint_point]
  split
  · next e => subst e; rfl
  · rfl

theorem takeSample_holdersOnly (d : Option Port) (i : PointIx) (x : Sample) : HoldersOnly s (takeSample d i x s) := by
  cases h : s.descOf i with
  | none =>
    rw [takeSample_none s h]
    exact .refl s
  | some desc =>
    rw [takeSample_some s h]
    exact (HoldersOnly.of_frame (marked_frame s i x) (.of_arb rfl)).trans (commitLive_holdersOnly _ d i _)

theorem takeSample_state (d : Option Port) (i j : PointIx) (x : Sample) :
    ((takeSample d i x s).point j).state = (s.point j).state := by
  cases h : s.descOf i with
  | none => rw [takeSample_none s h]
  | some desc => rw [takeSample_some s h, commitLive_state, marked_state]

/-- A sample changes nothing of another point but its reported activity (R33). -/
theorem takeSample_others (d : Option Port) (i : PointIx) (x : Sample) : OtherPointsKept i s (takeSample d i x s) := by
  intro j hj
  cases h : s.descOf i with
  | none => rw [takeSample_none s h]
  | some desc =>
    rw [takeSample_some s h, commitLive_others (marked i x s) d i _ j hj, marked, setPoint_point_ne s hj]

/-- The sampled point has the record and the mark that the sample makes (R21, R28, R29). -/
theorem takeSample_self {i : PointIx} {desc : Descriptor} (h : s.descOf i = some desc) (d : Option Port) (x : Sample) :
    ((takeSample d i x s).point i).live = sampledLive desc s.scan.cycleNumber (s.point i) x
      ∧ ((takeSample d i x s).point i).scanMark = markAfter (s.point i) x := by
  rw [takeSample_some s h, commitLive_live, commitLive_scanMark, if_pos rfl, marked, setPoint_point_self]
  exact ⟨rfl, rfl⟩

/-- A sample keeps the executor of a port that has no item in the work list. -/
theorem takeSample_executor {p : Port} (h : NoItems p s) (d : Option Port) (i : PointIx) (x : Sample) :
    ((takeSample d i x s).port p).executor = (s.port p).executor := by
  cases hd : s.descOf i with
  | none => rw [takeSample_none s hd]
  | some desc =>
    rw [takeSample_some s hd, commitLive_executor (marked i x s) (h.of_workKept (.of_workList rfl)), (marked_frame s i x).port]

/-- A sample keeps the place in the output queue of the port whose response waits for it (R124). -/
theorem takeSample_room {p : Port} (h : NoItems p s) (i : PointIx) (x : Sample) :
    ((takeSample (some p) i x s).port p).output.length = (s.port p).output.length := by
  cases hd : s.descOf i with
  | none => rw [takeSample_none s hd]
  | some desc =>
    obtain ⟨hkeep, -⟩ := commitLive_keepsRequest (marked i x s) (h.of_workKept (.of_workList rfl)) i
      (sampledLive desc s.scan.cycleNumber (s.point i) x)
    rw [takeSample_some s hd, hkeep.room, (marked_frame s i x).port]

end Sys2Proof.Machine
end

section
/-! PROOFS. The completion of the Scanner's read (O21). -/

set_option Elab.async false

namespace Sys2Proof.Machine

variable (s : State)

/-! ## The samples of the served entries (R53) -/

theorem handOver_left (x : Transaction) {e : ServedEntry} (h : e.left = true) : handOver x s e = s := by
  simp [handOver, h]

theorem handOver_some (x : Transaction) {e : ServedEntry} {d : Descriptor} (h : e.left = false)
    (hd : s.descOf e.point = some d) : handOver x s e = takeSample none e.point (sampleFrom x d) s := by
  simp [handOver, h, hd]

/-- All that the hand-over of an entry can do: nothing, or one sample of its point. -/
theorem handOver_cases (x : Transaction) (e : ServedEntry) :
    handOver x s e = s ∨ ∃ z, handOver x s e = takeSample none e.point z s := by
  unfold handOver
  split
  · exact .inl rfl
  · split
    · exact .inl rfl
    · exact .inr ⟨_, rfl⟩

theorem handOver_holdersOnly (x : Transaction) (e : ServedEntry) : HoldersOnly s (handOver x s e) := by
  rcases handOver_cases s x e with h | ⟨z, h⟩
  · rw [h]
    exact .refl s
  · rw [h]
    exact takeSample_holdersOnly s none e.point z

theorem handOver_state (x : Transaction) (e : ServedEntry) (j : PointIx) :
    ((handOver x s e).point j).state = (s.point j).state := by
  rcases handOver_cases s x e with h | ⟨z, h⟩
  · rw [h]
  · rw [h, takeSample_state]

/-- Another point keeps its record and its mark, and so does the point of an entry that has left the list (R53). -/
theorem handOver_untaken (x : Transaction) {e : ServedEntry} {j : PointIx} (h : e.point = j → e.left = true) :
    ((handOver x s e).point j).live = (s.point j).live ∧ ((handOver x s e).point j).scanMark = (s.point j).scanMark := by
  by_cases hj : e.point = j
  · rw [handOver_left s x (h hj)]
    exact ⟨rfl, rfl⟩
  · rcases handOver_cases s x e with h | ⟨z, h⟩
    · rw [h]
      exact ⟨rfl, rfl⟩
    · rw [h, takeSample_others s none e.point z j (Ne.symm hj)]
      exact ⟨rfl, rfl⟩

theorem handOvers_state (x : Transaction) (es : List ServedEntry) (s : State) (j : PointIx) :
    ((es.foldl (handOver x) s).point j).state = (s.point j).state := by
  induction es generalizing s with
  | nil => rfl
  | cons e es ih => rw [List.foldl_cons, ih, handOver_state]

/-- A point of which every served entry has left the list takes no sample (R53). -/
theorem handOvers_untaken (x : Transaction) (es : List ServedEntry) (s : State) {j : PointIx}
    (h : ∀ e ∈ es, e.point = j → e.left = true) :
    ((es.foldl (handOver x) s).point j).live = (s.point j).live
      ∧ ((es.foldl (handOver x) s).point j).scanMark = (s.point j).scanMark := by
  induction es generalizing s with
  | nil => exact ⟨rfl, rfl⟩
  | cons e es ih =>
    obtain ⟨hlive, hmark⟩ := handOver_untaken s x (h e List.mem_cons_self)
    obtain ⟨ihlive, ihmark⟩ := ih (handOver x s e) fun a ha => h a (List.mem_cons_of_mem _ ha)
    exact ⟨ihlive.trans hlive, ihmark.trans hmark⟩

/-- Each served entry of the list takes its one sample, whatever the others take (R53). -/
theorem handOvers_taken (x : Transaction) (es : List ServedEntry) (s : State) (hn : (es.map (·.point)).Nodup)
    {e : ServedEntry} (he : e ∈ es) (hl : e.left = false) {d : Descriptor} (hd : s.descOf e.point = some d) :
    ((es.foldl (handOver x) s).point e.point).live
        = sampledLive d s.scan.cycleNumber (s.point e.point) (sampleFrom x d)
      ∧ ((es.foldl (handOver x) s).point e.point).scanMark = markAfter (s.point e.point) (sampleFrom x d) := by
  induction es generalizing s with
  | nil => cases he
  | cons a es ih =>
    obtain ⟨ha, hn⟩ := List.nodup_cons.1 hn
    rw [List.foldl_cons]
    rcases List.mem_cons.1 he with rfl | he
    · obtain ⟨hlive, hmark⟩ := handOvers_untaken x es (handOver x s e) (j := e.point) fun b hb hp =>
        absurd (List.mem_map.2 ⟨b, hb, hp⟩) ha
      rw [hlive, hmark, handOver_some s x hl hd]
      exact takeSample_self s hd none _
    · have hne : a.point ≠ e.point := fun hp => ha (List.mem_map.2 ⟨e, he, hp.symm⟩)
      obtain ⟨hlive, hmark⟩ := handOver_untaken s x (e := a) (j := e.point) fun hp => absurd hp hne
      obtain ⟨hlive', hmark'⟩ := ih (handOver x s a) hn he ((descOf_congr (handOver_state s x a e.point)).trans hd)
      obtain ⟨hs, hm⟩ := sampledLive_congr hlive hmark d s.scan.cycleNumber (sampleFrom x d)
      rw [hlive', hmark', (handOver_frame s x a).scan]
      exact ⟨hs, hm⟩

/-! ## What the walk leaves (R46, R49, R50, R55) -/

theorem completeCycle_eq (d : Option Port) : completeCycle d s
    = if s.scan.heldStart ∧ s.scan.scanState = .running then cycleEnded s else endOverrun d (cycleEnded s) := rfl

/-- The Scanner when a cycle has completed: the overrun stays only if a held start is set in RUNNING (R50, R55). -/
theorem completeCycle_scan (d : Option Port) : (completeCycle d s).scan = { s.scan with
    cycleState := .idle
    passed := s.scan.list
    ahead := []
    cycleNumber := s.scan.cycleNumber + 1
    overrun := if s.scan.heldStart ∧ s.scan.scanState = .running then s.scan.overrun else false } := by
  rw [completeCycle_eq]
  split
  · rfl
  · rw [endOverrun_scan]
    rfl

theorem completeCycle_arb (d : Option Port) : (completeCycle d s).arb = s.arb := by
  rw [completeCycle_eq]
  split
  · rfl
  · rw [endOverrun_arb]
    rfl

/-- The read in flight and the tenure are the same. -/
structure ReadKept (s t : State) : Prop where
  inFlight : t.scan.inFlight = s.scan.inFlight
  tenure : t.arb.tenure = s.arb.tenure

theorem ReadKept.trans {s t u : State} (h : ReadKept s t) (k : ReadKept t u) : ReadKept s u :=
  ⟨k.inFlight.trans h.inFlight, k.tenure.trans h.tenure⟩

theorem completeCycle_readKept (d : Option Port) : ReadKept s (completeCycle d s) :=
  ⟨by rw [completeCycle_scan], by rw [completeCycle_arb]⟩

theorem walkOnce_readKept (d : Option Port) : ReadKept s (walkOnce d s) := by
  unfold walkOnce
  split
  · exact ⟨rfl, rfl⟩
  · exact completeCycle_readKept s d

theorem walk_readKept (d : Option Port) : ReadKept s (walk d s) := by
  have begun : ∀ u : State, ReadKept u (beginCycle u) := fun _ => ⟨rfl, rfl⟩
  unfold walk
  split
  · split
    · exact ⟨rfl, rfl⟩
    · simp only []
      split
      · exact ((completeCycle_readKept s d).trans (begun _)).trans (walkOnce_readKept _ d)
      · exact completeCycle_readKept s d
  · exact ⟨rfl, rfl⟩

/-- The walk has no read in flight, no bus request and no tenure to wait for (R50). -/
structure WalkFree (s : State) : Prop where
  walking : s.scan.cycleState = .walking
  inFlight : s.scan.inFlight = none
  waiting : s.arb.waiting.scanner = false
  tenure : s.arb.tenure ≠ some .scanner

theorem walk_due {s : State} (h : WalkFree s) (d : Option Port) (hd : anyDueAhead s = true) :
    walk d s = setScannerWaiting true s := by
  unfold walk
  rw [if_pos ⟨h.walking, h.inFlight, h.waiting, h.tenure⟩, if_pos hd]

theorem walk_ends {s : State} (h : WalkFree s) (d : Option Port) (hd : anyDueAhead s = false)
    (hh : s.scan.heldStart = false) : walk d s = completeCycle d s := by
  unfold walk
  rw [if_pos ⟨h.walking, h.inFlight, h.waiting, h.tenure⟩, if_neg (by simp [hd])]
  simp [completeCycle_scan, hh]

theorem walk_restarts {s : State} (h : WalkFree s) (d : Option Port) (hd : anyDueAhead s = false)
    (hh : s.scan.heldStart = true) : walk d s = walkOnce d (beginCycle (completeCycle d s)) := by
  unfold walk
  rw [if_pos ⟨h.walking, h.inFlight, h.waiting, h.tenure⟩, if_neg (by simp [hd])]
  simp [completeCycle_scan, hh]

/-- An entry is due by its class and the cycle number (R49). -/
theorem isDue_iff {i : PointIx} : isDue s i = true ↔ ∃ d, s.descOf i = some d ∧ (d.scanClass = .fast
    ∨ d.scanClass = .normal ∧ s.scan.cycleNumber.toNat % 4 = 0 ∨ d.scanClass = .slow ∧ s.scan.cycleNumber.toNat % 16 = 0) := by
  unfold isDue
  cases s.descOf i with
  | none => simp
  | some d => cases hc : d.scanClass <;> simp [dueIn, hc]

/-- Something due stands ahead of a walk that has the whole list ahead exactly where the list holds a due entry (R49, R50). -/
theorem anyDueAhead_iff_dueInList {s t : State} (hd : ∀ i, t.descOf i = s.descOf i) (hl : t.scan.ahead = s.scan.list)
    (hc : t.scan.cycleNumber = s.scan.cycleNumber) : anyDueAhead t = true ↔ DueInList s := by
  simp only [anyDueAhead, List.any_eq_true, isDue_iff, DueInList, hd, hl, hc]

theorem anyDueAhead_congr {s t : State} (hd : ∀ i, t.descOf i = s.descOf i) (hl : t.scan.ahead = s.scan.ahead)
    (hc : t.scan.cycleNumber = s.scan.cycleNumber) : anyDueAhead t = anyDueAhead s := by
  have hi : isDue t = isDue s := funext fun i => by simp only [isDue, hd, hc]
  rw [anyDueAhead, anyDueAhead, hi, hl]

/-! ## The completion (R53, R55) -/

/-- The state in which the walk goes on: the tenure has ended and the served entries have taken their samples (R53). -/
def readTaken (x : Transaction) (es : List ServedEntry) (s : State) : State :=
  let u := es.foldl (handOver x) (dropGrant (takeEnded s))
  u.setScan { u.scan with inFlight := none }

theorem completeRead_eq (x : Transaction) {es : List ServedEntry} (h : s.scan.inFlight = some es) :
    completeRead x s = walk none (readTaken x es s) := by
  simp only [completeRead, h, Option.getD_some]
  rfl

section taken
variable (x : Transaction) (es : List ServedEntry)

theorem dropGrant_takeEnded_frame : ChangesOnly [.bus, .arb] s (dropGrant (takeEnded s)) :=
  (setBus_frame s _).comp (dropGrant_frame _)

theorem handOvers_frame : ChangesOnly liveBlocks s (es.foldl (handOver x) s) :=
  ChangesOnly.foldl (fun s e => handOver_frame s x e) es s

theorem handOvers_holdersOnly : HoldersOnly s (es.foldl (handOver x) s) :=
  HoldersOnly.foldl (fun s e => handOver_holdersOnly s x e) es s

theorem readTaken_scan : (readTaken x es s).scan = { s.scan with inFlight := none } := by
  simp only [readTaken, setScan_scan, (handOvers_frame _ x es).scan]
  rfl

theorem readTaken_bus : (readTaken x es s).bus = { s.bus with ended := none } :=
  (handOvers_frame _ x es).bus

theorem readTaken_tenure : (readTaken x es s).arb.tenure = none :=
  (handOvers_holdersOnly _ x es).tenure.tenure

theorem readTaken_waiting : (readTaken x es s).arb.waiting.scanner = s.arb.waiting.scanner :=
  (handOvers_holdersOnly _ x es).tenure.scanner

theorem readTaken_state (i : PointIx) : ((readTaken x es s).point i).state = (s.point i).state :=
  handOvers_state x es (dropGrant (takeEnded s)) i

theorem readTaken_frame :
    ChangesOnly [.points, .scan, .bus, .arb, .clock, .notices, .ports, .routes, .acts] s (readTaken x es s) := by
  have h : ChangesOnly (.bus :: .scan :: liveBlocks) s (readTaken x es s) :=
    ((dropGrant_takeEnded_frame s).comp (handOvers_frame _ x es) (n := .bus :: .scan :: liveBlocks)).comp (setScan_frame _ _)
  exact h.without (b := .restart) (handOvers_holdersOnly _ x es).restart

theorem readTaken_walkFree (hw : s.scan.cycleState = .walking) (hq : s.arb.waiting.scanner = false) :
    WalkFree (readTaken x es s) :=
  ⟨by rw [readTaken_scan]; exact hw, by rw [readTaken_scan], by rw [readTaken_waiting, hq], by rw [readTaken_tenure]; simp⟩

theorem readTaken_anyDueAhead : anyDueAhead (readTaken x es s) = anyDueAhead s :=
  anyDueAhead_congr (fun i => descOf_congr (readTaken_state s x es i)) (by rw [readTaken_scan]) (by rw [readTaken_scan])

end taken

/-- A held start begins the next cycle at once; nothing of it waits any more (R46, R55). -/
theorem walk_held {s t : State} (ht : walk none s = t) (h : WalkFree s) (hd : anyDueAhead s = false)
    (hh : s.scan.heldStart = true) (hr : s.scan.scanState = .running) :
    t.scan.heldStart = false ∧ t.scan.scanState = .running ∧ t.scan.period = s.scan.period
      ∧ t.scan.periodTimer = some (if t.clock.clockState = .economy then 4 * s.scan.period else s.scan.period)
      ∧ (DueInList (s.setScan { s.scan with cycleNumber := s.scan.cycleNumber + 1 }) →
        t.scan.cycleState = .walking ∧ t.scan.cycleNumber = s.scan.cycleNumber + 1 ∧ t.scan.passed = []
          ∧ t.scan.ahead = s.scan.list ∧ t.scan.overrun = s.scan.overrun ∧ t.arb.waiting.scanner = true)
      ∧ (¬ DueInList (s.setScan { s.scan with cycleNumber := s.scan.cycleNumber + 1 }) →
        t.scan.cycleState = .idle ∧ t.scan.cycleNumber = s.scan.cycleNumber + 2 ∧ t.scan.passed = s.scan.list
          ∧ t.scan.ahead = [] ∧ t.scan.overrun = false ∧ t.arb.waiting.scanner = false) := by
  subst ht
  have hscan := completeCycle_scan s none
  rw [if_pos ⟨hh, hr⟩] at hscan
  have harb := completeCycle_arb s none
  have hdesc : ∀ i, (completeCycle none s).descOf i = s.descOf i := (completeCycle_frame s none).descOf
  rw [walk_restarts h none hd hh]
  generalize completeCycle none s = v at hscan harb hdesc ⊢
  have hbegun : (beginCycle v).scan = { s.scan with
      heldStart := false
      cycleState := .walking
      passed := []
      ahead := s.scan.list
      cycleNumber := s.scan.cycleNumber + 1
      periodTimer := some (effectivePeriod v) } := by
    simp [beginCycle, hscan, Scanner.list]
  have hperiod : effectivePeriod v = if v.clock.clockState = .economy then 4 * s.scan.period else s.scan.period := by
    rw [effectivePeriod, hscan]
  have hwait : (beginCycle v).arb.waiting.scanner = false := by
    rw [(beginCycle_frame v).arb, harb, h.waiting]
  have hdue : anyDueAhead (beginCycle v) = true
      ↔ DueInList (s.setScan { s.scan with cycleNumber := s.scan.cycleNumber + 1 }) :=
    anyDueAhead_iff_dueInList (fun i => ((beginCycle_frame v).descOf i).trans (hdesc i)) (by rw [hbegun]; rfl)
      (by rw [hbegun]; rfl)
  have hclock : (walkOnce none (beginCycle v)).clock = v.clock := (walkOnce_frame _ none).clock
  rw [hclock, ← hperiod, ← hdue]
  unfold walkOnce
  split
  · next hd' =>
    have hs : (setScannerWaiting true (beginCycle v)).scan = (beginCycle v).scan := rfl
    rw [hs, hbegun]
    exact ⟨rfl, hr, rfl, rfl, fun _ => ⟨rfl, rfl, rfl, rfl, rfl, rfl⟩, fun hn => absurd hd' hn⟩
  · next hd' =>
    have hn : s.scan.cycleNumber + 1 + 1 = s.scan.cycleNumber + 2 := by bv_omega
    rw [completeCycle_scan, completeCycle_arb, hbegun, hwait]
    exact ⟨rfl, hr, rfl, rfl, fun hy => absurd hy hd', fun _ => ⟨rfl, hn, rfl, rfl, rfl, rfl⟩⟩

/-- Settles O21: the served entries take their samples one by one, and then the walk goes on. -/
theorem readCompletionTakesSamples : Obligations.ReadCompletionTakesSamples := by
  intro s x es hp he hx hes hn
  have hexec : exec .readCompletion s = .next (decideHreq (walk none (readTaken x es s))) := by
    rw [← completeRead_eq s x hes]
    show execReadCompletion s = _
    simp only [execReadCompletion, he]
    exact event_next hp (decide_eq_true hx)
  have hwalk := walk_frame (readTaken x es s) none
  have hread := walk_readKept (readTaken x es s) none
  have hhreq := decideHreq_frame (walk none (readTaken x es s))
  have hpoint : ∀ i, (decideHreq (walk none (readTaken x es s))).point i
      = (es.foldl (handOver x) (dropGrant (takeEnded s))).point i := fun i => by
    rw [hhreq.point, hwalk.point]
    rfl
  refine ⟨_, hexec, ?_, ?_, ?_, ?_, fun e hmem hl d hd => ?_, fun i hi => ?_, fun i => ?_, fun hw hq => ?_⟩
  · exact ((readTaken_frame s x es).comp hwalk (n := [.points, .scan, .bus, .arb, .clock, .notices, .ports, .routes,
      .acts])).comp hhreq
  · rw [hhreq.bus, hwalk.bus, readTaken_bus]
  · rw [hhreq.arb, hread.tenure, readTaken_tenure]
  · rw [hhreq.scan, hread.inFlight, readTaken_scan]
  · rw [hpoint]
    exact handOvers_taken x es (dropGrant (takeEnded s)) hn hmem hl hd
  · rw [hpoint]
    exact handOvers_untaken x es (dropGrant (takeEnded s)) hi
  · rw [hhreq.point, hwalk.point, readTaken_state]
  · have hfree := readTaken_walkFree s x es hw hq
    have hdue := readTaken_anyDueAhead s x es
    have hdesc : ∀ i, (readTaken x es s).descOf i = s.descOf i := fun i => descOf_congr (readTaken_state s x es i)
    have hscan := readTaken_scan s x es
    have hwaiting := readTaken_waiting s x es
    rw [hhreq.scan, hhreq.arb, hhreq.clock]
    generalize readTaken x es s = u at hfree hdue hdesc hscan hwaiting ⊢
    refine ⟨fun hd => ?_, fun hd hh => ?_, fun hd hh hr => ?_⟩
    · rw [walk_due hfree none (hdue.trans hd)]
      exact ⟨hscan, rfl⟩
    · rw [walk_ends hfree none (hdue.trans hd) (by rw [hscan]; exact hh), completeCycle_scan, completeCycle_arb, hscan, hwaiting]
      refine ⟨rfl, rfl, rfl, rfl, ?_, rfl, hq⟩
      simp [hh]
    · have hheld := walk_held rfl hfree (hdue.trans hd) (by rw [hscan]; exact hh) (by rw [hscan]; exact hr)
      have hlist : DueInList (u.setScan { u.scan with cycleNumber := u.scan.cycleNumber + 1 })
          ↔ DueInList (s.setScan { s.scan with cycleNumber := s.scan.cycleNumber + 1 }) := by
        simp only [DueInList, setScan_descOf, hdesc, setScan_scan, hscan, Scanner.list]
      rw [hlist] at hheld
      rw [hscan] at hheld
      exact hheld

end Sys2Proof.Machine
end

section
/-! PROOFS. The completion of the feedback read of an exchange (O44). -/

set_option Elab.async false

namespace Sys2Proof.Machine

variable (s : State)

/-! ## What is read of the feedback point (R39, R152) -/

theorem feedbackOf_congr {s t : State} {i : ActIx} (ha : (t.actuator i).desc = (s.actuator i).desc)
    (hd : ∀ j, t.descOf j = s.descOf j) : feedbackOf t i = feedbackOf s i := by
  simp only [feedbackOf, ha, hd]

theorem readReport_congr {s t : State} {i : ActIx} (h : feedbackOf t i = feedbackOf s i) (z : Sample) :
    readReport t i z = readReport s i z := by
  simp only [readReport, h]

theorem feedbackOf_descOf {i : ActIx} {j : PointIx} {d : Descriptor} (h : feedbackOf s i = some (j, d)) :
    s.descOf j = some d := by
  simp only [feedbackOf, Option.bind_eq_bind, Option.pure_def, Option.bind_eq_some_iff, Option.some.injEq,
    Prod.mk.injEq] at h
  obtain ⟨_, -, _, -, _, hd, rfl, rfl⟩ := h
  exact hd

theorem takeFeedback_some {i : ActIx} {j : PointIx} {d : Descriptor} (h : feedbackOf s i = some (j, d)) (x : Option Port)
    (z : Sample) : takeFeedback x i z s = takeSample x j z s := by
  simp only [takeFeedback, h]

theorem takeExpiry_none {i : ActIx} (h : expiryDue s i = false) : takeExpiry i s = s := by
  simp [takeExpiry, h]

/-! ## The response (R148, R152, R174) -/

theorem respondItem_none {y : RunningItem} (h : y.answer = false ∨ y.item.port = none) (r : Reply) :
    respondItem y r s = s := by
  unfold respondItem
  rcases h with h | h <;> simp [h]

theorem respondItem_some {y : RunningItem} {p : Port} (ha : y.answer = true) (hp : y.item.port = some p) (r : Reply) :
    respondItem y r s = respond p r s := by
  simp [respondItem, ha, hp]

/-- The response of an executor that serves another kind than RESTART SUPERVISION begins no restart (R181). -/
theorem respond_restart_of_kind {p : Port} {req : Request} (he : (s.port p).executor = .serving req)
    (hk : req.kind ≠ Config.restartSupervisionKind) (r : Reply) : (respond p r s).restart = s.restart := by
  unfold respond
  simp only [he]
  split
  · rw [placeReply_restart, if_neg]
    simp [markOf_response (.inl hk)]
  · rfl

/-- A response that finds room answers the request that the executor holds. -/
theorem respond_answers {p : Port} {req : Request} (he : (s.port p).executor = .serving req)
    (hr : (s.port p).output.length < Config.outputPlaces) (hk : req.kind ≠ Config.restartSupervisionKind) (r : Reply) :
    HeldAnswered p req r.result r.body (respond p r s) := by
  have hport : (respond p r s).port p = { s.port p with
      executor := .idle
      output := (s.port p).output ++ [replyFrame req r (s.port p).summary] } := by
    rw [respond_room r he hr]
    simp only [State.port, placeReply_ports, PerPort.get_set, if_true]
  unfold HeldAnswered
  rw [hport]
  exact ⟨by rw [getLast_push, replyFrame, markOf_response (.inl hk)], rfl⟩

theorem HeldAnswered.of_frame {l : List Block} {p : Port} {req : Request} {r : Result} {b : List Byte} {s t : State}
    (h : HeldAnswered p req r b s) (hf : ChangesOnly l s t) (hl : Block.ports ∉ l := by decide) :
    HeldAnswered p req r b t := by
  unfold HeldAnswered at h ⊢
  rwa [hf.port p hl]

/-! ## The completion (R88, R152) -/

/-- The state in which the feedback point takes its sample: the results are taken, the tenures are closed, and no item runs. -/
def exchangeClosed (i : ActIx) (s : State) : State := (setInFlight i .no (closeLocked (takeEnded s))).setRunning none

section closed
variable (i : ActIx)

theorem exchangeClosed_frame : ChangesOnly [.bus, .arb, .acts] s (exchangeClosed i s) :=
  (((setBus_frame s _).comp (closeLocked_frame _) (n := [.bus, .arb, .acts])).comp (setInFlight_frame _ _ _)
    (n := [.bus, .arb, .acts])).comp (setRunning_frame _ _)

theorem exchangeClosed_actuator : (exchangeClosed i s).actuator i = { s.actuator i with inFlight := .no } := by
  rw [exchangeClosed, setRunning_actuator, setInFlight, setActuator_actuator_self]
  rfl

theorem exchangeClosed_feedbackOf : feedbackOf (exchangeClosed i s) i = feedbackOf s i :=
  feedbackOf_congr (by rw [exchangeClosed_actuator]) fun j => (exchangeClosed_frame s i).descOf j

theorem exchangeClosed_expiryDue : expiryDue (exchangeClosed i s) i = expiryDue s i := by
  simp only [expiryDue, exchangeClosed_actuator]

theorem exchangeClosed_noItems {p : Port} (h : NoItems p s) : NoItems p (exchangeClosed i s) := h

end closed

/-- The reply of a completed exchange, its actuator being as in s (R152). -/
def exchangeReply (y : RunningItem) (o : WriteOutcome) (z : Sample) (rep : Word16 × Int) (s : State) : Reply :=
  ⟨exchangeResult o.failure z.failure,
    exchangePart y.item.target (s.actuator y.item.target) y.value o.beats z.failure rep.1 rep.2⟩

/-- The state once the feedback point has taken its sample. -/
def exchangeSampled (y : RunningItem) (j : PointIx) (z : Sample) (s : State) : State :=
  takeSample (itemDeferral (exchangeClosed y.item.target s) y) j z (exchangeClosed y.item.target s)

/-- An exchange of which no expiry is due: its sample, its response, and the unit's request for what still waits. -/
theorem finishExchange_eq {y : RunningItem} {j : PointIx} {d : Descriptor} (o : WriteOutcome) (z : Sample)
    (hf : feedbackOf s y.item.target = some (j, d)) (hx : expiryDue s y.item.target = false) :
    finishExchange y o z (takeEnded s)
      = requestActuator (respondItem y (exchangeReply y o z (readReport s y.item.target z) (exchangeSampled y j z s))
        (exchangeSampled y j z s)) := by
  have hfeed : feedbackOf (exchangeClosed y.item.target s) y.item.target = some (j, d) := by
    rw [exchangeClosed_feedbackOf, hf]
  have hexp : takeExpiry y.item.target (exchangeClosed y.item.target s) = exchangeClosed y.item.target s :=
    takeExpiry_none _ (by rw [exchangeClosed_expiryDue, hx])
  have hrep := readReport_congr (exchangeClosed_feedbackOf s y.item.target) z
  have h : finishExchange y o z (takeEnded s) = (fun u : State =>
      requestActuator (respondItem y (exchangeReply y o z (readReport u y.item.target z)
        (takeFeedback (itemDeferral u y) y.item.target z u)) (takeFeedback (itemDeferral u y) y.item.target z u)))
      (takeExpiry y.item.target (exchangeClosed y.item.target s)) := rfl
  rw [h, hexp]
  simp only [hrep, takeFeedback_some _ hfeed]
  rfl

theorem execExchangeReadCompletion_eq {s : State} {x : Transaction} {y : RunningItem} {o : WriteOutcome} {j : PointIx}
    {d : Descriptor} (hp : s.por = false) (he : s.bus.ended = some x) (hy : s.acts.running = some y)
    (hx : x.requester = .actuatorUnit) (hk : x.kind = .singleRead ∨ x.kind = .doubleRead) (ho : y.outcome = some o)
    (hf : feedbackOf s y.item.target = some (j, d)) :
    execExchangeReadCompletion s = .next (decideHreq (finishExchange y o (sampleFrom x d) (takeEnded s))) := by
  have hread : x.kind.isWrite = false := by rcases hk with hk | hk <;> rw [hk] <;> rfl
  have hended : unitEnded s false = some (x, y) := by simp [unitEnded, he, hy, hx, hread]
  have hsample : feedbackSample s y.item.target x = sampleFrom x d := by simp only [feedbackSample, hf]
  simp only [execExchangeReadCompletion, hended]
  rw [event_next hp rfl, hsample, ho]
  rfl

/-- The executor that an exchange's response goes to serves a COMMAND or an EXCHANGE, and its port has nothing else to wait for
(R138, R174). -/
theorem ItemsHeld.running {s : State} (h : ItemsHeld s) {y : RunningItem} {p : Port} (hy : s.acts.running = some y)
    (ha : y.answer = true) (hp : y.item.port = some p) :
    NoItems p s ∧ ∃ req, (s.port p).executor = .serving req ∧ req.kind ≠ Config.restartSupervisionKind := by
  obtain ⟨-, -, hrun, -⟩ := h
  obtain ⟨hn, req, he, hk⟩ := hrun y p hy ha hp
  refine ⟨hn, req, he, ?_⟩
  rcases hk with hk | hk
  · exact kind_ne_restart hk (by decide)
  · exact kind_ne_restart hk (by decide)

section sampled
variable {s : State} {y : RunningItem} {j : PointIx} {z : Sample}

theorem exchangeSampled_executor {p : Port} (h : NoItems p s) :
    ((exchangeSampled y j z s).port p).executor = (s.port p).executor := by
  rw [exchangeSampled, takeSample_executor _ (exchangeClosed_noItems s _ h), (exchangeClosed_frame s _).port]

/-- The response that is wanted and finds room keeps its place while the sample is reported (R124). -/
theorem exchangeSampled_room {p : Port} (h : NoItems p s) (ha : y.answer = true) (hp : y.item.port = some p)
    (hr : (s.port p).output.length < Config.outputPlaces) :
    ((exchangeSampled y j z s).port p).output.length = (s.port p).output.length := by
  have hport : (exchangeClosed y.item.target s).port p = s.port p := (exchangeClosed_frame s _).port p
  have hdef : itemDeferral (exchangeClosed y.item.target s) y = some p := by
    simp only [itemDeferral, ha, if_true, hp, Option.bind_some]
    exact deferral_room (by rw [hport]; exact hr)
  rw [exchangeSampled, hdef, takeSample_room _ (exchangeClosed_noItems s _ h), hport]

/-- The response of an exchange begins no restart. -/
theorem exchangeSampled_respond_restart (hi : ItemsHeld s) (hy : s.acts.running = some y) (r : Reply) :
    (respondItem y r (exchangeSampled y j z s)).restart = (exchangeSampled y j z s).restart := by
  cases ha : y.answer with
  | false => rw [respondItem_none _ (.inl ha)]
  | true =>
    cases hp : y.item.port with
    | none => rw [respondItem_none _ (.inr hp)]
    | some p =>
      obtain ⟨hn, req, he, hk⟩ := hi.running hy ha hp
      rw [respondItem_some _ ha hp, respond_restart_of_kind _ ((exchangeSampled_executor hn).trans he) hk]

theorem exchangeSampled_frame : ChangesOnly [.points, .bus, .arb, .acts, .clock, .notices, .ports, .routes] s
    (exchangeSampled y j z s) := by
  have h : ChangesOnly (.bus :: liveBlocks) s (exchangeSampled y j z s) :=
    (exchangeClosed_frame s y.item.target).comp (takeSample_frame _ _ j z)
  exact h.without (b := .restart) (takeSample_holdersOnly _ _ j z).restart

end sampled

/-- Settles O44: the tenures close, the sample may end claims and delivers notices, and the response has kept its place. -/
theorem exchangeReadCompletes : Obligations.ExchangeReadCompletes := by
  intro s x y o j d hp he hy hx hk ho hf hexp hitems
  have hexec := execExchangeReadCompletion_eq hp he hy hx hk ho hf
  rw [finishExchange_eq s o (sampleFrom x d) hf hexp] at hexec
  generalize hreply : exchangeReply y o (sampleFrom x d) (readReport s y.item.target (sampleFrom x d))
    (exchangeSampled y j (sampleFrom x d) s) = reply at hexec
  generalize sampleFrom x d = z at hexec hreply ⊢
  have hclosed := exchangeClosed_frame s y.item.target
  have hheld := takeSample_holdersOnly (exchangeClosed y.item.target s)
    (itemDeferral (exchangeClosed y.item.target s) y) j z
  have hself := takeSample_self (exchangeClosed y.item.target s) ((hclosed.descOf j).trans (feedbackOf_descOf s hf))
    (itemDeferral (exchangeClosed y.item.target s) y) z
  have hothers := takeSample_others (exchangeClosed y.item.target s)
    (itemDeferral (exchangeClosed y.item.target s) y) j z
  have hresp : ChangesOnly [.ports, .routes] (exchangeSampled y j z s) (respondItem y reply (exchangeSampled y j z s)) :=
    (respondItem_frame _ y reply).without (b := .restart) (exchangeSampled_respond_restart hitems hy reply)
  have hrest : ChangesOnly [.arb, .hreq] (respondItem y reply (exchangeSampled y j z s))
      (decideHreq (requestActuator (respondItem y reply (exchangeSampled y j z s)))) :=
    (requestActuator_frame _).comp (decideHreq_frame _)
  have hlast : ChangesOnly [.ports, .routes, .arb, .hreq] (exchangeSampled y j z s)
      (decideHreq (requestActuator (respondItem y reply (exchangeSampled y j z s)))) := hresp.comp hrest
  have htenure : TenureKept (exchangeClosed y.item.target s)
      (decideHreq (requestActuator (respondItem y reply (exchangeSampled y j z s)))) :=
    ((hheld.tenure.trans (.of_arb hresp.arb)).trans (requestActuator_tenureKept _)).trans (.of_arb (decideHreq_frame _).arb)
  refine ⟨_, hexec, exchangeSampled_frame.comp hlast, ?_, htenure.tenure, htenure.locked, ?_, ?_, ?_, ?_, ?_, ?_,
    fun p req ha hport hserving hroom => ?_⟩
  · rw [hlast.bus]
    exact (takeSample_frame _ _ j z).bus
  · rw [hlast.acts]
    exact hheld.running
  · rw [hlast.actuator, exchangeSampled, hheld.entries, exchangeClosed_actuator]
  · rw [hlast.actuator, exchangeSampled, hheld.entries, exchangeClosed_actuator]
  · rw [hlast.point, exchangeSampled, hself.1, hclosed.scan, hclosed.point]
  · rw [hlast.point, exchangeSampled, hself.2, hclosed.point]
  · exact hothers.congr (fun i => (hclosed.point i).symm) hlast.point
  · obtain ⟨hn, req', he', hkind⟩ := hitems.running hy ha hport
    obtain rfl : req' = req := by
      rw [hserving] at he'
      exact (Executor.serving.inj he').symm
    have hans := respond_answers (exchangeSampled y j z s) ((exchangeSampled_executor hn).trans hserving)
      (by rw [exchangeSampled_room hn ha hport hroom]; exact hroom) hkind reply
    rw [← respondItem_some _ ha hport] at hans
    rw [hlast.actuator]
    subst hreply
    exact hans.of_frame hrest

end Sys2Proof.Machine
end

section
/-! PROOFS. The passing of a millisecond with no command waiting (O2). -/

set_option Elab.async false

namespace Sys2Proof.Machine

variable (s : State)

/-! ## The idle step -/

/-- With no command waiting the block idles. -/
theorem step_idle (h : s.pending = []) : step s = .next (idleStep s) := by simp only [step, h]

theorem idleStep_por (h : s.por = true) : idleStep s = s := if_pos h

theorem idleStep_running (h : s.por = false) : idleStep s = tick s := if_neg (by simp [h])

/-! ## What a millisecond leaves -/

theorem tick_frame : ChangesOnly [.scan, .clock, .ports, .routes, .acts, .link] s (tick s) := by
  intro b hb
  cases b <;> simp_all [Block.same, tick]

theorem tick_route (r : RoutePort) : (tick s).route r = tickRoute (s.route r) := by cases r <;> rfl

theorem tick_port (r : RoutePort) : (tick s).port (toPort r) = tickLine s.baud (s.route r) (s.port (toPort r)) := by
  cases r <;> rfl

theorem tick_actuator (i : ActIx) :
    (tick s).actuator i = { s.actuator i with refreshTimer := Timer.lower 1 (s.actuator i).refreshTimer } := by
  simp [State.actuator, tick, Vector.get_eq_getElem]

theorem tick_slot (k : ReferralIx) : (tick s).slot k = (s.slot k).lower 1 := by
  simp [State.slot, tick, Vector.get_eq_getElem]

/-- A frame in transmission has sent the bytes of the time on its line, and is over with its last byte (R176). -/
theorem drainLine_sending {b : Baud} {ms pos gone : Nat} (bytes : List Byte) (h : gone = max pos (1 + lineBytes b ms)) :
    (gone < bytes.length → drainLine b ms (.sending bytes pos) = .sending bytes gone)
      ∧ (bytes.length ≤ gone → drainLine b ms (.sending bytes pos) = .idle) := by
  subst h
  exact ⟨fun hlt => if_pos hlt, fun hle => if_neg (Nat.not_lt.2 hle)⟩

/-- Settles O2: with POR released the idle step is a tick, read part by part. -/
theorem idleStepPassesOneMillisecond : Obligations.IdleStepPassesOneMillisecond := by
  intro s hq
  rw [step_idle s hq]
  refine ⟨fun hp => by rw [idleStep_por s hp], fun hp => ⟨tick s, by rw [idleStep_running s hp], tick_frame s, rfl, rfl,
    tick_route s, rfl, fun r => ⟨?_, fun hi => ?_, fun bytes pos gone hs hg => ?_⟩, rfl, rfl, rfl, tick_actuator s, rfl, rfl,
    rfl, rfl, rfl, rfl, fun k => ?_⟩⟩
  · rw [tick_port]
    rfl
  · rw [tick_port, tickLine, hi]
    rfl
  · rw [tick_port, tickLine, hs]
    exact drainLine_sending bytes (hg.trans (by cases s.baud <;> rfl))
  · rw [tick_slot]
    cases s.slot k <;> rfl

end Sys2Proof.Machine
end

section
/-! PROOFS. RESTART SUPERVISION and the first step of a supervision restart (O51). -/

set_option Elab.async false

namespace Sys2Proof.Machine

variable (s : State)

/-! ## The OK of RESTART SUPERVISION (R181) -/

theorem kind_eq_restartSupervision {b : Byte} (h : kindOf b = some .restartSupervision) : b = Config.restartSupervisionKind := by
  unfold kindOf at h
  split at h
  all_goals cases h
  next hb => exact BitVec.eq_of_toNat_eq hb

/-- The one request whose OK has the mark of a restart (R181). -/
theorem markOf_restart {req : Request} (h : kindOf req.kind = some .restartSupervision) : markOf req (bare .ok) = .restartOk :=
  if_pos ⟨kind_eq_restartSupervision h, rfl⟩

/-! ## The first step (R59, R89, R181) -/

/-- Step 1 before anything of the bus ends: the cycle is abandoned, the work list and the waiting set are empty. -/
def restartBegun (p : Port) (s : State) : State :=
  let s1 := (abandonCycle s).setWorkList []
  (s1.setArb (arbiterRestart s1.arb)).setRestart (.running p)

theorem beginRestart_eq (p : Port) : beginRestart p s
    = if s.bus.inFlight.isSome then restartBegun p s else closeTenure (restartBegun p s) := rfl

theorem restartBegun_frame (p : Port) : ChangesOnly [.scan, .arb, .acts, .restart] s (restartBegun p s) :=
  ((((setScannerWaiting_frame s false).comp (setScan_frame _ _) (n := [.scan, .arb, .acts, .restart])).comp
    (setWorkList_frame _ []) (n := [.scan, .arb, .acts, .restart])).comp (setArb_frame _ _)
    (n := [.scan, .arb, .acts, .restart])).comp (setRestart_frame _ _)

theorem requestActuator_empty (h : s.acts.workList = []) : requestActuator s = s := by simp [requestActuator, h]

theorem dropRunning_acts : (dropRunning s).acts.workList = s.acts.workList ∧ (dropRunning s).acts.running = none := by
  unfold dropRunning
  split
  · next h => exact ⟨rfl, h⟩
  · exact ⟨rfl, rfl⟩

/-- What the closing of a tenure leaves where nothing waits in the work list (R87, R157). -/
theorem closeTenure_parts (h : s.acts.workList = []) : (closeTenure s).arb = { s.arb with tenure := none, locked := .closed }
    ∧ (closeTenure s).scan = { s.scan with inFlight := none } ∧ (closeTenure s).bus = { s.bus with ended := none }
    ∧ (closeTenure s).acts.workList = [] ∧ (closeTenure s).acts.running = none := by
  unfold closeTenure
  simp only []
  generalize hu : State.setScan _ _ = u
  obtain ⟨hw, hr⟩ := dropRunning_acts u
  have hf := dropRunning_frame u
  have hwork : u.acts.workList = [] := by rw [← hu]; exact h
  rw [requestActuator_empty _ (hw.trans hwork), hf.arb, hf.scan, hf.bus]
  subst hu
  exact ⟨rfl, rfl, rfl, hw.trans hwork, hr⟩

/-- Settles O51: the OK that is placed makes the restart due; step 1 closes what no transaction in flight holds open. -/
theorem supervisionRestartBegins : Obligations.SupervisionRestartBegins := by
  refine ⟨fun p s req ⟨h, hk⟩ => ?_, fun p s hp hd => ?_⟩
  · have hport : (takeHead p s).port p = { s.port p with requests := (s.port p).requests.tail, executor := .serving req } := by
      rw [takeHead_port h.queue, if_pos rfl]
    have hmark := markOf_restart hk
    have hfin : finishService p (serveRestartSupervision (deferral s p) req (takeHead p s))
        = placeReply p req (bare .ok) (takeHead p s) :=
      respond_room (s := takeHead p s) (bare .ok) (takeHead_executor h.queue) (by rw [hport]; exact h.room)
    have hplace := placeReply_frame (takeHead p s) p req (bare .ok)
    have hhreq := decideHreq_frame (placeReply p req (bare .ok) (takeHead p s))
    refine ⟨_, serve_eq h.toTaken (by simp [ofKind, hk]), ?_⟩
    rw [hfin]
    refine ⟨((takeHead_frame s p).comp hplace (n := [.ports, .routes, .restart, .hreq])).comp hhreq, ?_, ?_, ?_⟩
    · rw [hhreq.restart, placeReply_restart, if_pos ⟨hmark, by rw [(takeHead_frame s p).restart]; exact h.restart⟩]
    · rw [hhreq.routes, placeReply_routes, hport, (takeHead_frame s p).routes]
    · rw [hhreq.ports, placeReply_ports, hport, takeHead_eq h.queue, setPort_ports, replyFrame, hmark]
      cases p <;> rfl
  · have hexec : exec .supervisionRestart s = .next (decideHreq (beginRestart p s)) := by
      show execSupervisionRestart s = _
      simp only [execSupervisionRestart, hd]
      exact event_next hp rfl
    have hhreq := decideHreq_frame (beginRestart p s)
    have hbegun := restartBegun_frame s p
    refine ⟨_, hexec, ?_⟩
    rw [hhreq.restart, hhreq.acts, hhreq.arb, hhreq.scan, hhreq.bus]
    rw [beginRestart_eq] at hhreq ⊢
    split at hhreq
    · next hin =>
      rw [if_pos hin]
      exact ⟨hbegun.comp hhreq, rfl, rfl, rfl, rfl, rfl, rfl, rfl, rfl, rfl, rfl, rfl, rfl, fun _ => ⟨rfl, rfl, rfl⟩,
        fun hn => by simp [hn] at hin⟩
    · next hin =>
      have hclose := closeTenure_frame (restartBegun p s)
      obtain ⟨harb, hscan, hbus, hwork, hrun⟩ := closeTenure_parts (restartBegun p s) rfl
      rw [if_neg hin, harb, hscan, hbus, hwork, hrun, hclose.restart]
      exact ⟨(hbegun.comp hclose (n := [.scan, .arb, .acts, .bus, .restart])).comp hhreq, rfl, rfl, rfl, rfl, rfl, rfl, rfl,
        rfl, rfl, rfl, rfl, rfl, fun hs => absurd hs hin, fun _ => ⟨rfl, rfl, rfl, rfl⟩⟩

end Sys2Proof.Machine
end

section
/-! PROOFS. The expiry of the period timer (O20), START SCAN and STOP SCAN (O18). -/

set_option Elab.async false

namespace Sys2Proof.Machine

variable (s : State)

/-! ## The start and the end of one condition (R105, R107) -/

theorem findNotice_none {id : NoticeId} (h : ∀ n ∈ s.notices.entries, n.id ≠ id) : findNotice s id = none := by
  simpa [findNotice] using h

/-- A condition that has no entry is entered at its start where a place is free and its priority is not 0 (R105, R108). -/
theorem report_start_enters (d : Option Port) {id : NoticeId} (h : ∀ n ∈ s.notices.entries, n.id ≠ id)
    (hl : s.notices.entries.length < 64) (hp : priorityOf s id none ≠ 0) : (report d id (.start none) s).notices
      = { s.notices with entries := s.notices.entries ++ [newNotice s id none] } := by
  rw [report_notices]
  simp only [applyReport, findNotice_none s h, enterNotice, if_neg hp, insertNotice, Config.notices, if_pos hl]
  rfl

/-- The end of a condition leaves it no entry but a RETURNED one (R107). -/
theorem report_finish_onlyReturned (d : Option Port) (id : NoticeId) (h : NoticesSound s) :
    OnlyReturned id (report d id .finish s) := by
  intro n hn hid
  rw [report_notices] at hn
  cases hf : findNotice s id with
  | none =>
    simp only [applyReport, hf] at hn
    exact absurd hid (by simpa using List.find?_eq_none.1 hf n hn)
  | some m =>
    cases hs : m.state <;> simp only [applyReport, hf, hs] at hn
    · obtain ⟨k, -, rfl⟩ := List.mem_map.1 hn
      split at hid
      · next hk => rw [if_pos hk]; rfl
      · next hk => exact absurd hid hk
    · exact absurd hid (by simpa using (List.mem_filter.1 hn).2)
    · have hm : m.id = id := by simpa using List.find?_some hf
      rw [List.inj_on_of_nodup_map h.2 hn (List.mem_of_find?_eq_some hf) (hid.trans hm.symm)]
      exact hs

/-! ## The start of a cycle with the Scanner at rest (R46, R48, R50, R55) -/

theorem anyDueAhead_beginCycle_iff : anyDueAhead (beginCycle s) = true ↔ DueInList s :=
  anyDueAhead_iff_dueInList (fun _ => rfl) rfl rfl

theorem endOverrun_none (d : Option Port) (h : s.scan.overrun = false) : endOverrun d s = s := by simp [endOverrun, h]

section start
variable {s} (d : Option Port)

theorem startCycle_due (hr : ScannerAtRest s) (hd : DueInList s) : startCycle d s = setScannerWaiting true (beginCycle s) := by
  have hguard : s.scan.inFlight = none ∧ s.arb.waiting.scanner = false ∧ s.arb.tenure ≠ some .scanner := hr
  rw [startCycle_eq, if_pos hguard, if_pos ((anyDueAhead_beginCycle_iff s).2 hd)]

theorem startCycle_empty (hr : ScannerAtRest s) (hd : ¬ DueInList s) :
    startCycle d s = endOverrun d (cycleEnded (beginCycle s)) := by
  have hguard : s.scan.inFlight = none ∧ s.arb.waiting.scanner = false ∧ s.arb.tenure ≠ some .scanner := hr
  rw [startCycle_eq, if_pos hguard, if_neg (mt (anyDueAhead_beginCycle_iff s).1 hd)]

theorem startCycle_walks (hr : ScannerAtRest s) (hd : DueInList s) : CycleWalks s (startCycle d s) := by
  rw [startCycle_due d hr hd]
  exact ⟨rfl, rfl, rfl, rfl, rfl, rfl, rfl, rfl⟩

theorem startCycle_completes (hr : ScannerAtRest s) (hd : ¬ DueInList s) : CycleEmpty s (startCycle d s) := by
  rw [startCycle_empty d hr hd, CycleEmpty, endOverrun_scan, endOverrun_arb]
  exact ⟨rfl, rfl, rfl, rfl, rfl, rfl, rfl, rfl⟩

theorem startCycle_due_frame (hr : ScannerAtRest s) (hd : DueInList s) : ChangesOnly [.scan, .arb] s (startCycle d s) := by
  rw [startCycle_due d hr hd]
  exact (beginCycle_frame s).comp (setScannerWaiting_frame _ true)

theorem cycleEnded_beginCycle_frame : ChangesOnly [.scan] s (cycleEnded (beginCycle s)) :=
  (beginCycle_frame s).comp (setScan_frame _ _)

theorem startCycle_empty_frame (hr : ScannerAtRest s) (hd : ¬ DueInList s) :
    ChangesOnly [.scan, .notices, .ports, .routes] s (startCycle d s) := by
  obtain ⟨-, -, -, -, -, -, -, harb⟩ := startCycle_completes d hr hd
  exact (startCycle_frame s d).without (b := .arb) harb

/-- With no overrun to end, a cycle that completes at once reports nothing. -/
theorem startCycle_empty_quiet (hr : ScannerAtRest s) (hd : ¬ DueInList s) (ho : s.scan.overrun = false) :
    ChangesOnly [.scan] s (startCycle d s) := by
  rw [startCycle_empty d hr hd, endOverrun_none (cycleEnded (beginCycle s)) d ho]
  exact cycleEnded_beginCycle_frame

end start

/-! ## The expiry of the period timer (R46, R54) -/

/-- The start that is held behind a cycle still walking: the timer stops and the overrun is active (R54). -/
def overrunHeld (s : State) : State := s.setScan { s.scan with heldStart := true, periodTimer := none, overrun := true }

theorem periodExpired_idle (h : s.scan.cycleState = .idle) : periodExpired s = startCycle none s := if_pos h

theorem periodExpired_walking (h : s.scan.cycleState = .walking) : periodExpired s
    = if s.scan.overrun then overrunHeld s else report none (.internal .scanOverrun) (.start none) (overrunHeld s) := by
  rw [periodExpired, if_neg (by simp [h])]
  split
  · next ho => simp only [overrunHeld, ← ho]
  · rfl

/-- Settles O20: between cycles the expiry is a start; while a cycle walks it is held, with the report of a new overrun. -/
theorem periodTimerExpiryStartsOrHolds : Obligations.PeriodTimerExpiryStartsOrHolds := by
  refine ⟨fun s h => event_none (.inr (timer_not_expired h)), fun s hp ht => ?_⟩
  have hexec : exec .periodTimerExpiry s = .next (decideHreq (periodExpired s)) := event_next hp (timer_expired_iff.2 ht)
  have hhreq := decideHreq_frame (periodExpired s)
  refine ⟨fun hc hr hd => ⟨_, hexec, ?_⟩, fun hc hr hd => ⟨_, hexec, ?_⟩, fun hc => ⟨_, hexec, ?_⟩⟩
  · have hlist := startCycle_listKept s none
    rw [periodExpired_idle s hc] at hhreq ⊢
    refine ⟨(startCycle_due_frame none hr hd).comp hhreq, ?_, ?_, ?_⟩
    · rw [CycleWalks, hhreq.scan, hhreq.arb]
      exact startCycle_walks none hr hd
    · rw [hhreq.scan, hlist.scanState]
    · rw [hhreq.scan, hlist.period]
  · have hlist := startCycle_listKept s none
    rw [periodExpired_idle s hc] at hhreq ⊢
    refine ⟨(startCycle_empty_frame none hr hd).comp hhreq, ?_, ?_, ?_, fun ho => ?_⟩
    · rw [CycleEmpty, hhreq.scan, hhreq.arb]
      exact startCycle_completes none hr hd
    · rw [hhreq.scan, hlist.scanState]
    · rw [hhreq.scan, hlist.period]
    · exact (startCycle_empty_quiet none hr hd ho).comp hhreq
  · have hheld : ChangesOnly [.scan] s (overrunHeld s) := setScan_frame s _
    have hreport := report_frame (overrunHeld s) none (.internal .scanOverrun) (.start none)
    rw [periodExpired_walking s hc] at hhreq ⊢
    cases ho : s.scan.overrun with
    | true =>
      simp only [ho, if_true] at hhreq ⊢
      exact ⟨hheld.comp hhreq, rfl, fun _ => hheld.comp hhreq, nofun⟩
    | false =>
      simp only [ho, Bool.false_eq_true, if_false] at hhreq ⊢
      refine ⟨(hheld.comp hreport (n := [.scan, .notices, .ports, .routes])).comp hhreq, ?_, nofun, fun _ hn hl => ?_⟩
      · rw [hhreq.scan, hreport.scan]
        rfl
      · rw [Entered, hhreq.notices, report_start_enters (overrunHeld s) none hn hl (by simp [priorityOf, InternalSource.priority])]
        rfl

/-! ## START SCAN (R44, R46) -/

/-- The state in which START SCAN starts a cycle: the request is taken and the scan state is RUNNING. -/
def scanStarted (s : State) : State := (takeHead .hut s).setScan { s.scan with scanState := .running }

theorem scanStarted_frame : ChangesOnly [.scan] (takeHead .hut s) (scanStarted s) := setScan_frame _ _

theorem scanStarted_clock : (scanStarted s).clock = s.clock := takeHead_clock s .hut

theorem scanStarted_arb : (scanStarted s).arb = s.arb := takeHead_arb s .hut

theorem scanStarted_atRest (h : ScannerAtRest s) : ScannerAtRest (scanStarted s) := by
  unfold ScannerAtRest
  rw [scanStarted_arb]
  exact h

theorem scanStarted_dueInList : DueInList (scanStarted s) ↔ DueInList s := by
  have hdesc : ∀ i, (scanStarted s).descOf i = s.descOf i := takeHead_descOf s .hut
  simp only [DueInList, hdesc]
  exact .rfl

theorem scanStarted_cycleWalks {t : State} : CycleWalks (scanStarted s) t ↔ CycleWalks s t := by
  simp only [CycleWalks, scanStarted_clock, scanStarted_arb]
  exact .rfl

theorem scanStarted_cycleEmpty {t : State} : CycleEmpty (scanStarted s) t ↔ CycleEmpty s t := by
  simp only [CycleEmpty, scanStarted_clock, scanStarted_arb]
  exact .rfl

theorem serveStartScan_idle (d : Option Port) (req : Request) (hs : s.scan.scanState = .stopped)
    (hc : s.scan.cycleState = .idle) :
    serveStartScan d req (takeHead .hut s) = scanAnswer (startCycle d (scanStarted s)) := by
  simp [serveStartScan, hs, hc, scanStarted]

theorem serveStartScan_walking (d : Option Port) (req : Request) (hs : s.scan.scanState = .stopped)
    (hc : s.scan.cycleState = .walking) : serveStartScan d req (takeHead .hut s)
      = scanAnswer ((takeHead .hut s).setScan { s.scan with scanState := .running, heldStart := true }) := by
  simp [serveStartScan, hs, hc]

/-- START SCAN between cycles with a due entry: the answer follows a cycle that walks. -/
theorem startScan_walks {req : Request} (h : Asked .startScan .hut s req) (hs : s.scan.scanState = .stopped)
    (hc : s.scan.cycleState = .idle) (hr : ScannerAtRest s) (hd : DueInList s) :
    ∃ t, exec .startScan s = .next t ∧ Answered .hut req .ok [1, 1] s t ∧ ChangesOnly [.scan, .arb, .ports, .routes, .hreq] s t
      ∧ CycleWalks s t ∧ t.scan.scanState = .running ∧ t.scan.period = s.scan.period := by
  have hr' := scanStarted_atRest s hr
  have hd' := (scanStarted_dueInList s).2 hd
  have hframe := (scanStarted_frame s).comp (startCycle_due_frame (some .hut) hr' hd') (n := [.scan, .arb])
  have hlist := startCycle_listKept (scanStarted s) (some .hut)
  have hwalks := (scanStarted_cycleWalks s).1 (startCycle_walks (some .hut) hr' hd')
  have hbody : [(startCycle (some .hut) (scanStarted s)).scan.scanState.code,
      (startCycle (some .hut) (scanStarted s)).scan.cycleState.code] = [1, 1] := by
    rw [hlist.scanState, hwalks.1]
    rfl
  obtain ⟨t, ht, hans, hk⟩ := serve_answered_of_kind h (by decide) (serveStartScan_idle s (some .hut) req hs hc) hframe
  rw [hbody] at hans
  refine ⟨t, ht, hans, ((takeHead_frame s .hut).comp hframe (n := [.scan, .arb, .ports, .routes, .hreq])).comp hk, ?_, ?_, ?_⟩
  · rw [CycleWalks, hk.scan, hk.arb]
    exact hwalks
  · rw [hk.scan, hlist.scanState]
    rfl
  · rw [hk.scan, hlist.period]
    rfl

/-- START SCAN between cycles with nothing due: the answer follows a cycle that has completed at once. -/
theorem startScan_completes {req : Request} (h : Asked .startScan .hut s req) (hs : s.scan.scanState = .stopped)
    (hc : s.scan.cycleState = .idle) (hr : ScannerAtRest s) (hd : ¬ DueInList s) :
    ∃ t, exec .startScan s = .next t ∧ AnsweredAfter .hut req .ok [1, 0] s t
      ∧ ChangesOnly [.scan, .notices, .ports, .routes, .hreq] s t ∧ CycleEmpty s t
      ∧ t.scan.scanState = .running ∧ t.scan.period = s.scan.period
      ∧ (s.scan.overrun = false → t.notices = s.notices) := by
  have hr' := scanStarted_atRest s hr
  have hd' := mt (scanStarted_dueInList s).1 hd
  have hframe := (scanStarted_frame s).comp (startCycle_empty_frame (some .hut) hr' hd') (n := [.scan, .notices, .ports, .routes])
  have hlist := startCycle_listKept (scanStarted s) (some .hut)
  have hempty := (scanStarted_cycleEmpty s).1 (startCycle_completes (some .hut) hr' hd')
  have hbody : [(startCycle (some .hut) (scanStarted s)).scan.scanState.code,
      (startCycle (some .hut) (scanStarted s)).scan.cycleState.code] = [1, 0] := by
    rw [hlist.scanState, hempty.1]
    rfl
  obtain ⟨t, ht, hans, -, hk⟩ := serve_answeredAfter h.1 (ofKind_of_asked h) (serveStartScan_idle s (some .hut) req hs hc)
    ((Delivers.of_frame (scanStarted_frame s)).trans (startCycle_delivers _ (some .hut)))
    (.inl (kind_ne_restart h.2 (by decide)))
  rw [hbody] at hans
  refine ⟨t, ht, hans, ((takeHead_frame s .hut).comp hframe (n := [.scan, .notices, .ports, .routes, .hreq])).comp hk, ?_, ?_,
    ?_, fun ho => ?_⟩
  · rw [CycleEmpty, hk.scan, hk.arb]
    exact hempty
  · rw [hk.scan, hlist.scanState]
    rfl
  · rw [hk.scan, hlist.period]
    rfl
  · rw [hk.notices, (startCycle_empty_quiet (some .hut) hr' hd' ho).notices]
    exact takeHead_notices s .hut

/-! ## STOP SCAN (R45, R55) -/

/-- STOP SCAN before an overrun ends: no timer runs and no start is held. -/
def scanStopped (s : State) : State := s.setScan { s.scan with scanState := .stopped, periodTimer := none, heldStart := false }

/-- What STOP SCAN does in RUNNING: an overrun ends where no cycle walks. -/
def scanEnded (d : Option Port) (s : State) : State :=
  if s.scan.cycleState = .idle then endOverrun d (scanStopped s) else scanStopped s

theorem serveStopScan_running (d : Option Port) (req : Request) (h : s.scan.scanState = .running) :
    serveStopScan d req s = scanAnswer (scanEnded d s) := by
  rw [serveStopScan, if_neg (by simp [h])]
  rfl

theorem scanEnded_scan (d : Option Port) : (scanEnded d s).scan = { s.scan with
    scanState := .stopped
    periodTimer := none
    heldStart := false
    overrun := if s.scan.cycleState = .idle then false else s.scan.overrun } := by
  unfold scanEnded
  split
  · rw [endOverrun_scan]
    rfl
  · rfl

theorem scanEnded_frame (d : Option Port) : ChangesOnly [.scan, .notices, .ports, .routes] s (scanEnded d s) := by
  have hstop : ChangesOnly [.scan] s (scanStopped s) := setScan_frame s _
  unfold scanEnded
  split
  · exact hstop.comp ((endOverrun_frame _ d).without (b := .arb) (n := [.scan, .notices, .ports, .routes]) (endOverrun_arb _ d))
  · exact hstop.mono

theorem scanEnded_delivers (d : Option Port) : Delivers d s (scanEnded d s) := by
  have hstop : Delivers d s (scanStopped s) := .of_frame (setScan_frame s _)
  unfold scanEnded
  split
  · exact hstop.trans (endOverrun_delivers _ d)
  · exact hstop

/-- With no overrun, or with a cycle still walking, nothing is reported. -/
theorem scanEnded_quiet (d : Option Port) (h : s.scan.overrun = false ∨ s.scan.cycleState = .walking) :
    (scanEnded d s).notices = s.notices := by
  unfold scanEnded
  split
  · next hc =>
    rw [endOverrun_none (scanStopped s) d (h.resolve_right (by simp [hc]))]
    rfl
  · rfl

theorem scanEnded_onlyReturned (d : Option Port) (ho : s.scan.overrun = true) (hc : s.scan.cycleState = .idle)
    (hn : NoticesSound s) : OnlyReturned (.internal .scanOverrun) (scanEnded d s) := by
  have hover : (scanStopped s).scan.overrun = true := ho
  rw [scanEnded, if_pos hc, endOverrun, if_pos hover]
  exact report_finish_onlyReturned _ d _ hn

/-- Settles O18: what START SCAN and STOP SCAN do follows the scan state and then the cycle state. -/
theorem scanStartsAndStops : Obligations.ScanStartsAndStops := by
  intro s req
  refine ⟨fun h => ⟨fun hs => ?_, fun hs hc => ?_,
      fun hs hc hr => ⟨startScan_walks s h hs hc hr, startScan_completes s h hs hc hr⟩⟩,
    fun h => ⟨fun hs => ?_, fun hs => ?_⟩⟩
  · refine answersOnly_of_kind h (by decide) rfl ?_
    simp only [serveStartScan, takeHead_scan, hs, if_true, scanAnswer, answer]
    rfl
  · have hu := setScan_frame (takeHead .hut s) { s.scan with scanState := .running, heldStart := true }
    obtain ⟨t, ht, hans, hk⟩ := serve_answered_of_kind h (by decide) (serveStartScan_walking s (some .hut) req hs hc) hu
    rw [setScan_scan, hc] at hans
    exact ⟨t, ht, hans, ((takeHead_frame s .hut).comp hu (n := [.scan, .ports, .routes, .hreq])).comp hk, hk.scan⟩
  · refine answersOnly_of_kind h (by decide) rfl ?_
    simp only [serveStopScan, takeHead_scan, hs, if_true, scanAnswer, answer]
    rfl
  · have hscan := scanEnded_scan (takeHead .hut s) (some .hut)
    have hnotices : (takeHead .hut s).notices = s.notices := takeHead_notices s .hut
    obtain ⟨t, ht, hans, -, hk⟩ := serve_answeredAfter h.1 (ofKind_of_asked h)
      (serveStopScan_running (takeHead .hut s) (some .hut) req (by rw [takeHead_scan]; exact hs))
      (scanEnded_delivers _ (some .hut)) (.inl (kind_ne_restart h.2 (by decide)))
    rw [takeHead_scan] at hscan
    rw [hscan] at hans
    refine ⟨t, ht, hans, ((takeHead_frame s .hut).comp (scanEnded_frame _ (some .hut))
      (n := [.scan, .notices, .ports, .routes, .hreq])).comp hk, by rw [hk.scan, hscan], fun hq => ?_, fun ho hc hn => ?_⟩
    · rw [hk.notices, scanEnded_quiet _ _ (by rw [takeHead_scan]; exact hq), hnotices]
    · rw [OnlyReturned, hk.notices]
      exact scanEnded_onlyReturned _ _ (by rw [takeHead_scan]; exact ho) (by rw [takeHead_scan]; exact hc)
        (by rw [NoticesSound, hnotices]; exact hn)

end Sys2Proof.Machine
end

section
/-! SUPPORT. What a grant composes: reads and writes of a register, direct transfers, and the Scanner's line reads (R51, R52, R64,
R69, R71). -/

set_option Elab.async false

namespace Sys2Proof.Machine

variable (s : State)

/-! ## The lanes of a write (R69) -/

theorem lowHalf_eq (v : Word16) : lowHalf v = v &&& 0xFF#16 := by
  refine BitVec.eq_of_toNat_eq ?_
  have hmask : v.toNat &&& 255 = v.toNat % 256 := Nat.and_two_pow_sub_one_eq_mod v.toNat 8
  simp only [lowHalf, lowByte, BitVec.toNat_setWidth, BitVec.extractLsb'_toNat, BitVec.toNat_and, BitVec.toNat_ofNat,
    Nat.shiftRight_zero, Nat.reducePow, Nat.reduceMod, hmask]
  omega

theorem highByte_setWidth (v : Word16) : (highByte v).setWidth 16 = v >>> 8 := by
  refine BitVec.eq_of_toNat_eq ?_
  have hv := v.isLt
  simp only [highByte, BitVec.toNat_setWidth, BitVec.extractLsb'_toNat, BitVec.toNat_ushiftRight, Nat.shiftRight_eq_div_pow]
  omega

theorem lowByte_append_zero (v : Word16) : (lowByte v).append 0#8 = v <<< 8 := by
  refine BitVec.eq_of_toNat_eq ?_
  have happ : ((lowByte v).append 0#8).toNat = (lowByte v).toNat <<< 8 ||| 0 := BitVec.toNat_append (lowByte v) 0#8
  rw [happ]
  simp only [lowByte, BitVec.extractLsb'_toNat, BitVec.toNat_shiftLeft, Nat.shiftLeft_eq, Nat.shiftRight_zero, Nat.or_zero]
  omega

/-! ## A register of each class width (R64, R69) -/

theorem composeWrite_some {who : Requester} {m : ModIx} {w : Width} {o : Byte} {bw : BusWidth} (v : Word16)
    (hc : (s.classOf m).width = bw) (ha : addressable bw w o = true) : composeWrite s who m w o v
      = some (composed s who (writePlan bw w o v).1 m (writePlan bw w o v).2 []) := by
  simp only [composeWrite, hc, ha, if_true]
  rfl

theorem composeWrite_none {who : Requester} {m : ModIx} {w : Width} {o : Byte} (v : Word16)
    (ha : addressable (s.classOf m).width w o = false) : composeWrite s who m w o v = none := by
  simp [composeWrite, ha]

theorem composeRead_some {who : Requester} {m : ModIx} {w : Width} {o : Byte} {bw : BusWidth}
    (hc : (s.classOf m).width = bw) (ha : addressable bw w o = true) : composeRead s who m w o
      = some (composed s who (readPlan bw w o).1 m ((readPlan bw w o).2.map readBeat) (readPlan bw w o).2) := by
  simp only [composeRead, hc, ha, if_true]
  rfl

theorem composeRead_none {who : Requester} {m : ModIx} {w : Width} {o : Byte}
    (ha : addressable (s.classOf m).width w o = false) : composeRead s who m w o = none := by
  simp [composeRead, ha]

/-! ## The order of a line read (R71) -/

theorem lineOrder_eq (w : Nat) : lineOrder w = wrapOrder w := by
  have hw : 4 * (w / 4) + w % 4 = w := by omega
  have hr : w % 4 < 4 := by omega
  unfold lineOrder wrapOrder
  generalize w % 4 = r at *
  generalize w / 4 = q at *
  subst hw
  interval_cases r <;> simp [List.range']

/-! ## Direct transfers (R79, R80) -/

theorem isOdd_eq (o : Byte) : isOdd o = decide (o.toNat % 2 = 1) := rfl

theorem isOdd_iff {o : Byte} : isOdd o = true ↔ o.toNat % 2 = 1 := by simp [isOdd]

/-- A direct LINE read under a class that serves it. -/
theorem composeDirect_line {p : Port} {m : ModIx} {o : Byte} (hc : (s.classOf m).width = .w16)
    (hl : (s.classOf m).lineReads = true) (ho : o.toNat % 2 = 0) : composeDirect s p ⟨m, o, .line, none⟩
      = some (composed s (.direct p) .lineRead m ((wrapOrder (o.toNat / 2)).map fun a => ⟨a, none⟩) (wrapOrder (o.toNat / 2))) := by
  have hodd : isOdd o = false := by simp [isOdd, ho]
  rw [← lineOrder_eq]
  exact if_pos ⟨hc, hl, hodd⟩

theorem composeDirect_line_none {p : Port} {m : ModIx} {o : Byte}
    (h : (s.classOf m).width = .w8 ∨ (s.classOf m).lineReads = false ∨ o.toNat % 2 = 1) :
    composeDirect s p ⟨m, o, .line, none⟩ = none := by
  refine if_neg fun ⟨hc, hl, hodd⟩ => ?_
  rcases h with h | h | h
  · exact absurd (h.symm.trans hc) (by decide)
  · exact absurd (h.symm.trans hl) (by decide)
  · exact absurd ((isOdd_iff.2 h).symm.trans hodd) (by decide)

/-! ## The entries and the words of the Scanner's read (R51, R52) -/

/-- A point that lies in a block of a module at a readable address (R52). -/
def fits (m : ModIx) (block : Nat) (j : PointIx) : Bool := (s.descOf j).any (inBlock s m block)

theorem isDue_descOf {j : PointIx} (h : isDue s j = true) : ∃ d, s.descOf j = some d := by
  obtain ⟨d, hd, -⟩ := (isDue_iff s).1 h
  exact ⟨d, hd⟩

/-- The grouping examines the due entries one by one until one does not fit, at most n of them (R52). -/
theorem includedAfter_eq (m : ModIx) (block n : Nat) (rest : List PointIx) :
    includedAfter s m block n rest = ((rest.filter (isDue s)).take n).takeWhile (fits s m block) := by
  induction rest generalizing n with
  | nil => cases n <;> simp [includedAfter]
  | cons i rest ih =>
    cases n with
    | zero => simp [includedAfter]
    | succ n =>
      cases hd : s.descOf i with
      | none =>
        have hi : isDue s i = false := by simp [isDue, hd]
        simp [includedAfter, hd, hi, ih]
      | some d =>
        cases hi : isDue s i with
        | false => simp [includedAfter, hd, hi, ih]
        | true => cases hb : inBlock s m block d <;> simp [includedAfter, hd, hi, hb, ih, fits]

theorem included_eq {m : ModIx} (hc : (s.classOf m).width = .w16) (block : Nat) (rest : List PointIx) :
    included s m block rest = includedAfter s m block 3 rest := by
  rw [includedAfter_eq]
  unfold included
  congr 1
  funext j
  cases hd : s.descOf j with
  | none => simp [fits, hd]
  | some d =>
    simp only [fits, hd, Option.any_some, inBlock]
    by_cases hm : d.modAddr = m
    · subst hm
      have hblock : (d.offset.toNat / 2 / 4 = block) = (wordNo d.offset / 4 = block) := rfl
      cases hw : d.width <;> simp [isReadable, hc, hw, addressable, isOdd_eq, hblock]
    · simp [hm]

theorem wordUsed_some {j : PointIx} {d : Descriptor} (h : s.descOf j = some d) : wordUsed s j = d.offset.toNat / 2 := by
  simp [wordUsed, h, wordNo]

theorem mem_neededWords {l : List PointIx} (hl : ∀ j ∈ l, ∃ d, s.descOf j = some d) (a : Nat) :
    a ∈ neededWords s l ↔ ∃ j ∈ l, ∃ d, s.descOf j = some d ∧ d.offset.toNat / 2 = a := by
  rw [neededWords, List.mem_dedup, List.mem_map]
  refine ⟨fun ⟨j, hj, ha⟩ => ?_, fun ⟨j, hj, d, hd, ha⟩ => ⟨j, hj, by rw [wordUsed_some s hd, ha]⟩⟩
  obtain ⟨d, hd⟩ := hl j hj
  exact ⟨j, hj, d, hd, by rw [← ha, wordUsed_some s hd]⟩

/-- Entries that share the lead's word need no second one. -/
theorem neededWords_one {e : PointIx} {l : List PointIx} {k : Nat} (h : ∀ j ∈ e :: l, wordUsed s j = k) :
    (neededWords s (e :: l)).length = 1 := by
  have hmap : (e :: l).map (wordUsed s) = List.replicate (e :: l).length k :=
    List.eq_replicate_iff.2 ⟨List.length_map _, fun a ha => by
      obtain ⟨j, hj, rfl⟩ := List.mem_map.1 ha
      exact h j hj⟩
  rw [neededWords, hmap, List.replicate_dedup (by simp)]
  rfl

/-- Two entries with different words need two words at least. -/
theorem neededWords_two {l : List PointIx} {i j : PointIx} (hi : i ∈ l) (hj : j ∈ l) (h : wordUsed s j ≠ wordUsed s i) :
    2 ≤ (neededWords s l).length := by
  have hsub : [wordUsed s i, wordUsed s j] ⊆ neededWords s l := by
    intro a ha
    rw [neededWords, List.mem_dedup]
    rcases List.mem_pair.1 ha with rfl | rfl
    · exact List.mem_map_of_mem hi
    · exact List.mem_map_of_mem hj
  exact (List.subperm_of_subset (by simpa using h.symm) hsub).length_le

/-- A class without line reads serves the lead entry alone (R51). -/
theorem composeScan_alone (e : PointIx) (d : Descriptor) (rest : List PointIx)
    (h : (s.classOf d.modAddr).width = .w8 ∨ (s.classOf d.modAddr).lineReads = false) :
    composeScan s e d rest = (composeRead s .scanner d.modAddr d.width d.offset, [e]) := by
  refine if_neg fun ⟨hc, hl⟩ => ?_
  rcases h with h | h
  · exact absurd (h.symm.trans hc) (by decide)
  · exact absurd (h.symm.trans hl) (by decide)

/-- Under a class with line reads the entries of R52 are served, by one read of the lead's word or by a line read. -/
theorem composeScan_grouped (e : PointIx) (d : Descriptor) (rest : List PointIx) (hc : (s.classOf d.modAddr).width = .w16)
    (hl : (s.classOf d.modAddr).lineReads = true) {served : List PointIx}
    (hs : served = e :: included s d.modAddr (d.offset.toNat / 2 / 4) rest) : composeScan s e d rest
      = (if 2 ≤ (neededWords s served).length then
          some (composed s .scanner .lineRead d.modAddr ((wrapOrder (d.offset.toNat / 2)).map fun a => ⟨a, none⟩)
            (neededWords s served))
        else composeRead s .scanner d.modAddr d.width d.offset, served) := by
  subst hs
  rw [← lineOrder_eq, included_eq s hc]
  unfold composeScan
  rw [if_pos ⟨hc, hl⟩]
  exact (apply_ite (fun x => (x, _)) _ _ _).symm

theorem served_descOf {e : PointIx} {d : Descriptor} {m : ModIx} {block : Nat} {rest : List PointIx} (hd : s.descOf e = some d) :
    ∀ j ∈ e :: included s m block rest, ∃ dj, s.descOf j = some dj := by
  intro j hj
  rcases List.mem_cons.1 hj with rfl | hj
  · exact ⟨d, hd⟩
  · exact isDue_descOf s (List.mem_filter.1 (List.mem_of_mem_take ((List.takeWhile_sublist _).subset hj))).2

/-! ## The rows of composition -/

/-- The rows of R64, R69 and R71 for the two class widths. -/
theorem registers_composed (who : Requester) (m : ModIx) (o : Byte) (v : Word16) :
    ((s.classOf m).width = .w8 →
      composeWrite s who m .byte o v = some (composed s who .singleWrite m [⟨o.toNat, some (v &&& 0xFF#16)⟩] [])
      ∧ composeRead s who m .byte o = some (composed s who .singleRead m [⟨o.toNat, none⟩] [o.toNat])
      ∧ (o.toNat = 255 → composeWrite s who m .word o v = none ∧ composeRead s who m .word o = none)
      ∧ (o.toNat ≠ 255 →
        composeWrite s who m .word o v = some (composed s who .doubleWrite m
          [⟨o.toNat, some (v &&& 0xFF#16)⟩, ⟨o.toNat + 1, some (v >>> 8)⟩] [])
        ∧ composeRead s who m .word o = some (composed s who .doubleRead m
          [⟨o.toNat, none⟩, ⟨o.toNat + 1, none⟩] [o.toNat, o.toNat + 1])))
    ∧ ((s.classOf m).width = .w16 →
      composeWrite s who m .byte o v = some (composed s who .singleWrite m
        [⟨o.toNat / 2, some (if o.toNat % 2 = 1 then v <<< 8 else v &&& 0xFF#16)⟩] [])
      ∧ composeRead s who m .byte o = some (composed s who .singleRead m [⟨o.toNat / 2, none⟩] [o.toNat / 2])
      ∧ (o.toNat % 2 = 1 → composeWrite s who m .word o v = none ∧ composeRead s who m .word o = none)
      ∧ (o.toNat % 2 = 0 →
        composeWrite s who m .word o v = some (composed s who .singleWrite m [⟨o.toNat / 2, some v⟩] [])
        ∧ composeRead s who m .word o = some (composed s who .singleRead m [⟨o.toNat / 2, none⟩] [o.toNat / 2]))) := by
  rw [← lowHalf_eq, ← highByte_setWidth, ← lowByte_append_zero]
  refine ⟨fun hc => ⟨composeWrite_some s v hc rfl, composeRead_some s hc rfl, fun ho => ?_, fun ho => ?_⟩,
    fun hc => ⟨?_, composeRead_some s hc rfl, fun ho => ?_, fun ho => ?_⟩⟩
  · have ha : addressable (s.classOf m).width .word o = false := by simp [hc, addressable, ho]
    exact ⟨composeWrite_none s v ha, composeRead_none s ha⟩
  · have ha : addressable .w8 .word o = true := by simp [addressable, ho]
    exact ⟨composeWrite_some s v hc ha, composeRead_some s hc ha⟩
  · rw [composeWrite_some s v hc rfl]
    simp only [writePlan, isOdd_iff]
    rfl
  · have ha : addressable (s.classOf m).width .word o = false := by simp [hc, addressable, isOdd, ho]
    exact ⟨composeWrite_none s v ha, composeRead_none s ha⟩
  · have ha : addressable .w16 .word o = true := by simp [addressable, isOdd, ho]
    exact ⟨composeWrite_some s v hc ha, composeRead_some s hc ha⟩

/-- The Scanner's read for a lead entry (R51, R52). -/
theorem scan_composed (e : PointIx) (d : Descriptor) (rest : List PointIx) (hd : s.descOf e = some d) :
    (((s.classOf d.modAddr).width = .w8 ∨ (s.classOf d.modAddr).lineReads = false) →
      composeScan s e d rest = (composeRead s .scanner d.modAddr d.width d.offset, [e]))
    ∧ ((s.classOf d.modAddr).width = .w16 → (s.classOf d.modAddr).lineReads = true →
      ∀ served, served = e :: included s d.modAddr (d.offset.toNat / 2 / 4) rest →
      (composeScan s e d rest).2 = served
      ∧ ((∀ j ∈ served, ∀ dj, s.descOf j = some dj → dj.offset.toNat / 2 = d.offset.toNat / 2) →
        (composeScan s e d rest).1 = composeRead s .scanner d.modAddr d.width d.offset)
      ∧ ((∃ j ∈ served, ∃ dj, s.descOf j = some dj ∧ dj.offset.toNat / 2 ≠ d.offset.toNat / 2) →
        ∃ needed, (composeScan s e d rest).1 = some (composed s .scanner .lineRead d.modAddr
            ((wrapOrder (d.offset.toNat / 2)).map fun a => ⟨a, none⟩) needed)
          ∧ needed.Nodup ∧ ∀ a, a ∈ needed ↔ ∃ j ∈ served, ∃ dj, s.descOf j = some dj ∧ dj.offset.toNat / 2 = a)) := by
  refine ⟨composeScan_alone s e d rest, fun hc hl served hs => ?_⟩
  have hdesc : ∀ j ∈ served, ∃ dj, s.descOf j = some dj := by
    subst hs
    exact served_descOf s hd
  rw [composeScan_grouped s e d rest hc hl hs]
  refine ⟨rfl, fun hall => if_neg ?_, fun ⟨j, hj, dj, hdj, hne⟩ => ?_⟩
  · have hone : (neededWords s served).length = 1 := by
      subst hs
      refine neededWords_one s (k := d.offset.toNat / 2) fun j hj => ?_
      obtain ⟨dj, hdj⟩ := hdesc j hj
      rw [wordUsed_some s hdj, hall j hj dj hdj]
    omega
  · have htwo : 2 ≤ (neededWords s served).length := by
      refine neededWords_two s (i := e) (by rw [hs]; exact List.mem_cons_self) hj ?_
      rw [wordUsed_some s hdj, wordUsed_some s hd]
      exact hne
    exact ⟨neededWords s served, if_pos htwo, List.nodup_dedup _, mem_neededWords s hdesc⟩

end Sys2Proof.Machine
end

section
/-! SUPPORT. Failed samples and failed writes: the records they leave, the one condition that each can start, and the response that
follows (R34, R51, R150, R156). -/

set_option Elab.async false

namespace Sys2Proof.Machine

variable (s : State)

/-! ## The start of a condition among the entries of others (R105, R111, R112) -/

theorem firstBy_mem {before : Notice → Notice → Bool} : ∀ {l : List Notice} {n : Notice}, firstBy before l = some n → n ∈ l
  | [], _, h => by cases h
  | m :: rest, n, h => by
    unfold firstBy at h
    split at h
    · cases h
      exact List.mem_cons_self
    · next k hk =>
      split at h <;> cases h
      · exact List.mem_cons_of_mem _ (firstBy_mem hk)
      · exact List.mem_cons_self

/-- The victim is a RETURNED entry (R111). -/
theorem victim_mem {entries : List Notice} {p : Nat} {v : Notice} (h : victim entries p = some v) :
    v ∈ entries ∧ v.state = .returned := by
  obtain ⟨hv, hs⟩ := List.mem_filter.1 (firstBy_mem h)
  exact ⟨hv, by simpa using (Bool.and_eq_true_iff.1 hs).1⟩

/-- An entry whose condition has no RETURNED entry keeps its place when another entry is made (R111). -/
theorem insertNotice_keeps (m : Notice) {n : Notice} (hn : n ∈ s.notices.entries)
    (hr : ∀ k ∈ s.notices.entries, k.id = n.id → k.state ≠ .returned) : n ∈ (insertNotice m s).notices.entries := by
  unfold insertNotice
  split
  · exact List.mem_append_left _ hn
  · split
    · exact hn
    · next v hv =>
      obtain ⟨hmem, hret⟩ := victim_mem hv
      exact List.mem_map.2 ⟨n, hn, if_neg fun he => hr v hmem he.symm hret⟩

/-- The start of another condition leaves such an entry as it is. -/
theorem report_start_keeps (d : Option Port) {id : NoticeId} {n : Notice} (hn : n ∈ s.notices.entries) (hid : n.id ≠ id)
    (hr : ∀ k ∈ s.notices.entries, k.id = n.id → k.state ≠ .returned) :
    n ∈ (report d id (.start none) s).notices.entries := by
  have hmap : ∀ f : Notice → Notice, n ∈ (updateNotice id f s).notices.entries := fun f =>
    List.mem_map.2 ⟨n, hn, if_neg hid⟩
  rw [report_notices]
  cases hf : findNotice s id with
  | none =>
    simp only [applyReport, hf, enterNotice]
    split
    · exact hn
    · exact insertNotice_keeps s _ hn hr
  | some m =>
    cases hs : m.state <;> simp only [applyReport, hf, hs]
    · exact hmap _
    · exact hmap _
    · unfold reraiseNotice
      split
      · exact List.mem_filter.2 ⟨hn, by simpa using hid⟩
      · exact hmap _

/-- While a place is free, the start of a condition sets no lost flag (R112). -/
theorem report_start_lost (d : Option Port) (id : NoticeId) (hl : s.notices.entries.length < 64) :
    (report d id (.start none) s).notices.lost = s.notices.lost := by
  rw [report_notices]
  cases hf : findNotice s id with
  | none =>
    simp only [applyReport, hf, enterNotice]
    split
    · rfl
    · rw [insertNotice, if_pos hl]
      rfl
  | some m =>
    cases hs : m.state <;> simp only [applyReport, hf, hs]
    · rfl
    · rfl
    · unfold reraiseNotice
      split <;> rfl

/-! ## A failed sample (R34) -/

theorem setPoint_self (i : PointIx) : s.setPoint i (s.point i) = s := by
  have h : s.points.set i.val (s.point i) i.isLt = s.points := Vector.set_getElem_self i.isLt
  rw [State.setPoint, h]

/-- Whether a failed sample of a record starts its FAILED condition (R34, R40). -/
def startsFailed (l : LiveRecord) : Bool := decide (l.quality ≠ .failed) && decide ((failedLive l).quality = .failed)

theorem failedLive_kept (l : LiveRecord) : (failedLive l).band = l.band ∧ (failedLive l).asserted = l.asserted := by
  rw [failedLive_eq]
  exact ⟨rfl, rfl⟩

/-- A FAILED record stays FAILED under a failed sample. -/
theorem failedLive_failed {l : LiveRecord} (h : l.quality = .failed) : (failedLive l).quality = .failed := by
  simp [failedLive_eq, h]

theorem startsFailed_of_noFailedStart {j : PointIx} (h : NoFailedStart j s) : startsFailed (s.point j).live = false := by
  rw [startsFailed, failedLive_eq]
  rcases h with h | h | h
  · simp [h]
  · simp [h]
  · have hn : ¬ 3 ≤ min 255 ((s.point j).live.failCount + 1) := by omega
    cases hq : (s.point j).live.quality <;> simp [hn]

/-- A failed sample writes its record, hands nothing off, and reports at most the start of FAILED (R34, R40, R41). -/
theorem takeSample_failed {j : PointIx} {e : Descriptor} (h : s.descOf j = some e) (d : Option Port) (why : FailReason) :
    takeSample d j (.failed why) s = if startsFailed (s.point j).live
      then report d (.point j .failed) (.start none) (s.setLive j (failedLive (s.point j).live))
      else s.setLive j (failedLive (s.point j).live) := by
  obtain ⟨hband, hassert⟩ := failedLive_kept (s.point j).live
  have hmark : marked j (.failed why) s = s := setPoint_self s j
  have hreport : reportFailed d j (s.point j).live.quality (failedLive (s.point j).live).quality
      (s.setLive j (failedLive (s.point j).live)) = if startsFailed (s.point j).live
        then report d (.point j .failed) (.start none) (s.setLive j (failedLive (s.point j).live))
        else s.setLive j (failedLive (s.point j).live) := by
    rw [reportFailed, if_neg fun ⟨hold, hnew⟩ => hnew (failedLive_failed hold)]
    simp [startsFailed]
  rw [takeSample_some s h, hmark]
  show commitLive d j (failedLive (s.point j).live) s = _
  rw [commitLive_quiet s d j _ hband.symm (by rw [hassert]; exact id), reportLive, hreport, reportBand, if_pos hband.symm,
    reportAsserted, if_pos hassert.symm]

section failed
variable (d : Option Port) (j : PointIx) (why : FailReason)

/-- What a failed sample leaves: the record, and what Notice Delivery does. -/
structure SampleFailed (j : PointIx) (d : Option Port) (s t : State) : Prop where
  frame : ChangesOnly [.points, .notices, .ports, .routes] s t
  delivers : Delivers d s t
  point : ∀ i, t.point i = if i = j ∧ (s.descOf j).isSome = true
    then { s.point i with live := failedLive (s.point i).live } else s.point i

theorem takeSample_sampleFailed : SampleFailed j d s (takeSample d j (.failed why) s) := by
  cases hd : s.descOf j with
  | none =>
    rw [takeSample_none s hd]
    exact ⟨.refl _ s, .refl s d, fun i => by simp [hd]⟩
  | some e =>
    have hlive := setLive_frame s j (failedLive (s.point j).live)
    have hpoint : ∀ i, (s.setLive j (failedLive (s.point j).live)).point i = if i = j ∧ (s.descOf j).isSome = true
        then { s.point i with live := failedLive (s.point i).live } else s.point i := fun i => by
      rw [setLive_point]
      by_cases hi : i = j
      · subst hi
        simp [hd]
      · simp [hi]
    rw [takeSample_failed s hd]
    split
    · have hreport := report_frame (s.setLive j (failedLive (s.point j).live)) d (.point j .failed) (.start none)
      exact ⟨hlive.comp hreport, (Delivers.of_frame hlive).trans (report_delivers _ d _ _),
        fun i => (hreport.point i).trans (hpoint i)⟩
    · exact ⟨hlive.mono, .of_frame hlive, hpoint⟩

/-- A failed sample that starts no FAILED condition reports nothing. -/
theorem takeSample_failed_quiet (h : NoFailedStart j s) : (takeSample d j (.failed why) s).notices = s.notices := by
  cases hd : s.descOf j with
  | none => rw [takeSample_none s hd]
  | some e =>
    rw [takeSample_failed s hd, startsFailed_of_noFailedStart s h]
    rfl

theorem takeSample_failed_lost (hl : s.notices.entries.length < 64) :
    (takeSample d j (.failed why) s).notices.lost = s.notices.lost := by
  cases hd : s.descOf j with
  | none => rw [takeSample_none s hd]
  | some e =>
    rw [takeSample_failed s hd]
    split
    · exact report_start_lost (s.setLive j _) d _ hl
    · rfl

/-- An entry of an actuator that is not RETURNED stays as it is. -/
theorem takeSample_failed_keeps {n : Notice} {a : ActIx} (hn : n ∈ s.notices.entries) (hid : n.id = .actuator a)
    (hr : ∀ k ∈ s.notices.entries, k.id = n.id → k.state ≠ .returned) :
    n ∈ (takeSample d j (.failed why) s).notices.entries := by
  cases hd : s.descOf j with
  | none =>
    rw [takeSample_none s hd]
    exact hn
  | some e =>
    rw [takeSample_failed s hd]
    split
    · exact report_start_keeps (s.setLive j _) d hn (by rw [hid]; exact nofun) hr
    · exact hn

end failed

/-! ## The samples of unreadable entries (R51) -/

/-- The due entries with unreadable addresses take failed samples (R51). -/
def samplesFailed (l : List PointIx) (s : State) : State := l.foldl (fun s i => takeSample none i (.failed .address) s) s

theorem samplesFailed_frame (l : List PointIx) : ChangesOnly [.points, .notices, .ports, .routes] s (samplesFailed l s) :=
  ChangesOnly.foldl (fun s i => (takeSample_sampleFailed s none i .address).frame) l s

theorem samplesFailed_state (l : List PointIx) (s : State) (i : PointIx) :
    ((samplesFailed l s).point i).state = (s.point i).state := by
  induction l generalizing s with
  | nil => rfl
  | cons j l ih => exact (ih (takeSample none j (.failed .address) s)).trans (takeSample_state s none j i _)

/-- Each point of the list fails once, and no other point changes. -/
theorem samplesFailed_point {l : List PointIx} (hn : l.Nodup) (s : State) (i : PointIx) : (samplesFailed l s).point i
    = if i ∈ l ∧ (s.descOf i).isSome = true then { s.point i with live := failedLive (s.point i).live } else s.point i := by
  induction l generalizing s with
  | nil => simp [samplesFailed]
  | cons j l ih =>
    obtain ⟨hj, hl⟩ := List.nodup_cons.1 hn
    have hpoint := (takeSample_sampleFailed s none j .address).point i
    have hrest : (samplesFailed (j :: l) s).point i = (samplesFailed l (takeSample none j (.failed .address) s)).point i := rfl
    rw [hrest, ih hl]
    by_cases hi : i = j
    · subst hi
      simp only [hj, false_and, if_false, hpoint, true_and, List.mem_cons, true_or]
    · have hdesc : (takeSample none j (.failed .address) s).descOf i = s.descOf i :=
        descOf_congr (takeSample_state s none j i (.failed .address))
      simp only [hi, false_and, if_false] at hpoint
      simp only [hdesc, hpoint, List.mem_cons, hi, false_or]

/-- The due entries of a list with no readable one are those that take failed samples. -/
theorem samplesFailed_addresses {l : List PointIx} (hn : l.Nodup) :
    AddressesFailed l s (samplesFailed (l.filter (isDue s)) s) := by
  refine ⟨fun i hi hdue d hd => ?_, fun i hi => ?_⟩
  · rw [samplesFailed_point (hn.filter _), if_pos ⟨List.mem_filter.2 ⟨hi, hdue⟩, by simp [hd]⟩]
    rfl
  · rw [samplesFailed_point (hn.filter _), if_neg]
    rintro ⟨hm, -⟩
    obtain ⟨hmem, hdue⟩ := List.mem_filter.1 hm
    rcases hi with hi | hi
    · exact hi hmem
    · simp [hdue] at hi

theorem AddressesFailed.congr {l : List PointIx} {s t t' : State} (h : AddressesFailed l s t)
    (ht : ∀ i, t'.point i = t.point i) : AddressesFailed l s t' :=
  ⟨fun i hi hdue d hd => (ht i).trans (h.1 i hi hdue d hd), fun i hi => (ht i).trans (h.2 i hi)⟩

/-! ## A failed write (R156) -/

/-- An actuator entry after a failed write. -/
def failedEntry (e : ActuatorEntry) : ActuatorEntry :=
  { e with faultCount := min 2 (e.faultCount + 1), fault := e.fault || decide (min 2 (e.faultCount + 1) = 2) }

theorem failedEntry_fault (e : ActuatorEntry) : (failedEntry e).fault = (e.fault || decide (1 ≤ e.faultCount)) := by
  have h : (min 2 (e.faultCount + 1) = 2) = (1 ≤ e.faultCount) := propext (by omega)
  simp only [failedEntry, h]

/-- The entry of a failed write in any flight is the one that R156 counts. -/
theorem failedEntry_counted (e : ActuatorEntry) (v : Word16) (f : InFlight) (why : FailReason) :
    WriteCounted e v (some why) { failedEntry e with inFlight := f } :=
  ⟨rfl, rfl, rfl, rfl, nofun, fun _ => ⟨rfl, rfl, failedEntry_fault e, rfl⟩⟩

section write
variable (d : Option Port) (i : ActIx)

/-- A failed write is counted, and the second starts the FAULT condition (R156). -/
theorem writeFailed_eq : writeFailed d i s = if (failedEntry (s.actuator i)).fault && !(s.actuator i).fault
    then report d (.actuator i) (.start none) (s.setActuator i (failedEntry (s.actuator i)))
    else s.setActuator i (failedEntry (s.actuator i)) := rfl

theorem writeFailed_acts : (writeFailed d i s).acts = (s.setActuator i (failedEntry (s.actuator i))).acts := by
  rw [writeFailed_eq]
  split
  · exact (report_frame _ d _ _).acts
  · rfl

theorem writeFailed_actuator (a : ActIx) :
    (writeFailed d i s).actuator a = if a = i then failedEntry (s.actuator i) else s.actuator a := by
  rw [← setActuator_actuator]
  exact congrArg (fun x => x.entries.get a) (writeFailed_acts s d i)

theorem writeFailed_delivers : Delivers d s (writeFailed d i s) := by
  have hset : Delivers d s (s.setActuator i (failedEntry (s.actuator i))) := .of_frame (setActuator_frame s i _)
  rw [writeFailed_eq]
  split
  · exact hset.trans (report_delivers _ d _ _)
  · exact hset

/-- A failed write that leaves FAULT as it was reports nothing. -/
theorem writeFailed_quiet (h : (s.actuator i).fault = (failedEntry (s.actuator i)).fault) :
    (writeFailed d i s).notices = s.notices := by
  rw [writeFailed_eq, ← h, if_neg (by simp)]
  rfl

/-- The FAULT condition that a failed write starts where a place is free (R105, R116, R156). -/
theorem writeFailed_enters (h0 : (s.actuator i).fault = false) (h1 : (failedEntry (s.actuator i)).fault = true)
    (hn : ∀ n ∈ s.notices.entries, n.id ≠ .actuator i) (hl : s.notices.entries.length < 64) {a : ActDescriptor}
    (ha : (s.actuator i).desc = some a) (hp : a.faultPriority ≠ 0) : ∃ n, n.id = .actuator i ∧ n.state = .raised
      ∧ n.priority = a.faultPriority ∧ n.stamp = s.uptime
      ∧ (writeFailed d i s).notices.entries = s.notices.entries ++ [n] := by
  have hpri : priorityOf (s.setActuator i (failedEntry (s.actuator i))) (.actuator i) none = a.faultPriority := by
    simp [priorityOf, failedEntry, ha]
  rw [writeFailed_eq, if_pos (by simp [h0, h1]), report_start_enters (s.setActuator i _) d hn hl (by rw [hpri]; exact hp)]
  exact ⟨newNotice (s.setActuator i (failedEntry (s.actuator i))) (.actuator i) none, rfl, rfl, hpri, rfl, rfl⟩

end write

/-- What AddressCounted asks of a state in which the entry has failed and the new FAULT entry stands. -/
theorem addressCounted_of {d : Option Port} {i : ActIx} {v : Word16} {f : InFlight} {s t : State}
    (ha : ∀ j, t.actuator j = if j = i then { failedEntry (s.actuator i) with inFlight := f } else s.actuator j)
    (hn : ∀ n, (∀ k ∈ s.notices.entries, k.id ≠ .actuator i) → n.id = .actuator i → n.state = .raised →
      (writeFailed d i s).notices.entries = s.notices.entries ++ [n] → n ∈ t.notices.entries) :
    AddressCounted i v s t := by
  have hi : t.actuator i = { failedEntry (s.actuator i) with inFlight := f } := by rw [ha, if_pos rfl]
  refine ⟨by rw [hi]; exact failedEntry_counted _ v f .address, fun j hj => by rw [ha, if_neg hj],
    fun h0 h1 hfree hl a hdesc hp => ?_⟩
  rw [hi] at h1
  obtain ⟨n, hid, hstate, hpri, hstamp, hent⟩ := writeFailed_enters s d i h0 h1 hfree hl hdesc hp
  exact ⟨n, hn n hfree hid hstate hent, hid, hstate, hpri, hstamp⟩

/-! ## The response of a failed item (R124, R148, R174) -/

/-- A refusal that finds room answers the request that the executor holds, of whatever kind it is. -/
theorem respond_refuses {p : Port} {req : Request} (he : (s.port p).executor = .serving req)
    (hr : (s.port p).output.length < Config.outputPlaces) {r : Reply} (hk : r.result ≠ .ok) :
    HeldAnswered p req r.result r.body (respond p r s) := by
  have hport : (respond p r s).port p = { s.port p with
      executor := .idle
      output := (s.port p).output ++ [replyFrame req r (s.port p).summary] } := by
    rw [respond_room r he hr]
    simp only [State.port, placeReply_ports, PerPort.get_set, if_true]
  unfold HeldAnswered
  rw [hport]
  exact ⟨by rw [getLast_push, replyFrame, markOf_response (.inr hk)], rfl⟩

/-- A refusal changes ports and routes alone. -/
theorem respond_refusal_frame (p : Port) {r : Reply} (hr : r.result ≠ .ok) : ChangesOnly [.ports, .routes] s (respond p r s) :=
  (respond_frame s p r).without (b := .restart) (respond_restart s p hr)

theorem respondItem_refusal_frame (x : RunningItem) {r : Reply} (hr : r.result ≠ .ok) :
    ChangesOnly [.ports, .routes] s (respondItem x r s) := by
  unfold respondItem
  split
  · split
    · exact .refl _ s
    · exact respond_refusal_frame s _ hr
  · exact .refl _ s

/-- A response that finds room defers its port's ATTENTION (R124). -/
theorem itemDeferral_some {x : RunningItem} {p : Port} (ha : x.answer = true) (hp : x.item.port = some p)
    (hr : (s.port p).output.length < Config.outputPlaces) : itemDeferral s x = some p := by
  simp only [itemDeferral, ha, if_true, hp, Option.bind_some]
  exact deferral_room hr

end Sys2Proof.Machine
end

section
/-! SUPPORT. What a free grant does for the requester that is chosen (R86, R87, R153). -/

set_option Elab.async false

namespace Sys2Proof.Machine

variable (s : State)

/-! ## The choice (R85, R86) -/

theorem takeExpiries_none (h : ∀ i, expiryDue s i = false) : takeExpiries s = s := by
  have hfold : ∀ l : List ActIx, l.foldl (fun s i => takeExpiry i s) s = s := by
    intro l
    induction l with
    | nil => rfl
    | cons i l ih => rw [List.foldl_cons, takeExpiry_none s (h i), ih]
  exact hfold actIndices

theorem chosen_unit (h : UnitNext s) : chosen s.arb = some .actuatorUnit := by
  obtain ⟨hs, hu⟩ := h
  rw [chosen, if_neg, if_pos hu]
  exact fun ⟨hw, hc⟩ => absurd (hs hw) (Nat.not_lt.2 hc)

theorem chosen_scanner (h : ScannerNext s) : chosen s.arb = some .scanner := by
  obtain ⟨hw, hc⟩ := h
  unfold chosen
  split
  · rfl
  · next hg =>
    obtain ⟨hu, hd⟩ := hc.resolve_left fun h4 => hg ⟨hw, h4⟩
    simp [hu, hd]

theorem chosen_direct {p : Port} (hs : s.arb.waiting.scanner = true → s.arb.scannerWait < 4)
    (hu : s.arb.waiting.actuatorUnit = false) (hp : s.arb.rotation.find? s.arb.waiting.direct.get = some p) :
    chosen s.arb = some (.direct p) := by
  rw [chosen, if_neg fun ⟨hw, hc⟩ => absurd (hs hw) (Nat.not_lt.2 hc)]
  simp [hu, hp]

theorem anyWaiting_of_chosen {a : Arbiter} {who : Requester} (h : chosen a = some who) : anyWaiting a.waiting = true := by
  unfold chosen at h
  split at h
  · next hs => simp [anyWaiting, hs.1]
  · split at h
    · next hu => simp [anyWaiting, hu]
    · split at h
      · next p hp =>
        have hget := List.find?_some hp
        cases p <;> simp_all [anyWaiting, PerPort.get]
      · split at h
        · next hs => simp [anyWaiting, hs]
        · cases h

/-- The state in which the requester composes its transaction: the arbiter has granted (R86, R87). -/
def grantedTo (who : Requester) (s : State) : State := s.setArb (granted s.arb who)

theorem grantedTo_frame (who : Requester) : ChangesOnly [.arb] s (grantedTo who s) := setArb_frame s _

/-- A free grant with no expiry to take goes to the requester that is chosen. -/
theorem exec_freeGrant {who : Requester} (hg : Grantable s) (hc : chosen s.arb = some who) :
    exec .freeGrant s = .next (decideHreq (composeFor who (grantedTo who s))) := by
  obtain ⟨hp, ht, hb, hl, hh, hr, hx⟩ := hg
  have hrun : restartRunning s = false := by
    unfold restartRunning
    split
    · next p he => exact absurd he (hr p)
    · rfl
  have hready : grantReady s = true := by
    simp [grantReady, anyWaiting_of_chosen hc, ht, hb, hl, hh, hrun]
  have hfree : freeGrant s = composeFor who (grantedTo who s) := by
    unfold freeGrant grantedTo
    rw [takeExpiries_none s hx]
    simp only [hc]
  rw [← hfree]
  exact event_next hp hready

/-! ## The first item (R153) -/

theorem firstItem_isSome {u : ActuatorUnit} (h : u.workList ≠ []) : ∃ w, firstItem u = some w := by
  unfold firstItem
  split
  · exact ⟨_, rfl⟩
  · split
    · exact ⟨_, rfl⟩
    · exact ⟨_, List.head?_eq_some_head h⟩

theorem firstItem_nil {u : ActuatorUnit} (h : u.workList = []) : firstItem u = none := by
  simp [firstItem, h, firstQueued]

/-- One item alone is first in the order of R153. -/
theorem FirstItem.unique {u : ActuatorUnit} {w w' : WorkItem} (h : FirstItem u w) (k : FirstItem u w') : w = w' := by
  have asymm : ∀ {i j : ActIx},
      (j = i ∨ u.moments.queuedAt.get i < u.moments.queuedAt.get j
        ∨ u.moments.queuedAt.get i = u.moments.queuedAt.get j ∧ i < j) →
      (i = j ∨ u.moments.queuedAt.get j < u.moments.queuedAt.get i
        ∨ u.moments.queuedAt.get j = u.moments.queuedAt.get i ∧ j < i) → i = j := by
    intro i j hij hji
    simp only [Fin.lt_def, Fin.ext_iff] at hij hji ⊢
    omega
  obtain ⟨hm, hw⟩ := h
  obtain ⟨km, kw⟩ := k
  cases w with
  | policy i =>
    cases w' with
    | policy j => rw [asymm (hw j km) (kw i hm)]
    | refresh j => exact absurd hm (kw.1 i)
    | command p j v => exact absurd hm (kw.1 i).1
    | exchange p j v => exact absurd hm (kw.1 i).1
  | refresh i =>
    cases w' with
    | policy j => exact absurd km (hw.1 j)
    | refresh j => rw [asymm (hw.2 j km) (kw.2 i hm)]
    | command p j v => exact absurd hm (kw.1 i).2
    | exchange p j v => exact absurd hm (kw.1 i).2
  | command p i v =>
    cases w' with
    | policy j => exact absurd km (hw.1 j).1
    | refresh j => exact absurd km (hw.1 j).2
    | command q j x => exact Option.some.inj (hw.2.symm.trans kw.2)
    | exchange q j x => exact Option.some.inj (hw.2.symm.trans kw.2)
  | exchange p i v =>
    cases w' with
    | policy j => exact absurd km (hw.1 j).1
    | refresh j => exact absurd km (hw.1 j).2
    | command q j x => exact Option.some.inj (hw.2.symm.trans kw.2)
    | exchange q j x => exact Option.some.inj (hw.2.symm.trans kw.2)

theorem firstItem_of_first {u : ActuatorUnit} {w : WorkItem} (h : FirstItem u w) : firstItem u = some w := by
  obtain ⟨w', hw'⟩ := firstItem_isSome (List.ne_nil_of_mem h.1)
  rw [hw', (firstItem_some hw').unique h]

/-! ## The unit's grant (R150, R152, R153) -/

/-- The state in which the first item is run: it has left the work list. -/
def itemTaken (w : WorkItem) (s : State) : State :=
  (grantedTo .actuatorUnit s).setWorkList (s.acts.workList.erase w)

theorem itemTaken_frame (w : WorkItem) : ChangesOnly [.arb, .acts] s (itemTaken w s) :=
  (grantedTo_frame s .actuatorUnit).comp (setWorkList_frame _ _)

/-- The item as it runs, its response wanted. -/
def runningItem (w : WorkItem) (v : Word16) : RunningItem := ⟨w, v, true, none⟩

section item
variable {s} {w : WorkItem} {d : ActDescriptor} {v : Word16}

theorem grantActuator_item (hf : FirstItem s.acts w) (hd : (s.actuator w.target).desc = some d) :
    composeFor .actuatorUnit (grantedTo .actuatorUnit s) = runItem w d (itemTaken w s) := by
  have hfirst : firstItem (grantedTo .actuatorUnit s).acts = some w := firstItem_of_first hf
  have hdesc : ((grantedTo .actuatorUnit s).actuator w.target).desc = some d := hd
  simp only [composeFor, grantActuator, hfirst, hdesc]
  rfl

theorem runItem_begins {x : Transaction} (hv : w.value d (s.actuator w.target) = v)
    (hx : composeWrite s .actuatorUnit d.modAddr d.width d.offset v = some x) :
    runItem w d (itemTaken w s) = beginWrite (runningItem w v) x (itemTaken w s) := by
  have hval : w.value d ((itemTaken w s).actuator w.target) = v := hv
  have hcomp : composeWrite (itemTaken w s) .actuatorUnit d.modAddr d.width d.offset v = some x := hx
  simp only [runItem, hval, hcomp, runningItem]

theorem runItem_fails (hv : w.value d (s.actuator w.target) = v)
    (hx : composeWrite s .actuatorUnit d.modAddr d.width d.offset v = none) : runItem w d (itemTaken w s)
      = if isExchange w then failExchangeWrite (runningItem w v) (itemTaken w s)
        else failWrite (runningItem w v) (itemTaken w s) := by
  have hval : w.value d ((itemTaken w s).actuator w.target) = v := hv
  have hcomp : composeWrite (itemTaken w s) .actuatorUnit d.modAddr d.width d.offset v = none := hx
  simp only [runItem, hval, hcomp, runningItem]

end item

theorem requestActuator_arb (ht : s.arb.tenure ≠ some .actuatorUnit) (hw : s.arb.waiting.actuatorUnit = false) :
    (requestActuator s).arb
      = { s.arb with waiting := { s.arb.waiting with actuatorUnit := decide (s.acts.workList ≠ []) } } := by
  unfold requestActuator
  split
  · next h => simp [h.1]
  · next h =>
    have hnil : s.acts.workList = [] := by
      by_contra hn
      exact h ⟨hn, ht⟩
    rw [hnil, decide_eq_false (by simp), ← hw]

end Sys2Proof.Machine
end

section
/-! SUPPORT. The Actuator Unit's grant: an item that begins, one that fails, and an exchange whose write cannot be composed (R150,
R152, R153, R156). -/

set_option Elab.async false

namespace Sys2Proof.Machine

variable (s : State)

/-! ## An empty list, and an item that begins (R150, R153) -/

/-- A grant that ends with nothing run gives its tenure back (R87). -/
theorem dropGrant_grantedTo_arb (h : s.arb.tenure = none) (who : Requester) :
    (dropGrant (grantedTo who s)).arb = { granted s.arb who with tenure := s.arb.tenure } := by
  rw [h]
  rfl

theorem unitGrant_empty (hg : Grantable s) (hu : UnitNext s) (hw : s.acts.workList = []) :
    ∃ t, exec .freeGrant s = .next t ∧ ChangesOnly [.arb, .hreq] s t
      ∧ t.arb = { s.arb with
        waiting := { s.arb.waiting with actuatorUnit := false }
        scannerWait := countedWait s } := by
  have hfirst : firstItem (grantedTo .actuatorUnit s).acts = none := firstItem_nil hw
  have hcomp : composeFor .actuatorUnit (grantedTo .actuatorUnit s) = dropGrant (grantedTo .actuatorUnit s) := by
    simp only [composeFor, grantActuator, hfirst]
  obtain ⟨-, ht, -⟩ := id hg
  refine ⟨_, exec_freeGrant s hg (chosen_unit s hu), ?_⟩
  rw [hcomp]
  have hhreq := decideHreq_frame (dropGrant (grantedTo .actuatorUnit s))
  refine ⟨((grantedTo_frame s _).comp (dropGrant_frame _) (n := [.arb])).comp hhreq, ?_⟩
  rw [hhreq.arb, dropGrant_grantedTo_arb s ht]
  rfl

section begins
variable (y : RunningItem) (x : Transaction)

theorem beginWrite_bus : (beginWrite y x s).bus
    = { s.bus with busState := .active, inFlight := some { x with exchangeWrite := isExchange y.item } } := by
  unfold beginWrite
  split <;> rfl

theorem beginWrite_arb : (beginWrite y x s).arb
    = { s.arb with locked := if isExchange y.item then .first else s.arb.locked } := by
  unfold beginWrite
  split <;> rfl

theorem beginWrite_acts : (beginWrite y x s).acts
    = ((setInFlight y.item.target (if isExchange y.item then .exchange else .write) s).setRunning (some y)).acts := by
  unfold beginWrite
  split <;> rfl

theorem beginWrite_parts : ChangesOnly [.bus, .arb, .acts] s (beginWrite y x s) := by
  unfold beginWrite
  refine ChangesOnly.comp (l := [.arb, .acts]) (m := [.bus]) ?_ (beginTransaction_frame _ _)
  split
  · exact ((setInFlight_frame s _ _).comp (setRunning_frame _ _) (n := [.arb, .acts])).comp (setArb_frame _ _)
  · exact (setInFlight_frame s _ _).comp (setRunning_frame _ _)

theorem beginWrite_actuator (i : ActIx) : (beginWrite y x s).actuator i = if i = y.item.target
    then { s.actuator i with inFlight := if isExchange y.item then .exchange else .write } else s.actuator i := by
  refine (congrArg (fun a => a.entries.get i) (beginWrite_acts s y x)).trans ?_
  show ((setInFlight y.item.target _ s).setRunning (some y)).actuator i = _
  rw [setRunning_actuator, setInFlight, setActuator_actuator]
  by_cases hi : i = y.item.target
  · rw [if_pos hi, if_pos hi, hi]
  · rw [if_neg hi, if_neg hi]

end begins

theorem unitGrant_begins (hg : Grantable s) (hu : UnitNext s) {w : WorkItem} {d : ActDescriptor} {v : Word16}
    (hf : FirstItem s.acts w) (hd : (s.actuator w.target).desc = some d) (hv : w.value d (s.actuator w.target) = v)
    {x : Transaction} (hx : composeWrite s .actuatorUnit d.modAddr d.width d.offset v = some x) :
    ∃ t, exec .freeGrant s = .next t ∧ ChangesOnly [.bus, .arb, .acts, .hreq] s t
      ∧ t.bus = { s.bus with busState := .active, inFlight := some { x with exchangeWrite := isExchange w } }
      ∧ t.arb = { s.arb with
        waiting := { s.arb.waiting with actuatorUnit := false }
        tenure := some .actuatorUnit
        scannerWait := countedWait s
        locked := if isExchange w then .first else .closed }
      ∧ t.acts.workList = s.acts.workList.erase w
      ∧ t.acts.running = some ⟨w, v, true, none⟩
      ∧ t.actuator w.target = { s.actuator w.target with inFlight := if isExchange w then .exchange else .write }
      ∧ ∀ i, i ≠ w.target → t.actuator i = s.actuator i := by
  have hexec := exec_freeGrant s hg (chosen_unit s hu)
  rw [grantActuator_item hf hd, runItem_begins hv hx] at hexec
  obtain ⟨-, -, -, hlocked, -⟩ := hg
  have hhreq := decideHreq_frame (beginWrite (runningItem w v) x (itemTaken w s))
  have hacts := beginWrite_acts (itemTaken w s) (runningItem w v) x
  have hact := beginWrite_actuator (itemTaken w s) (runningItem w v) x
  refine ⟨_, hexec, ((itemTaken_frame s w).comp (beginWrite_parts _ _ x) (n := [.bus, .arb, .acts])).comp hhreq, ?_, ?_, ?_, ?_,
    ?_, fun i hi => ?_⟩
  · rw [hhreq.bus, beginWrite_bus]
    rfl
  · rw [hhreq.arb, beginWrite_arb, ← hlocked]
    rfl
  · rw [hhreq.acts, hacts]
    rfl
  · rw [hhreq.acts, hacts]
    rfl
  · rw [hhreq.actuator, hact]
    exact if_pos rfl
  · rw [hhreq.actuator, hact]
    exact if_neg hi

/-! ## The answer to a failed item (R124, R148, R174) -/

/-- An item's response, and the unit's request for what still waits. -/
def itemAnswered (x : RunningItem) (reply : Reply) (s : State) : State := decideHreq (requestActuator (respondItem x reply s))

section answered
variable (x : RunningItem) {reply : Reply} (hr : reply.result ≠ .ok)
include hr

theorem itemAnswered_frame : ChangesOnly [.ports, .routes, .arb, .hreq] s (itemAnswered x reply s) :=
  ((respondItem_refusal_frame s x hr).comp (requestActuator_frame _) (n := [.ports, .routes, .arb])).comp (decideHreq_frame _)

theorem itemAnswered_arb (ht : s.arb.tenure ≠ some .actuatorUnit) (hw : s.arb.waiting.actuatorUnit = false) :
    (itemAnswered x reply s).arb
      = { s.arb with waiting := { s.arb.waiting with actuatorUnit := decide (s.acts.workList ≠ []) } } := by
  have hresp := respondItem_refusal_frame s x hr
  rw [itemAnswered, (decideHreq_frame _).arb, requestActuator_arb _ (by rw [hresp.arb]; exact ht) (by rw [hresp.arb]; exact hw),
    hresp.arb, hresp.acts]

/-- The executor that holds on the item is answered where its response finds room. -/
theorem itemAnswered_answers {p : Port} {req : Request} (ha : x.answer = true) (hp : x.item.port = some p)
    (he : (s.port p).executor = .serving req) (ho : (s.port p).output.length < Config.outputPlaces) :
    HeldAnswered p req reply.result reply.body (itemAnswered x reply s) := by
  have hans := respond_refuses s he ho hr
  rw [← respondItem_some s ha hp] at hans
  exact hans.of_frame ((requestActuator_frame _).comp (decideHreq_frame _) (n := [.arb, .hreq]))

end answered

/-! ## An item that fails (R150, R156) -/

/-- The state in which a failed item is answered: its grant has ended, and the failure is counted. -/
def itemRefused (w : WorkItem) (v : Word16) (s : State) : State :=
  writeFailed (itemDeferral (dropGrant (itemTaken w s)) (runningItem w v)) w.target (dropGrant (itemTaken w s))

theorem failWrite_eq (w : WorkItem) (v : Word16) : decideHreq (failWrite (runningItem w v) (itemTaken w s))
    = itemAnswered (runningItem w v) ⟨.outOfRange, commandPart w.target ((itemRefused w v s).actuator w.target) v 0⟩
      (itemRefused w v s) := rfl

section refused
variable (w : WorkItem) (v : Word16)

theorem itemRefused_frame : ChangesOnly [.arb, .acts, .notices, .ports, .routes] s (itemRefused w v s) :=
  ((itemTaken_frame s w).comp (dropGrant_frame _) (n := [.arb, .acts])).comp (writeFailed_frame _ _ _)

theorem itemRefused_arb (h : s.arb.tenure = none) : (itemRefused w v s).arb = { s.arb with
    waiting := { s.arb.waiting with actuatorUnit := false }
    scannerWait := countedWait s } :=
  (writeFailed_frame _ _ _).arb.trans (dropGrant_grantedTo_arb s h .actuatorUnit)

theorem itemRefused_work : (itemRefused w v s).acts.workList = s.acts.workList.erase w
    ∧ (itemRefused w v s).acts.running = s.acts.running := by
  rw [itemRefused, writeFailed_acts]
  exact ⟨rfl, rfl⟩

theorem itemRefused_actuator (a : ActIx) :
    (itemRefused w v s).actuator a = if a = w.target then failedEntry (s.actuator w.target) else s.actuator a :=
  writeFailed_actuator _ _ _ a

theorem itemRefused_counted {t : State} (ha : ∀ a, t.actuator a = (itemRefused w v s).actuator a)
    (hn : t.notices = (itemRefused w v s).notices) : AddressCounted w.target v s t := by
  have hcount : AddressCounted w.target v (dropGrant (itemTaken w s)) t :=
    addressCounted_of (f := (s.actuator w.target).inFlight) (fun a => (ha a).trans (itemRefused_actuator s w v a))
      fun n _ _ _ he => by
        rw [hn, itemRefused, he]
        exact List.mem_append_right _ List.mem_cons_self
  exact hcount

theorem itemRefused_quiet (h : (s.actuator w.target).fault = (failedEntry (s.actuator w.target)).fault) :
    (itemRefused w v s).notices = s.notices :=
  writeFailed_quiet (dropGrant (itemTaken w s)) _ w.target h

/-- The executor that holds on the item keeps its request and its place (R124). -/
theorem itemRefused_keeps {p : Port} (hp : w.port = some p) (ho : (s.port p).output.length < Config.outputPlaces) :
    KeepsRequest p s (itemRefused w v s) := by
  have hdel := writeFailed_delivers (dropGrant (itemTaken w s))
    (itemDeferral (dropGrant (itemTaken w s)) (runningItem w v)) w.target
  rw [itemDeferral_some (dropGrant (itemTaken w s)) (x := runningItem w v) rfl hp ho] at hdel
  rw [itemRefused, itemDeferral_some (dropGrant (itemTaken w s)) (x := runningItem w v) rfl hp ho]
  exact (KeepsRequest.of_frame ((itemTaken_frame s w).comp (dropGrant_frame _) (n := [.arb, .acts]))).trans hdel.keepsRequest

end refused

theorem unitGrant_fails (hg : Grantable s) (hu : UnitNext s) {w : WorkItem} {d : ActDescriptor} {v : Word16}
    (hf : FirstItem s.acts w) (hd : (s.actuator w.target).desc = some d) (hv : w.value d (s.actuator w.target) = v)
    (hx : composeWrite s .actuatorUnit d.modAddr d.width d.offset v = none) (he : isExchange w = false) :
    ∃ t, exec .freeGrant s = .next t ∧ ChangesOnly [.arb, .acts, .notices, .ports, .routes, .hreq] s t
      ∧ t.arb = { s.arb with
        waiting := { s.arb.waiting with actuatorUnit := decide (s.acts.workList.erase w ≠ []) }
        scannerWait := countedWait s }
      ∧ t.acts.workList = s.acts.workList.erase w ∧ t.acts.running = s.acts.running
      ∧ AddressCounted w.target v s t ∧ (t.actuator w.target).inFlight = (s.actuator w.target).inFlight
      ∧ ((s.actuator w.target).fault = (t.actuator w.target).fault → t.notices = s.notices)
      ∧ (∀ p req, w.port = some p → (s.port p).executor = .serving req → (s.port p).output.length < 8 →
        HeldAnswered p req .outOfRange (claimPart w.target (t.actuator w.target) ++ send16 v
          ++ [0, actFlags (t.actuator w.target)] ++ sendOpt send16 [0, 0] (t.actuator w.target).output
          ++ [natByte (t.actuator w.target).faultCount]) t) := by
  have hexec := exec_freeGrant s hg (chosen_unit s hu)
  rw [grantActuator_item hf hd, runItem_fails hv hx, he, if_neg (by decide), failWrite_eq] at hexec
  obtain ⟨-, htenure, -⟩ := hg
  have harb := itemRefused_arb s w v htenure
  obtain ⟨hwork, hrunning⟩ := itemRefused_work s w v
  have hrefusal : ∀ body, (⟨.outOfRange, body⟩ : Reply).result ≠ .ok := fun _ => nofun
  have hlast := itemAnswered_frame (itemRefused w v s) (runningItem w v)
    (hrefusal (commandPart w.target ((itemRefused w v s).actuator w.target) v 0))
  have hself : (itemAnswered (runningItem w v) ⟨.outOfRange, commandPart w.target ((itemRefused w v s).actuator w.target) v 0⟩
      (itemRefused w v s)).actuator w.target = failedEntry (s.actuator w.target) := by
    rw [hlast.actuator, itemRefused_actuator, if_pos rfl]
  refine ⟨_, hexec, (itemRefused_frame s w v).comp hlast, ?_, ?_, ?_, itemRefused_counted s w v hlast.actuator hlast.notices, ?_,
    fun hfault => ?_, fun p req hp hserving hroom => ?_⟩
  · rw [itemAnswered_arb _ _ (hrefusal _) (by simp [harb, htenure]) (by rw [harb]), harb, hwork]
  · rw [hlast.acts, hwork]
  · rw [hlast.acts, hrunning]
  · rw [hself]
    rfl
  · rw [hself] at hfault
    rw [hlast.notices, itemRefused_quiet s w v hfault]
  · have hkeep := itemRefused_keeps s w v hp hroom
    have hans := itemAnswered_answers (itemRefused w v s) (runningItem w v)
      (hrefusal (commandPart w.target ((itemRefused w v s).actuator w.target) v 0)) rfl hp
      (hkeep.executor.trans hserving) (by rw [hkeep.room]; exact hroom)
    rw [hlast.actuator]
    exact hans

end Sys2Proof.Machine
end

section
/-! SUPPORT. The grant of an exchange whose write cannot be composed: its feedback read begins, or fails too (R152). -/

set_option Elab.async false

namespace Sys2Proof.Machine

variable (s : State)

/-! ## The failed write of an exchange (R150, R152, R156) -/

theorem composeRead_congr {s t : State} (hb : t.bus = s.bus) (who : Requester) (m : ModIx) (w : Width) (o : Byte) :
    composeRead t who m w o = composeRead s who m w o := by
  show composeRead (s.setBus t.bus) who m w o = _
  rw [hb]
  rfl

theorem composeFeedback_congr {s t : State} {i : ActIx} (ha : (t.actuator i).desc = (s.actuator i).desc)
    (hp : t.points = s.points) (hb : t.bus = s.bus) : composeFeedback t i = composeFeedback s i := by
  have hdesc : ∀ j, t.descOf j = s.descOf j := fun j => by simp only [State.descOf, State.point, hp]
  simp only [composeFeedback, feedbackOf_congr ha hdesc, composeRead_congr hb]

/-- The port whose ATTENTION decision waits: none where a feedback read will be composed (R124, R152). -/
def exchangeDeferral (w : WorkItem) (v : Word16) (s : State) : Option Port :=
  if (composeFeedback (itemTaken w s) w.target).isSome then none else itemDeferral (itemTaken w s) (runningItem w v)

/-- The state in which the feedback read of a failed exchange write is composed: the failure is counted, and the actuator is in
flight as EXCHANGE (notes/assumptions/22.md). -/
def exchangeRefused (w : WorkItem) (v : Word16) (s : State) : State :=
  setInFlight w.target .exchange (writeFailed (exchangeDeferral w v s) w.target (itemTaken w s))

theorem failExchangeWrite_eq (w : WorkItem) (v : Word16) : failExchangeWrite (runningItem w v) (itemTaken w s)
    = beginFeedback (runningItem w v) ⟨some .address, 0⟩ (exchangeRefused w v s) := rfl

section refused
variable (w : WorkItem) (v : Word16)

theorem exchangeRefused_frame : ChangesOnly [.arb, .acts, .notices, .ports, .routes] s (exchangeRefused w v s) :=
  ((itemTaken_frame s w).comp (writeFailed_frame _ _ _) (n := [.arb, .acts, .notices, .ports, .routes])).comp
    (setInFlight_frame _ _ _)

theorem exchangeRefused_arb : (exchangeRefused w v s).arb = granted s.arb .actuatorUnit :=
  (writeFailed_frame _ _ _).arb

theorem exchangeRefused_work : (exchangeRefused w v s).acts.workList = s.acts.workList.erase w := by
  show (writeFailed _ w.target (itemTaken w s)).acts.workList = _
  rw [writeFailed_acts]
  rfl

theorem exchangeRefused_actuator (a : ActIx) : (exchangeRefused w v s).actuator a
    = if a = w.target then { failedEntry (s.actuator w.target) with inFlight := .exchange } else s.actuator a := by
  have hfailed := writeFailed_actuator (itemTaken w s) (exchangeDeferral w v s) w.target
  rw [exchangeRefused, setInFlight, setActuator_actuator, hfailed, hfailed]
  split
  · rw [if_pos rfl]
    rfl
  · rfl

theorem exchangeRefused_notices :
    (exchangeRefused w v s).notices = (writeFailed (exchangeDeferral w v s) w.target (itemTaken w s)).notices := rfl

theorem exchangeRefused_quiet (h : (s.actuator w.target).fault = (failedEntry (s.actuator w.target)).fault) :
    (exchangeRefused w v s).notices = s.notices :=
  writeFailed_quiet (itemTaken w s) _ w.target h

theorem exchangeRefused_feedback : composeFeedback (exchangeRefused w v s) w.target = composeFeedback s w.target :=
  composeFeedback_congr (by rw [exchangeRefused_actuator, if_pos rfl]; rfl) (exchangeRefused_frame s w v).points
    (exchangeRefused_frame s w v).bus

/-- A state in which the entry and the notices of the failed write stand has counted it. -/
theorem exchangeRefused_counted {t : State} {f : InFlight}
    (ha : ∀ a, t.actuator a = if a = w.target then { failedEntry (s.actuator w.target) with inFlight := f } else s.actuator a)
    (hn : ∀ n ∈ (exchangeRefused w v s).notices.entries, n.id = .actuator w.target →
      (∀ k ∈ (exchangeRefused w v s).notices.entries, k.id = n.id → k.state ≠ .returned) → n ∈ t.notices.entries) :
    AddressCounted w.target v s t := by
  have hcount : AddressCounted w.target v (itemTaken w s) t :=
    addressCounted_of (d := exchangeDeferral w v s) ha fun n hfree hid hstate he => by
      rw [exchangeRefused_notices, he] at hn
      refine hn n (List.mem_append_right _ List.mem_cons_self) hid fun k hk hkid => ?_
      rcases List.mem_append.1 hk with hk | hk
      · exact absurd (hkid.trans hid) (hfree k hk)
      · rw [List.mem_singleton.1 hk, hstate]
        exact nofun
  exact hcount

end refused

/-! ## The feedback read begins -/

theorem unitGrant_reads (hg : Grantable s) (hu : UnitNext s) {w : WorkItem} {d : ActDescriptor} {v : Word16}
    (hf : FirstItem s.acts w) (hd : (s.actuator w.target).desc = some d) (hv : w.value d (s.actuator w.target) = v)
    (hx : composeWrite s .actuatorUnit d.modAddr d.width d.offset v = none) (he : isExchange w = true) {y : Transaction}
    (hy : composeFeedback s w.target = some y) :
    ∃ t, exec .freeGrant s = .next t ∧ ChangesOnly [.bus, .arb, .acts, .notices, .ports, .routes, .hreq] s t
      ∧ t.bus = { s.bus with busState := .active, inFlight := some y }
      ∧ t.arb = { s.arb with
        waiting := { s.arb.waiting with actuatorUnit := false }
        tenure := some .actuatorUnit
        scannerWait := countedWait s }
      ∧ t.acts.workList = s.acts.workList.erase w
      ∧ t.acts.running = some ⟨w, v, true, some ⟨some .address, 0⟩⟩
      ∧ AddressCounted w.target v s t ∧ (t.actuator w.target).inFlight = .exchange
      ∧ ((s.actuator w.target).fault = (t.actuator w.target).fault → t.notices = s.notices) := by
  have hexec := exec_freeGrant s hg (chosen_unit s hu)
  rw [grantActuator_item hf hd, runItem_fails hv hx, he, if_pos rfl, failExchangeWrite_eq] at hexec
  have hfeed : composeFeedback (exchangeRefused w v s) w.target = some y := (exchangeRefused_feedback s w v).trans hy
  have hbegin : beginFeedback (runningItem w v) ⟨some .address, 0⟩ (exchangeRefused w v s) = beginTransaction y
      ((exchangeRefused w v s).setRunning (some { runningItem w v with outcome := some ⟨some .address, 0⟩ })) := by
    have hfeed' : composeFeedback (exchangeRefused w v s) (runningItem w v).item.target = some y := hfeed
    simp only [beginFeedback, hfeed']
  rw [hbegin] at hexec
  have hrefused := exchangeRefused_frame s w v
  have hlast : ChangesOnly [.acts, .bus, .hreq] (exchangeRefused w v s) (decideHreq (beginTransaction y
      ((exchangeRefused w v s).setRunning (some { runningItem w v with outcome := some ⟨some .address, 0⟩ })))) :=
    ((setRunning_frame _ _).comp (beginTransaction_frame _ y) (n := [.acts, .bus])).comp (decideHreq_frame _)
  generalize hz : beginTransaction y
    ((exchangeRefused w v s).setRunning (some { runningItem w v with outcome := some ⟨some .address, 0⟩ })) = z at hexec hlast
  have hacts : (decideHreq z).acts = { (exchangeRefused w v s).acts with
      running := some { runningItem w v with outcome := some ⟨some .address, 0⟩ } } := by
    rw [(decideHreq_frame z).acts, ← hz]
    rfl
  have hact : ∀ a, (decideHreq z).actuator a = if a = w.target
      then { failedEntry (s.actuator w.target) with inFlight := .exchange } else s.actuator a := fun a =>
    (congrArg (fun x => x.entries.get a) hacts).trans (exchangeRefused_actuator s w v a)
  have hself := hact w.target
  rw [if_pos rfl] at hself
  refine ⟨_, hexec, hrefused.comp hlast, ?_, ?_, ?_, ?_,
    exchangeRefused_counted s w v (f := .exchange) hact ?_, ?_, fun hfault => ?_⟩
  · rw [(decideHreq_frame z).bus, ← hz, ← hrefused.bus]
    rfl
  · rw [hlast.arb, exchangeRefused_arb]
    rfl
  · rw [hacts]
    exact exchangeRefused_work s w v
  · rw [hacts]
    rfl
  · rw [hlast.notices]
    exact fun n hn _ _ => hn
  · rw [hself]
  · have hfault' : (s.actuator w.target).fault = (failedEntry (s.actuator w.target)).fault := by rw [hfault, hself]
    rw [hlast.notices, exchangeRefused_quiet s w v hfault']

/-! ## The feedback read fails too -/

/-- The state in which the feedback point's failed sample is taken: the grant has ended and no item runs. -/
def exchangeEnded (w : WorkItem) (v : Word16) (s : State) : State :=
  (setInFlight w.target .no (closeLocked (exchangeRefused w v s))).setRunning none

/-- The state in which such an exchange is answered. -/
def feedbackFailed (w : WorkItem) (v : Word16) (s : State) : State :=
  takeFeedback (itemDeferral (exchangeEnded w v s) (runningItem w v)) w.target (.failed .address) (exchangeEnded w v s)

section ended
variable (w : WorkItem) (v : Word16)

theorem exchangeEnded_frame : ChangesOnly [.arb, .acts] (exchangeRefused w v s) (exchangeEnded w v s) :=
  ((closeLocked_frame _).comp (setInFlight_frame _ _ _) (n := [.arb, .acts])).comp (setRunning_frame _ _)

theorem exchangeEnded_actuator (a : ActIx) : (exchangeEnded w v s).actuator a
    = if a = w.target then { failedEntry (s.actuator w.target) with inFlight := .no } else s.actuator a := by
  have hrefused := exchangeRefused_actuator s w v
  have hset : (exchangeEnded w v s).actuator a
      = if a = w.target then { (exchangeRefused w v s).actuator w.target with inFlight := .no }
        else (exchangeRefused w v s).actuator a := setActuator_actuator (closeLocked (exchangeRefused w v s)) w.target a _
  rw [hset, hrefused, hrefused, if_pos rfl]
  split <;> rfl

theorem exchangeEnded_feedbackOf : feedbackOf (exchangeEnded w v s) w.target = feedbackOf s w.target :=
  feedbackOf_congr (by rw [exchangeEnded_actuator, if_pos rfl]; rfl)
    fun j => ((exchangeEnded_frame s w v).descOf j).trans ((exchangeRefused_frame s w v).descOf j)

theorem exchangeEnded_noExpiry (h : expiryDue s w.target = false) :
    takeExpiry w.target (exchangeEnded w v s) = exchangeEnded w v s :=
  takeExpiry_none _ (by simp only [expiryDue, exchangeEnded_actuator, if_true]; exact h)

/-- An exchange of which neither part could be composed is answered by its write's failure (R152). -/
theorem failExchangeWrite_answered (hx : expiryDue s w.target = false) (hn : composeFeedback s w.target = none) :
    decideHreq (failExchangeWrite (runningItem w v) (itemTaken w s)) = itemAnswered (runningItem w v) ⟨.outOfRange,
      exchangePart w.target ((feedbackFailed w v s).actuator w.target) v 0 (some .address) 0 0⟩ (feedbackFailed w v s) := by
  have hfeed : composeFeedback (exchangeRefused w v s) (runningItem w v).item.target = none :=
    (exchangeRefused_feedback s w v).trans hn
  have hfinish : finishExchange (runningItem w v) ⟨some .address, 0⟩ (.failed .address) (exchangeRefused w v s)
      = (fun u : State => requestActuator (respondItem (runningItem w v) ⟨.outOfRange, exchangePart w.target
        ((takeFeedback (itemDeferral u (runningItem w v)) w.target (.failed .address) u).actuator w.target) v 0 (some .address)
        0 0⟩ (takeFeedback (itemDeferral u (runningItem w v)) w.target (.failed .address) u)))
        (takeExpiry w.target (exchangeEnded w v s)) := rfl
  rw [failExchangeWrite_eq]
  simp only [beginFeedback, hfeed]
  rw [hfinish, exchangeEnded_noExpiry s w v hx]
  rfl

/-- All that a failed feedback sample can be: none, or one failed sample of the feedback point. -/
theorem feedbackFailed_cases : (feedbackOf s w.target = none ∧ feedbackFailed w v s = exchangeEnded w v s)
    ∨ ∃ j e, feedbackOf s w.target = some (j, e) ∧ feedbackFailed w v s
      = takeSample (itemDeferral (exchangeEnded w v s) (runningItem w v)) j (.failed .address) (exchangeEnded w v s) := by
  have hfeed := exchangeEnded_feedbackOf s w v
  cases hf : feedbackOf s w.target with
  | none =>
    rw [hf] at hfeed
    exact .inl ⟨rfl, by simp only [feedbackFailed, takeFeedback, hfeed]⟩
  | some x =>
    obtain ⟨j, e⟩ := x
    exact .inr ⟨j, e, rfl, takeFeedback_some _ (hfeed.trans hf) _ _⟩

theorem feedbackFailed_frame : ChangesOnly [.points, .notices, .ports, .routes] (exchangeEnded w v s) (feedbackFailed w v s) := by
  rcases feedbackFailed_cases s w v with ⟨-, h⟩ | ⟨j, e, -, h⟩
  · rw [h]
    exact .refl _ _
  · rw [h]
    exact (takeSample_sampleFailed _ _ j .address).frame

theorem feedbackFailed_delivers :
    Delivers (itemDeferral (exchangeEnded w v s) (runningItem w v)) (exchangeEnded w v s) (feedbackFailed w v s) := by
  rcases feedbackFailed_cases s w v with ⟨-, h⟩ | ⟨j, e, -, h⟩
  · rw [h]
    exact .refl _ _
  · rw [h]
    exact (takeSample_sampleFailed _ _ j .address).delivers

/-- The new FAULT entry outlives the start of FAILED. -/
theorem feedbackFailed_keeps {n : Notice} (hn : n ∈ (exchangeRefused w v s).notices.entries) (hid : n.id = .actuator w.target)
    (hr : ∀ k ∈ (exchangeRefused w v s).notices.entries, k.id = n.id → k.state ≠ .returned) :
    n ∈ (feedbackFailed w v s).notices.entries := by
  rcases feedbackFailed_cases s w v with ⟨-, h⟩ | ⟨j, e, -, h⟩
  · rw [h]
    exact hn
  · rw [h]
    exact takeSample_failed_keeps (exchangeEnded w v s) _ j .address hn hid hr

/-- The executor that holds on the exchange keeps its request and its place through both reports (R124). -/
theorem feedbackFailed_keepsRequest {p : Port} (hc : composeFeedback s w.target = none) (hp : w.port = some p)
    (ho : (s.port p).output.length < Config.outputPlaces) : KeepsRequest p s (feedbackFailed w v s) := by
  have hnone : composeFeedback (itemTaken w s) w.target = none := hc
  have hdef : exchangeDeferral w v s = some p := by
    rw [exchangeDeferral, hnone]
    exact itemDeferral_some (itemTaken w s) (x := runningItem w v) rfl hp ho
  have htaken : KeepsRequest p s (itemTaken w s) := .of_frame (itemTaken_frame s w)
  have hrefused : KeepsRequest p (itemTaken w s) (exchangeRefused w v s) := by
    have hdel := writeFailed_delivers (itemTaken w s) (exchangeDeferral w v s) w.target
    rw [hdef] at hdel
    rw [exchangeRefused, hdef]
    exact (hdel.trans (.of_frame (setInFlight_frame _ _ _))).keepsRequest
  have hended := (htaken.trans hrefused).trans (.of_frame (exchangeEnded_frame s w v))
  have hdel := feedbackFailed_delivers s w v
  rw [itemDeferral_some (exchangeEnded w v s) (x := runningItem w v) rfl hp (by rw [hended.room]; exact ho)] at hdel
  exact hended.trans hdel.keepsRequest

end ended

theorem unitGrant_failsTwice (hg : Grantable s) (hu : UnitNext s) {w : WorkItem} {d : ActDescriptor} {v : Word16}
    (hf : FirstItem s.acts w) (hd : (s.actuator w.target).desc = some d) (hv : w.value d (s.actuator w.target) = v)
    (hx : composeWrite s .actuatorUnit d.modAddr d.width d.offset v = none) (he : isExchange w = true)
    (hy : composeFeedback s w.target = none) :
    ∃ t, exec .freeGrant s = .next t ∧ ChangesOnly [.points, .arb, .acts, .clock, .notices, .ports, .routes, .hreq] s t
      ∧ t.arb.tenure = none ∧ t.arb.locked = .closed ∧ t.acts.workList = s.acts.workList.erase w
      ∧ t.acts.running = none ∧ AddressCounted w.target v s t ∧ (t.actuator w.target).inFlight = .no
      ∧ (∀ j e, feedbackOf s w.target = some (j, e) →
        (t.point j).live = sampledLive e s.scan.cycleNumber (s.point j) (.failed .address)
        ∧ ((s.actuator w.target).fault = (t.actuator w.target).fault → NoFailedStart j s → t.notices = s.notices)
        ∧ ((s.actuator w.target).fault = (t.actuator w.target).fault → s.notices.entries.length < 64 →
          t.notices.lost = s.notices.lost))
      ∧ (∀ p req, w.port = some p → (s.port p).executor = .serving req → (s.port p).output.length < 8 →
        HeldAnswered p req .outOfRange (exchangePart w.target (t.actuator w.target) v 0 (some .address) 0 0) t) := by
  have hexec := exec_freeGrant s hg (chosen_unit s hu)
  obtain ⟨-, -, -, -, -, -, hexpiry⟩ := hg
  rw [grantActuator_item hf hd, runItem_fails hv hx, he, if_pos rfl, failExchangeWrite_answered s w v (hexpiry w.target) hy]
    at hexec
  have hrefusal : ∀ body, (⟨.outOfRange, body⟩ : Reply).result ≠ .ok := fun _ => nofun
  have hlast := itemAnswered_frame (feedbackFailed w v s) (runningItem w v)
    (hrefusal (exchangePart w.target ((feedbackFailed w v s).actuator w.target) v 0 (some .address) 0 0))
  have hrefused := exchangeRefused_frame s w v
  have hended := exchangeEnded_frame s w v
  have hfailed := feedbackFailed_frame s w v
  have harb : (feedbackFailed w v s).arb = { granted s.arb .actuatorUnit with tenure := none, locked := .closed } := by
    rw [hfailed.arb, ← exchangeRefused_arb s w v]
    rfl
  have hact : ∀ a, (feedbackFailed w v s).actuator a
      = if a = w.target then { failedEntry (s.actuator w.target) with inFlight := .no } else s.actuator a := fun a =>
    (hfailed.actuator a).trans (exchangeEnded_actuator s w v a)
  have hself := hact w.target
  rw [if_pos rfl] at hself
  have hfault : (s.actuator w.target).fault = ((feedbackFailed w v s).actuator w.target).fault →
      (exchangeEnded w v s).notices = s.notices := fun h => by
    rw [hended.notices, exchangeRefused_quiet s w v (by rw [h, hself])]
  refine ⟨_, hexec, ((hrefused.comp hended (n := [.arb, .acts, .notices, .ports, .routes])).comp hfailed
      (n := [.points, .arb, .acts, .clock, .notices, .ports, .routes, .hreq])).comp hlast, ?_, ?_, ?_, ?_,
    exchangeRefused_counted s w v (f := .no) (fun a => (hlast.actuator a).trans (hact a)) ?_, ?_, fun j e hfeed => ?_,
    fun p req hp hserving hroom => ?_⟩
  · rw [itemAnswered_arb _ _ (hrefusal _) (by simp [harb]) (by rw [harb]; rfl), harb]
  · rw [itemAnswered_arb _ _ (hrefusal _) (by simp [harb]) (by rw [harb]; rfl), harb]
  · rw [hlast.acts, hfailed.acts]
    exact exchangeRefused_work s w v
  · rw [hlast.acts, hfailed.acts]
    rfl
  · rw [hlast.notices]
    exact fun n hn hid hr => feedbackFailed_keeps s w v hn hid hr
  · rw [hlast.actuator, hself]
  · obtain ⟨j', e', hfeed', hsample⟩ : ∃ j e, feedbackOf s w.target = some (j, e) ∧ feedbackFailed w v s
        = takeSample (itemDeferral (exchangeEnded w v s) (runningItem w v)) j (.failed .address) (exchangeEnded w v s) := by
      rcases feedbackFailed_cases s w v with ⟨hnone, -⟩ | h
      · rw [hnone] at hfeed
        cases hfeed
      · exact h
    obtain ⟨rfl, rfl⟩ : j' = j ∧ e' = e := by
      rw [hfeed] at hfeed'
      cases hfeed'
      exact ⟨rfl, rfl⟩
    have hpoint : ∀ i, (exchangeEnded w v s).point i = s.point i := fun i => (hended.point i).trans (hrefused.point i)
    have hdesc : (exchangeEnded w v s).descOf j' = some e' := by
      rw [hended.descOf, hrefused.descOf]
      exact feedbackOf_descOf s hfeed
    rw [hlast.point, hlast.notices, hlast.actuator]
    refine ⟨?_, fun h hno => ?_, fun h hl => ?_⟩
    · rw [hsample, (takeSample_self _ hdesc _ _).1, hpoint]
      rfl
    · have hno' : NoFailedStart j' (exchangeEnded w v s) := by
        unfold NoFailedStart
        rw [hpoint]
        exact hno
      rw [hsample, takeSample_failed_quiet _ _ j' .address hno', hfault h]
    · rw [hsample, takeSample_failed_lost _ _ j' .address (by rw [hfault h]; exact hl), hfault h]
  · have hkeep := feedbackFailed_keepsRequest s w v hy hp hroom
    have hans := itemAnswered_answers (feedbackFailed w v s) (runningItem w v)
      (hrefusal (exchangePart w.target ((feedbackFailed w v s).actuator w.target) v 0 (some .address) 0 0)) rfl hp
      (hkeep.executor.trans hserving) (by rw [hkeep.room]; exact hroom)
    rw [hlast.actuator]
    exact hans

end Sys2Proof.Machine
end

section
/-! SUPPORT. The grant to a direct requester (R78), and the Scanner's: the examination of the list, the read, and the end of a cycle
with nothing to read (R50 to R52). -/

set_option Elab.async false

namespace Sys2Proof.Machine

variable (s : State)

/-! ## A direct requester (R78, R79) -/

section direct
variable {s} {p : Port} {req : Request} {j : DirectJob}

theorem grantDirect_begins (he : (s.port p).executor = .serving req) (hj : jobOf req = some j) {x : Transaction}
    (hx : composeDirect s p j = some x) :
    composeFor (.direct p) (grantedTo (.direct p) s) = beginTransaction x (grantedTo (.direct p) s) := by
  have hserving : ((grantedTo (.direct p) s).port p).executor = .serving req := he
  have hcomp : composeDirect (grantedTo (.direct p) s) p j = some x := hx
  simp only [composeFor, grantDirect, hserving, hj, hcomp]

theorem grantDirect_refused (he : (s.port p).executor = .serving req) (hj : jobOf req = some j)
    (hx : composeDirect s p j = none) : composeFor (.direct p) (grantedTo (.direct p) s)
      = respond p (bare .outOfRange) (dropGrant (grantedTo (.direct p) s)) := by
  have hserving : ((grantedTo (.direct p) s).port p).executor = .serving req := he
  have hcomp : composeDirect (grantedTo (.direct p) s) p j = none := hx
  simp only [composeFor, grantDirect, hserving, hj, hcomp]

end direct

/-- The grant to a direct requester: its transfer runs, or its request is answered OUT_OF_RANGE (R78). -/
theorem directGrant (hg : Grantable s) {p : Port} {req : Request} {j : DirectJob} (hc : chosen s.arb = some (.direct p))
    (he : (s.port p).executor = .serving req) (hj : jobOf req = some j) :
    (∀ x, composeDirect s p j = some x →
      ∃ t, exec .freeGrant s = .next t ∧ ChangesOnly [.bus, .arb, .hreq] s t
        ∧ t.bus = { s.bus with busState := .active, inFlight := some x }
        ∧ t.arb = { s.arb with
          waiting := { s.arb.waiting with direct := s.arb.waiting.direct.set p false }
          tenure := some (.direct p)
          rotation := s.arb.rotation.filter (fun q => decide (q ≠ p)) ++ [p]
          scannerWait := countedWait s })
    ∧ (composeDirect s p j = none → (s.port p).output.length < 8 →
      ∃ t, exec .freeGrant s = .next t ∧ ChangesOnly [.arb, .ports, .routes, .hreq] s t ∧ t.arb.tenure = none
        ∧ t.arb.waiting = { s.arb.waiting with direct := s.arb.waiting.direct.set p false }
        ∧ HeldAnswered p req .outOfRange [] t) := by
  have hexec := exec_freeGrant s hg hc
  have hgrant := grantedTo_frame s (.direct p)
  refine ⟨fun x hx => ?_, fun hx hroom => ?_⟩
  · rw [grantDirect_begins he hj hx] at hexec
    exact ⟨_, hexec, (hgrant.comp (beginTransaction_frame _ x) (n := [.bus, .arb])).comp (decideHreq_frame _), rfl, rfl⟩
  · rw [grantDirect_refused he hj hx] at hexec
    have hrefusal : (bare .outOfRange).result ≠ .ok := nofun
    have hresp := respond_refusal_frame (dropGrant (grantedTo (.direct p) s)) p hrefusal
    have hans := respond_refuses (dropGrant (grantedTo (.direct p) s)) (p := p) (req := req) he hroom hrefusal
    have hhreq := decideHreq_frame (respond p (bare .outOfRange) (dropGrant (grantedTo (.direct p) s)))
    refine ⟨_, hexec, ((hgrant.comp (dropGrant_frame _) (n := [.arb])).comp hresp (n := [.arb, .ports, .routes])).comp hhreq,
      ?_, ?_, hans.of_frame hhreq⟩
    · rw [hhreq.arb, hresp.arb]
      rfl
    · rw [hhreq.arb, hresp.arb]
      rfl

/-! ## The examination of the list (R51) -/

/-- The entries of a list with no readable due one are passed, the due ones failing. -/
theorem examine_append {pre : List PointIx} (h : NoneReadable s pre) (l : List PointIx) : examine s (pre ++ l)
    = ⟨pre.filter (isDue s) ++ (examine s l).unreadable, (examine s l).lead⟩ := by
  induction pre with
  | nil => rfl
  | cons i pre ih =>
    have hrest := ih fun j hj => h j (List.mem_cons_of_mem _ hj)
    rw [List.cons_append, examine]
    cases hd : s.descOf i with
    | none =>
      have hi : isDue s i = false := by simp [isDue, hd]
      simp [hrest, hi]
    | some d =>
      cases hi : isDue s i with
      | false => simp [hrest, hi]
      | true =>
        have hread := h i List.mem_cons_self hi d hd
        simp [hrest, hi, hread]

theorem examine_none {l : List PointIx} (h : NoneReadable s l) : examine s l = ⟨l.filter (isDue s), none⟩ := by
  have happ := examine_append s h []
  simpa [examine] using happ

theorem examine_lead {pre rest : List PointIx} {e : PointIx} {d : Descriptor} (h : NoneReadable s pre)
    (hdue : isDue s e = true) (hd : s.descOf e = some d) (hr : isReadable s d = true) :
    examine s (pre ++ e :: rest) = ⟨pre.filter (isDue s), some (e, d, rest)⟩ := by
  rw [examine_append s h, examine]
  simp [hd, hdue, hr]

/-! ## The Scanner's read (R51, R52) -/

/-- The composition looks at the points, the classes and the cycle number, and at nothing of the arbiter. -/
theorem composeScan_setArb (a : Arbiter) (e : PointIx) (d : Descriptor) (rest : List PointIx) :
    composeScan (s.setArb a) e d rest = composeScan s e d rest := by
  have hincluded : ∀ m block, includedAfter (s.setArb a) m block 3 rest = includedAfter s m block 3 rest := fun m block => by
    rw [includedAfter_eq, includedAfter_eq]
    rfl
  unfold composeScan
  rw [hincluded]
  rfl

theorem composeScan_served_mem {e : PointIx} {d : Descriptor} {rest : List PointIx} {x : Option Transaction}
    {served : List PointIx} (h : composeScan s e d rest = (x, served)) : served.getLastD e ∈ e :: rest := by
  have hserved : ∀ i ∈ (composeScan s e d rest).2, i ∈ e :: rest := by
    have hgroup : ∀ m block, ∀ i ∈ e :: includedAfter s m block 3 rest, i ∈ e :: rest := fun m block i hi => by
      rw [includedAfter_eq] at hi
      rcases List.mem_cons.1 hi with rfl | hi
      · exact List.mem_cons_self
      · exact List.mem_cons_of_mem _ (List.mem_filter.1 (List.mem_of_mem_take ((List.takeWhile_sublist _).subset hi))).1
    unfold composeScan
    split
    · simp only []
      split
      · exact hgroup _ _
      · exact hgroup _ _
    · exact fun i hi => by simp_all
  rw [h] at hserved
  rcases List.eq_nil_or_concat served with rfl | ⟨l, i, rfl⟩
  · exact List.mem_cons_self
  · simpa using hserved i (by simp)

/-- The walk position moved past an entry splits the list ahead behind it. -/
theorem passThrough_split {i : PointIx} {x : Scanner} (h : i ∈ x.ahead) : ∃ upto after, x.ahead = upto ++ after
    ∧ upto.getLast? = some i ∧ passThrough i x = { x with passed := x.passed ++ upto, ahead := after } := by
  refine ⟨x.ahead.take (x.ahead.idxOf i + 1), x.ahead.drop (x.ahead.idxOf i + 1), (List.take_append_drop _ _).symm, ?_, rfl⟩
  rw [List.take_add_one, List.getElem?_idxOf h]
  exact getLast_push _ i

/-- The Scanner's grant with a lead entry: the due entries before it fail, and its read begins. -/
theorem grantScanner_lead {pre rest served : List PointIx} {e : PointIx} {d : Descriptor} {x : Transaction}
    (ha : s.scan.ahead = pre ++ e :: rest) (h : NoneReadable s pre) (hdue : isDue s e = true) (hd : s.descOf e = some d)
    (hr : isReadable s d = true) (hx : composeScan s e d rest = (some x, served)) :
    grantScanner s = beginTransaction x ((samplesFailed (pre.filter (isDue s)) s).setScan
      { passThrough (served.getLastD e) s.scan with inFlight := some (served.map fun i => ⟨i, false⟩) }) := by
  have hscan := (samplesFailed_frame s (pre.filter (isDue s))).scan
  unfold grantScanner
  simp only [ha, examine_lead s h hdue hd hr, hx]
  rw [← hscan]
  rfl

theorem grantScanner_none (h : NoneReadable s s.scan.ahead) : grantScanner s
    = walk none (dropGrant ((samplesFailed (s.scan.ahead.filter (isDue s)) s).setScan (passAll s.scan))) := by
  have hscan := (samplesFailed_frame s (s.scan.ahead.filter (isDue s))).scan
  unfold grantScanner
  simp only [examine_none s h]
  show walk none (dropGrant ((samplesFailed (s.scan.ahead.filter (isDue s)) s).setScan
    (passAll (samplesFailed (s.scan.ahead.filter (isDue s)) s).scan))) = _
  rw [hscan]

theorem scannerGrant_reads (hg : Grantable s) (hs : ScannerNext s) {pre rest served : List PointIx} {e : PointIx}
    {d : Descriptor} {x : Transaction} (ha : s.scan.ahead = pre ++ e :: rest) (h : NoneReadable s pre)
    (hdue : isDue s e = true) (hd : s.descOf e = some d) (hr : isReadable s d = true)
    (hx : composeScan s e d rest = (some x, served)) (hn : s.scan.ahead.Nodup) :
    ∃ t upto after, exec .freeGrant s = .next t
      ∧ ChangesOnly [.points, .bus, .arb, .scan, .notices, .ports, .routes, .hreq] s t
      ∧ ((∀ i ∈ pre, isDue s i = false) → ChangesOnly [.bus, .arb, .scan, .hreq] s t)
      ∧ AddressesFailed pre s t
      ∧ t.bus = { s.bus with busState := .active, inFlight := some x }
      ∧ t.arb = { s.arb with
        waiting := { s.arb.waiting with scanner := false }
        tenure := some .scanner
        scannerWait := 0 }
      ∧ s.scan.ahead = upto ++ after ∧ upto.getLast? = some (served.getLastD e)
      ∧ t.scan = { s.scan with
        passed := s.scan.passed ++ upto
        ahead := after
        inFlight := some (served.map fun i => ⟨i, false⟩) } := by
  have hexec := exec_freeGrant s hg (chosen_scanner s hs)
  have hlead : composeFor .scanner (grantedTo .scanner s) = _ :=
    grantScanner_lead (grantedTo .scanner s) ha h hdue hd hr ((composeScan_setArb s _ e d rest).trans hx)
  rw [hlead] at hexec
  obtain ⟨upto, after, hsplit, hlast, hpass⟩ := passThrough_split (i := served.getLastD e) (x := s.scan) (by
    rw [ha]
    exact List.mem_append_right _ (composeScan_served_mem s hx))
  have hpre : pre.Nodup := by
    rw [ha] at hn
    exact hn.of_append_left
  have hgrant := grantedTo_frame s .scanner
  have hfailed := samplesFailed_frame (grantedTo .scanner s) (pre.filter (isDue s))
  have haddr := samplesFailed_addresses (grantedTo .scanner s) hpre
  generalize hu : samplesFailed (pre.filter (isDue (grantedTo .scanner s))) (grantedTo .scanner s) = u at hexec haddr
  have hu' : samplesFailed (pre.filter (isDue s)) (grantedTo .scanner s) = u := hu
  rw [hu'] at hfailed
  have hrest : ∀ y, ChangesOnly [.scan, .bus, .hreq] u (decideHreq (beginTransaction x (u.setScan y))) := fun y =>
    ((setScan_frame u y).comp (beginTransaction_frame _ x) (n := [.scan, .bus])).comp (decideHreq_frame _)
  refine ⟨_, upto, after, hexec, (hgrant.comp hfailed (n := [.points, .bus, .arb, .scan, .notices, .ports, .routes, .hreq])).comp
    (hrest _), fun hnone => ?_, ?_, ?_, ?_, hsplit, hlast, ?_⟩
  · have hnil : pre.filter (isDue s) = [] := List.filter_eq_nil_iff.2 fun i hi => by simp [hnone i hi]
    have hsame : grantedTo .scanner s = u := by
      rw [← hu', hnil]
      rfl
    rw [← hsame]
    exact hgrant.comp (by rw [hsame]; exact hrest _)
  · exact haddr.congr fun i => (hrest _).point i
  · rw [(decideHreq_frame _).bus, ← hgrant.bus, ← hfailed.bus]
    rfl
  · rw [(hrest _).arb, hfailed.arb]
    rfl
  · rw [(decideHreq_frame _).scan]
    show { passThrough (served.getLastD e) s.scan with inFlight := some (served.map fun i => ⟨i, false⟩) } = _
    rw [hpass]

/-! ## A grant with nothing to read (R46, R50, R51, R55) -/

/-- The state in which the walk ends: the due entries have failed, and the position is the end of the list. -/
def listPassed (s : State) : State :=
  dropGrant ((samplesFailed (s.scan.ahead.filter (isDue s)) (grantedTo .scanner s)).setScan (passAll s.scan))

theorem listPassed_frame : ChangesOnly [.points, .arb, .scan, .notices, .ports, .routes] s (listPassed s) :=
  (((grantedTo_frame s .scanner).comp (samplesFailed_frame _ _) (n := [.points, .arb, .scan, .notices, .ports, .routes])).comp
    (setScan_frame _ _) (n := [.points, .arb, .scan, .notices, .ports, .routes])).comp (dropGrant_frame _)

theorem listPassed_scan : (listPassed s).scan = { s.scan with passed := s.scan.list, ahead := [] } := rfl

theorem listPassed_arb (h : s.arb.tenure = none) : (listPassed s).arb
    = { s.arb with waiting := { s.arb.waiting with scanner := false }, scannerWait := 0 } := by
  have hfailed := (samplesFailed_frame (grantedTo .scanner s) (s.scan.ahead.filter (isDue s))).arb
  have hdrop : (listPassed s).arb = (dropGrant (grantedTo .scanner s)).arb :=
    congrArg (fun a : Arbiter => { a with tenure := none }) hfailed
  rw [hdrop, dropGrant_grantedTo_arb s h]
  rfl

theorem listPassed_descOf (i : PointIx) : (listPassed s).descOf i = s.descOf i :=
  descOf_congr (samplesFailed_state (s.scan.ahead.filter (isDue s)) (grantedTo .scanner s) i)

theorem listPassed_addresses (h : s.scan.ahead.Nodup) : AddressesFailed s.scan.ahead s (listPassed s) :=
  (samplesFailed_addresses (grantedTo .scanner s) h).congr fun _ => rfl

theorem listPassed_walkFree (ht : s.arb.tenure = none) (hc : s.scan.cycleState = .walking) (hi : s.scan.inFlight = none) :
    WalkFree (listPassed s) :=
  ⟨hc, hi, by rw [listPassed_arb s ht], by simp [listPassed_arb s ht, ht]⟩

theorem listPassed_noneDue : anyDueAhead (listPassed s) = false := rfl

/-- A free grant of the Scanner that finds no readable due entry (R51). -/
theorem exec_freeGrant_none (hg : Grantable s) (hs : ScannerNext s) (h : NoneReadable s s.scan.ahead) :
    exec .freeGrant s = .next (decideHreq (walk none (listPassed s))) := by
  have hnone : composeFor .scanner (grantedTo .scanner s) = walk none (listPassed s) :=
    grantScanner_none (grantedTo .scanner s) h
  rw [← hnone]
  exact exec_freeGrant s hg (chosen_scanner s hs)

/-- What such a grant leaves of the points and of the rest of the part, whatever the walk comes to. -/
theorem listPassed_walk_kept (h : s.scan.ahead.Nodup) :
    ChangesOnly [.points, .arb, .scan, .notices, .ports, .routes, .hreq] s (decideHreq (walk none (listPassed s)))
      ∧ AddressesFailed s.scan.ahead s (decideHreq (walk none (listPassed s))) := by
  have hwalk : ChangesOnly [.scan, .arb, .notices, .ports, .routes, .hreq] (listPassed s)
      (decideHreq (walk none (listPassed s))) := (walk_frame _ none).comp (decideHreq_frame _)
  exact ⟨(listPassed_frame s).comp hwalk, (listPassed_addresses s h).congr hwalk.point⟩

theorem scannerGrant_ends (hg : Grantable s) (hs : ScannerNext s) (h : NoneReadable s s.scan.ahead) (hn : s.scan.ahead.Nodup)
    (hc : s.scan.cycleState = .walking) (hi : s.scan.inFlight = none) (hh : s.scan.heldStart = false) :
    ∃ t, exec .freeGrant s = .next t ∧ ChangesOnly [.points, .arb, .scan, .notices, .ports, .routes, .hreq] s t
      ∧ AddressesFailed s.scan.ahead s t
      ∧ t.arb = { s.arb with waiting := { s.arb.waiting with scanner := false }, scannerWait := 0 }
      ∧ t.scan = { s.scan with
        cycleState := .idle
        cycleNumber := s.scan.cycleNumber + 1
        passed := s.scan.list
        ahead := []
        overrun := false } := by
  obtain ⟨hframe, haddr⟩ := listPassed_walk_kept s hn
  obtain ⟨-, htenure, -⟩ := id hg
  have hends := walk_ends (listPassed_walkFree s htenure hc hi) none (listPassed_noneDue s) hh
  refine ⟨_, exec_freeGrant_none s hg hs h, hframe, haddr, ?_, ?_⟩
  · rw [(decideHreq_frame _).arb, hends, completeCycle_arb, listPassed_arb s htenure]
  · rw [(decideHreq_frame _).scan, hends, completeCycle_scan, listPassed_scan]
    simp [Scanner.list, hh]

/-- A walk changes nothing of the arbiter but the Scanner's own request. -/
theorem walk_arb (d : Option Port) : (walk d s).arb
    = { s.arb with waiting := { s.arb.waiting with scanner := (walk d s).arb.waiting.scanner } } := by
  unfold walk walkOnce
  split
  · split
    · rfl
    · simp only []
      split
      · split
        · show { (completeCycle d s).arb with waiting := { (completeCycle d s).arb.waiting with scanner := true } } = _
          rw [completeCycle_arb]
          rfl
        · rw [completeCycle_arb, (beginCycle_frame _).arb, completeCycle_arb]
      · rw [completeCycle_arb]
  · rfl

theorem listPassed_dueInList : DueInList ((listPassed s).setScan
      { (listPassed s).scan with cycleNumber := (listPassed s).scan.cycleNumber + 1 })
    ↔ DueInList (s.setScan { s.scan with cycleNumber := s.scan.cycleNumber + 1 }) := by
  simp only [DueInList, setScan_descOf, listPassed_descOf, setScan_scan, listPassed_scan, Scanner.list, List.append_nil]

theorem scanner_ext {x y : Scanner} (hstate : x.scanState = y.scanState) (hpassed : x.passed = y.passed)
    (hahead : x.ahead = y.ahead) (hperiod : x.period = y.period) (hnumber : x.cycleNumber = y.cycleNumber)
    (hcycle : x.cycleState = y.cycleState) (htimer : x.periodTimer = y.periodTimer) (hheld : x.heldStart = y.heldStart)
    (hover : x.overrun = y.overrun) (hread : x.inFlight = y.inFlight) : x = y := by
  cases x
  cases y
  simp_all

theorem scannerGrant_restarts (hg : Grantable s) (hs : ScannerNext s) (h : NoneReadable s s.scan.ahead)
    (hn : s.scan.ahead.Nodup) (hc : s.scan.cycleState = .walking) (hi : s.scan.inFlight = none) (hh : s.scan.heldStart = true)
    (hr : s.scan.scanState = .running) {next : State}
    (hnext : next = s.setScan { s.scan with cycleNumber := s.scan.cycleNumber + 1 }) :
    ∃ t, exec .freeGrant s = .next t ∧ ChangesOnly [.points, .arb, .scan, .notices, .ports, .routes, .hreq] s t
      ∧ AddressesFailed s.scan.ahead s t
      ∧ (DueInList next → t.arb = { s.arb with scannerWait := 0 }
        ∧ t.scan = { s.scan with
          cycleState := .walking
          cycleNumber := s.scan.cycleNumber + 1
          passed := []
          ahead := s.scan.list
          heldStart := false
          periodTimer := some (if s.clock.clockState = .economy then 4 * s.scan.period else s.scan.period) })
      ∧ (¬ DueInList next →
        t.arb = { s.arb with waiting := { s.arb.waiting with scanner := false }, scannerWait := 0 }
        ∧ t.scan = { s.scan with
          cycleState := .idle
          cycleNumber := s.scan.cycleNumber + 2
          passed := s.scan.list
          ahead := []
          overrun := false
          heldStart := false
          periodTimer := some (if s.clock.clockState = .economy then 4 * s.scan.period else s.scan.period) }) := by
  subst hnext
  obtain ⟨hframe, haddr⟩ := listPassed_walk_kept s hn
  obtain ⟨-, htenure, -⟩ := id hg
  obtain ⟨hwaiting, hchosen⟩ := hs
  have hfree := listPassed_walkFree s htenure hc hi
  obtain ⟨hheld, hstate, hperiod, htimer, hdue, hnone⟩ := walk_held rfl hfree (listPassed_noneDue s) hh hr
  have hread := (walk_readKept (listPassed s) none).inFlight
  have harb := walk_arb (listPassed s) none
  have hclock : (walk none (listPassed s)).clock = s.clock := (walk_frame _ none).clock.trans (listPassed_frame s).clock
  have hlist : (listPassed s).scan.list = s.scan.list := List.append_nil _
  rw [hclock] at htimer
  rw [hlist, listPassed_dueInList] at hdue hnone
  have hhreq := decideHreq_frame (walk none (listPassed s))
  refine ⟨_, exec_freeGrant_none s hg ⟨hwaiting, hchosen⟩ h, hframe, haddr, fun hd => ?_, fun hd => ?_⟩
  · obtain ⟨hcycle, hnumber, hpassed, hahead, hover, hwait⟩ := hdue hd
    rw [hhreq.arb, hhreq.scan, harb, hwait, listPassed_arb s htenure, ← hwaiting]
    exact ⟨rfl, scanner_ext (hstate.trans hr.symm) hpassed hahead hperiod hnumber hcycle htimer hheld hover hread⟩
  · obtain ⟨hcycle, hnumber, hpassed, hahead, hover, hwait⟩ := hnone hd
    rw [hhreq.arb, hhreq.scan, harb, hwait, listPassed_arb s htenure]
    exact ⟨rfl, scanner_ext (hstate.trans hr.symm) hpassed hahead hperiod hnumber hcycle htimer hheld hover hread⟩

end Sys2Proof.Machine
end

section
/-! PROOFS. A free grant (O31). -/

set_option Elab.async false

namespace Sys2Proof.Machine

/-- Settles O31: what is composed under each class, and then the grant to each requester that the rows of R86 can name. -/
theorem freeGrantRunsChosen : Obligations.FreeGrantRunsChosen := by
  refine ⟨fun s who m o v => registers_composed s who m o v, fun s p m o v => ⟨fun dw w h => ?_,
      fun hc hl ho => composeDirect_line s hc hl ho, fun h => composeDirect_line_none s h⟩,
    fun s e d rest hd _ => scan_composed s e d rest hd, fun s hg => ⟨fun hu hw => unitGrant_empty s hg hu hw,
      fun hu w d v hf hd hv => ⟨fun x hx => unitGrant_begins s hg hu hf hd hv hx,
        fun hx he => unitGrant_fails s hg hu hf hd hv hx he,
        fun hx he => ⟨fun y hy => unitGrant_reads s hg hu hf hd hv hx he hy,
          fun hy => unitGrant_failsTwice s hg hu hf hd hv hx he hy⟩⟩,
      fun hs hu p req j hp he hj => directGrant s hg (chosen_direct s hs hu hp) he hj,
      fun hs => ⟨fun pre rest e d x served ha h hdue hd hr hx hn => scannerGrant_reads s hg hs ha h hdue hd hr hx hn,
        fun h hn hc hi hh => scannerGrant_ends s hg hs h hn hc hi hh,
        fun h hn hc hi hh hr _ hnext => scannerGrant_restarts s hg hs h hn hc hi hh hr hnext⟩⟩⟩
  rcases h with ⟨rfl, rfl⟩ | ⟨rfl, rfl⟩
  · exact ⟨rfl, rfl⟩
  · exact ⟨rfl, rfl⟩

end Sys2Proof.Machine
end

section
/-! SUPPORT. What every operation keeps of the bus state (R61), the arbiter's counts and order (R83, R86), and HCRST with the restart
pulse (R158, R165, R166). -/

set_option Elab.async false

namespace Sys2Proof.Machine

variable (s : State)

/-- From s to t the bus is ACTIVE exactly with a transaction in flight (R61), the arbiter's counts stay bounded and its order an order
of the ports (R83, R86), and HCRST follows the restart pulse (R158, R165), each where it was so in s. -/
structure LinesKept (s t : State) : Prop where
  bus : BusSound s → BusSound t
  arbiter : ArbiterSound s → ArbiterSound t
  pulse : PulseSound s → PulseSound t

theorem LinesKept.refl : LinesKept s s := ⟨id, id, id⟩

theorem LinesKept.trans {s t u : State} (h : LinesKept s t) (k : LinesKept t u) : LinesKept s u :=
  ⟨fun x => k.bus (h.bus x), fun x => k.arbiter (h.arbiter x), fun x => k.pulse (h.pulse x)⟩

theorem LinesKept.foldl {α : Type} {f : State → α → State} (h : ∀ s a, LinesKept s (f s a)) (xs : List α) (s : State) :
    LinesKept s (xs.foldl f s) := by
  induction xs generalizing s with
  | nil => exact .refl s
  | cons a xs ih => exact (h s a).trans (ih (f s a))

theorem LinesKept.ite {c : Prop} [Decidable c] {s t u : State} (h : LinesKept s t) (k : LinesKept s u) :
    LinesKept s (if c then t else u) := by
  split
  · exact h
  · exact k

/-! ## What each invariant reads -/

/-- The Scanner goes on waiting if it waited, its wait count and the rotation order are the same, and no locked tenure opens. -/
structure CountsKept (s t : State) : Prop where
  waiting : s.arb.waiting.scanner = true → t.arb.waiting.scanner = true
  count : t.arb.scannerWait = s.arb.scannerWait
  locked : t.arb.locked = .first → s.arb.locked = .first
  rotation : t.arb.rotation = s.arb.rotation

theorem CountsKept.of_arb {s t : State} (h : t.arb = s.arb) : CountsKept s t := by
  constructor <;> simp [h]

theorem ArbiterSound.of_counts {s t : State} (h : ArbiterSound s) (k : CountsKept s t) : ArbiterSound t := by
  obtain ⟨hzero, hfive, hfour, hperm⟩ := h
  refine ⟨fun ht => ?_, by rw [k.count]; exact hfive, fun ht => by rw [k.count]; exact hfour (k.locked ht),
    by rw [k.rotation]; exact hperm⟩
  rw [k.count]
  refine hzero (Bool.eq_false_iff.2 fun hs => ?_)
  rw [k.waiting hs] at ht
  cases ht

theorem BusSound.congr {s t : State} (h : BusSound s) (hi : t.bus.inFlight.isSome = s.bus.inFlight.isSome)
    (hb : t.bus.busState = s.bus.busState) : BusSound t := by
  unfold BusSound at *
  rw [hi, hb]
  exact h

theorem PulseSound.congr {s t : State} (h : PulseSound s) (hp : t.link.pulse = s.link.pulse) (hh : t.link.hcrst = s.link.hcrst)
    (ht : t.link.pulseTimer = s.link.pulseTimer) (hs : t.link.silenceTimer = s.link.silenceTimer) : PulseSound t := by
  unfold PulseSound at *
  rw [hp, hh, ht, hs]
  exact h

/-- A change that leaves the bus and the hut link, and of the arbiter what its invariant reads. -/
theorem LinesKept.of_counts {l : List Block} {s t : State} (h : ChangesOnly l s t) (k : CountsKept s t)
    (hb : Block.bus ∉ l := by decide) (hl : Block.link ∉ l := by decide) : LinesKept s t :=
  ⟨fun x => x.congr (by rw [h.bus hb]) (by rw [h.bus hb]), fun x => x.of_counts k,
    fun x => x.congr (by rw [h.link hl]) (by rw [h.link hl]) (by rw [h.link hl]) (by rw [h.link hl])⟩

/-- A change elsewhere keeps all three. -/
theorem LinesKept.of_frame {l : List Block} {s t : State} (h : ChangesOnly l s t) (hb : Block.bus ∉ l := by decide)
    (ha : Block.arb ∉ l := by decide) (hl : Block.link ∉ l := by decide) : LinesKept s t :=
  .of_counts h (.of_arb (h.arb ha)) hb hl

/-- A change of the bus that keeps its invariant. -/
theorem LinesKept.of_bus {l : List Block} {s t : State} (h : ChangesOnly l s t) (k : BusSound s → BusSound t)
    (ha : Block.arb ∉ l := by decide) (hl : Block.link ∉ l := by decide) : LinesKept s t :=
  ⟨k, fun x => x.of_counts (.of_arb (h.arb ha)),
    fun x => x.congr (by rw [h.link hl]) (by rw [h.link hl]) (by rw [h.link hl]) (by rw [h.link hl])⟩

/-- A change of the hut link that keeps its invariant. -/
theorem LinesKept.of_link {l : List Block} {s t : State} (h : ChangesOnly l s t) (k : PulseSound s → PulseSound t)
    (hb : Block.bus ∉ l := by decide) (ha : Block.arb ∉ l := by decide) : LinesKept s t :=
  ⟨fun x => x.congr (by rw [h.bus hb]) (by rw [h.bus hb]), fun x => x.of_counts (.of_arb (h.arb ha)), k⟩

/-! ## The arbiter's requests and tenures (R84, R87) -/

theorem setArb_linesKept (x : Arbiter) (h : CountsKept s (s.setArb x)) : LinesKept s (s.setArb x) :=
  .of_counts (setArb_frame s x) h

theorem requestActuator_linesKept : LinesKept s (requestActuator s) := by
  unfold requestActuator
  split
  · exact setArb_linesKept s _ ⟨id, rfl, id, rfl⟩
  · exact .refl s

theorem setDirectWaiting_linesKept (p : Port) (b : Bool) : LinesKept s (setDirectWaiting p b s) :=
  setArb_linesKept s _ ⟨id, rfl, id, rfl⟩

theorem dropGrant_linesKept : LinesKept s (dropGrant s) := setArb_linesKept s _ ⟨id, rfl, id, rfl⟩

theorem closeLocked_linesKept : LinesKept s (closeLocked s) := setArb_linesKept s _ ⟨id, rfl, nofun, rfl⟩

theorem setHold_linesKept (b : Bool) : LinesKept s (setHold b s) := setArb_linesKept s _ ⟨id, rfl, id, rfl⟩

/-- The Scanner's request is placed, or withdrawn with its wait count (R84). -/
theorem setScannerWaiting_linesKept (b : Bool) : LinesKept s (setScannerWaiting b s) := by
  cases b with
  | true => exact setArb_linesKept s _ ⟨fun _ => rfl, rfl, id, rfl⟩
  | false =>
    exact ⟨id, fun ⟨_, _, _, hperm⟩ => ⟨fun _ => rfl, Nat.zero_le 5, fun _ => Nat.zero_le 4, hperm⟩, id⟩

/-! ## Clock Control -/

theorem beginSwitch_linesKept (c : ClockState) : LinesKept s (beginSwitch c s) :=
  (LinesKept.of_frame (setClock_frame s _)).trans (setHold_linesKept _ true)

theorem abandonSwitch_linesKept (c : ClockState) : LinesKept s (abandonSwitch c s) :=
  (LinesKept.of_frame (setClock_frame s _)).trans (setHold_linesKept _ false)

theorem reportEconomy_linesKept (d : Option Port) (a : Bool) : LinesKept s (reportEconomy d a s) :=
  .of_frame (reportEconomy_frame s d a)

theorem actOnWanted_linesKept (d : Option Port) : LinesKept s (actOnWanted d s) := by
  unfold actOnWanted
  split
  · exact beginSwitch_linesKept s _
  · exact (beginSwitch_linesKept s _).trans (reportEconomy_linesKept _ d _)
  · exact abandonSwitch_linesKept s _
  · exact (abandonSwitch_linesKept s _).trans (reportEconomy_linesKept _ d _)
  · exact .refl s

theorem reevaluateClock_linesKept (d : Option Port) : LinesKept s (reevaluateClock d s) := by
  unfold reevaluateClock
  split
  · exact .refl s
  · exact (LinesKept.of_frame (setClock_frame s _)).trans (actOnWanted_linesKept _ d)

theorem enterClock_linesKept : LinesKept s (enterClock s) := by
  unfold enterClock
  split
  · exact ((LinesKept.of_frame (setClock_frame s _)).trans (setHold_linesKept _ false)).trans (reportEconomy_linesKept _ none true)
  · exact (LinesKept.of_frame (setClock_frame s _)).trans (setHold_linesKept _ false)
  · exact .refl s

theorem restartClock_linesKept : LinesKept s (restartClock s) := by
  unfold restartClock
  simp only []
  split
  · exact (reevaluateClock_linesKept s none).trans (reportEconomy_linesKept _ none true)
  · exact reevaluateClock_linesKept s none

/-! ## Claims and the work list -/

theorem queuePolicy_linesKept (m : Nat) (i : ActIx) : LinesKept s (queuePolicy m i s) := by
  have queued : ChangesOnly [.acts] s ((recordMoment m i (dropRefresh i s)).setWorkList
      ((recordMoment m i (dropRefresh i s)).acts.workList ++ [.policy i])) :=
    ((dropRefresh_frame s i).comp (recordMoment_frame _ m i) (n := [.acts])).comp (setWorkList_frame _ _)
  unfold queuePolicy
  split
  · exact requestActuator_linesKept s
  · exact (LinesKept.of_frame queued).trans (requestActuator_linesKept _)

theorem queueRefresh_linesKept (i : ActIx) : LinesKept s (queueRefresh i s) := by
  unfold queueRefresh
  split
  · exact .refl s
  · exact (LinesKept.of_frame ((recordMoment_frame s _ i).comp (setWorkList_frame _ _) (n := [.acts]))).trans
      (requestActuator_linesKept _)

theorem applyPolicy_linesKept (m : Nat) (i : ActIx) : LinesKept s (applyPolicy m i s) := by
  unfold applyPolicy
  split
  · exact .refl s
  · split
    · exact queuePolicy_linesKept s m i
    · exact .refl s

theorem endClaim_linesKept (m : Nat) (i : ActIx) : LinesKept s (endClaim m i s) := by
  unfold endClaim
  split
  · exact .refl s
  · exact ((LinesKept.of_frame (setActuator_frame s i _)).trans (.of_frame (dismissCommand_frame _ _ i))).trans
      (applyPolicy_linesKept _ m i)

theorem endClaims_linesKept (m : Nat) (who : Port → Bool) : LinesKept s (endClaims m who s) := by
  rw [endClaims_eq]
  refine LinesKept.foldl (fun s i => ?_) _ s
  unfold endClaimOf
  split
  · exact .refl s
  · split
    · exact endClaim_linesKept s m i
    · exact .refl s

theorem takeExpiry_linesKept (i : ActIx) : LinesKept s (takeExpiry i s) := by
  unfold takeExpiry
  split
  · exact endClaim_linesKept s _ i
  · exact .refl s

theorem takeExpiries_linesKept : LinesKept s (takeExpiries s) := LinesKept.foldl (fun s i => takeExpiry_linesKept s i) _ s

/-! ## Live records and samples -/

theorem handOff_linesKept (d : Option Port) (i : PointIx) (a b : LiveRecord) : LinesKept s (handOff d i a b s) := by
  have clock : LinesKept s (handClock d i a b s) := .ite (reevaluateClock_linesKept s d) (.refl s)
  rw [handOff_eq]
  exact .ite (clock.trans (endClaims_linesKept _ _ _)) clock

theorem commitLive_linesKept (d : Option Port) (i : PointIx) (x : LiveRecord) : LinesKept s (commitLive d i x s) := by
  rw [commitLive_eq]
  exact (LinesKept.of_frame (reportLive_frame s d i x)).trans (handOff_linesKept _ d i _ x)

theorem takeSample_linesKept (d : Option Port) (i : PointIx) (x : Sample) : LinesKept s (takeSample d i x s) := by
  cases h : s.descOf i with
  | none =>
    rw [takeSample_none s h]
    exact .refl s
  | some desc =>
    rw [takeSample_some s h]
    exact (LinesKept.of_frame (marked_frame s i x)).trans (commitLive_linesKept _ d i _)

/-! ## The Scanner -/

theorem endOverrun_linesKept (d : Option Port) : LinesKept s (endOverrun d s) :=
  .of_counts (endOverrun_frame s d) (.of_arb (endOverrun_arb s d))

theorem completeCycle_linesKept (d : Option Port) : LinesKept s (completeCycle d s) :=
  .of_counts (completeCycle_frame s d) (.of_arb (completeCycle_arb s d))

theorem walkOnce_linesKept (d : Option Port) : LinesKept s (walkOnce d s) := by
  unfold walkOnce
  split
  · exact setScannerWaiting_linesKept s true
  · exact completeCycle_linesKept s d

theorem beginCycle_linesKept : LinesKept s (beginCycle s) := .of_frame (beginCycle_frame s)

theorem walk_linesKept (d : Option Port) : LinesKept s (walk d s) := by
  unfold walk
  split
  · split
    · exact setScannerWaiting_linesKept s true
    · simp only []
      split
      · exact ((completeCycle_linesKept s d).trans (beginCycle_linesKept _)).trans (walkOnce_linesKept _ d)
      · exact completeCycle_linesKept s d
  · exact .refl s

theorem startCycle_linesKept (d : Option Port) : LinesKept s (startCycle d s) :=
  (beginCycle_linesKept s).trans (walk_linesKept _ d)

theorem periodExpired_linesKept : LinesKept s (periodExpired s) := by
  unfold periodExpired
  split
  · exact startCycle_linesKept s none
  · simp only []
    split
    · exact .of_frame (setScan_frame s _)
    · exact ((LinesKept.of_frame (setScan_frame s _)).trans (.of_frame (setScan_frame _ _))).trans
        (.of_frame (reportActivity_frame _ none _ true))

/-! ## Transactions (R61, R64, R68) -/

/-- The bus with another record of its results or classes. -/
theorem setBus_linesKept (x : Bus) (hi : x.inFlight.isSome = s.bus.inFlight.isSome) (hb : x.busState = s.bus.busState) :
    LinesKept s (s.setBus x) := .of_bus (setBus_frame s x) fun h => h.congr hi hb

theorem takeEnded_linesKept : LinesKept s (takeEnded s) := setBus_linesKept s _ rfl rfl

theorem beginTransaction_linesKept (t : Transaction) : LinesKept s (beginTransaction t s) :=
  .of_bus (beginTransaction_frame s t) fun _ => by simp [BusSound, beginTransaction]

theorem closeTenure_linesKept : LinesKept s (closeTenure s) := by
  have closed : LinesKept s ((takeEnded s).setArb { s.arb with tenure := none, locked := .closed }) :=
    (takeEnded_linesKept s).trans (setArb_linesKept _ _ ⟨id, rfl, nofun, rfl⟩)
  exact ((closed.trans (.of_frame (setScan_frame _ { s.scan with inFlight := none }))).trans
    (.of_frame (dropRunning_frame _))).trans (requestActuator_linesKept _)

theorem endTransaction_linesKept (t : Transaction) : LinesKept s (endTransaction t s) := by
  have ended : LinesKept s (s.setBus { s.bus with
      inFlight := none
      ended := some t
      busState := if t.cls.recovery = 0 then .idle else .recovery
      recovery := t.cls.recovery }) := by
    refine .of_bus (setBus_frame s _) fun _ => ?_
    simp only [BusSound, setBus_bus]
    split <;> simp
  unfold endTransaction
  simp only []
  split
  · exact ended.trans (closeTenure_linesKept _)
  · exact ended

/-- A beat ends while a transaction is in flight, which goes on or ends. -/
theorem endBeat_linesKept (t : Transaction) (b : Beat) (a e i : Bool) (x : Word16) (h : s.bus.inFlight = some t) :
    LinesKept s (endBeat t b a e i x s) := by
  unfold endBeat
  split
  · exact endTransaction_linesKept s _
  · simp only []
    split
    · exact setBus_linesKept s _ (by simp [h]) rfl
    · exact endTransaction_linesKept s _

theorem handOver_linesKept (t : Transaction) (e : ServedEntry) : LinesKept s (handOver t s e) := by
  unfold handOver
  split
  · exact .refl s
  · split
    · exact .refl s
    · exact takeSample_linesKept s none _ _

theorem completeRead_linesKept (t : Transaction) : LinesKept s (completeRead t s) := by
  have taken : LinesKept s (dropGrant (takeEnded s)) := (takeEnded_linesKept s).trans (dropGrant_linesKept _)
  exact ((taken.trans (LinesKept.foldl (fun s e => handOver_linesKept s t e) _ _)).trans (.of_frame (setScan_frame _ _))).trans
    (walk_linesKept _ none)

theorem completeDirect_linesKept (p : Port) (t : Transaction) : LinesKept s (completeDirect p t s) := by
  have taken : LinesKept s (dropGrant (takeEnded s)) := (takeEnded_linesKept s).trans (dropGrant_linesKept _)
  unfold completeDirect
  simp only []
  split
  · exact taken
  · exact taken.trans (.of_frame (respondDirect_frame _ p t))

/-! ## The unit's writes and exchanges -/

theorem takeFeedback_linesKept (d : Option Port) (i : ActIx) (x : Sample) : LinesKept s (takeFeedback d i x s) := by
  unfold takeFeedback
  split
  · exact .refl s
  · exact takeSample_linesKept s d _ x

theorem finishExchange_linesKept (x : RunningItem) (o : WriteOutcome) (z : Sample) : LinesKept s (finishExchange x o z s) := by
  have closed : LinesKept s ((setInFlight x.item.target .no (closeLocked s)).setRunning none) :=
    (closeLocked_linesKept s).trans
      (.of_frame ((setInFlight_frame _ x.item.target .no).comp (setRunning_frame _ none) (n := [.acts])))
  exact (((closed.trans (takeExpiry_linesKept _ _)).trans (takeFeedback_linesKept _ _ _ _)).trans
    (.of_frame (respondItem_frame _ _ _))).trans (requestActuator_linesKept _)

theorem beginFeedback_linesKept (x : RunningItem) (o : WriteOutcome) : LinesKept s (beginFeedback x o s) := by
  unfold beginFeedback
  split
  · exact (LinesKept.of_frame (setRunning_frame s _)).trans (beginTransaction_linesKept _ _)
  · exact finishExchange_linesKept s x o _

theorem completeExchangeWrite_linesKept (t : Transaction) (x : RunningItem) : LinesKept s (completeExchangeWrite t x s) :=
  ((takeEnded_linesKept s).trans (.of_frame (writeOutcome_frame _ _ _ _ _ _))).trans (.of_frame (setRunning_frame _ _))

theorem completeItemWrite_linesKept (t : Transaction) (x : RunningItem) : LinesKept s (completeItemWrite t x s) := by
  have closed : LinesKept s ((setInFlight x.item.target .no (dropGrant (takeEnded s))).setRunning none) :=
    ((takeEnded_linesKept s).trans (dropGrant_linesKept _)).trans
      (.of_frame ((setInFlight_frame _ x.item.target .no).comp (setRunning_frame _ none) (n := [.acts])))
  exact (((closed.trans (takeExpiry_linesKept _ _)).trans (.of_frame (writeOutcome_frame _ _ _ _ _ _))).trans
    (.of_frame (respondItem_frame _ _ _))).trans (requestActuator_linesKept _)

/-! ## Grants (R86, R88) -/

/-- An exchange opens its locked tenure while the wait count leaves room for the reserved grant (R88). -/
theorem beginWrite_linesKept (x : RunningItem) (t : Transaction) (h : ArbiterSound s → s.arb.scannerWait ≤ 4) :
    LinesKept s (beginWrite x t s) := by
  have ran : ∀ f, LinesKept s ((setInFlight x.item.target f s).setRunning (some x)) := fun f =>
    .of_frame ((setInFlight_frame s x.item.target f).comp (setRunning_frame _ (some x)) (n := [.acts]))
  unfold beginWrite
  simp only []
  refine LinesKept.trans ?_ (beginTransaction_linesKept _ _)
  split
  · refine (ran .exchange).trans (t := (setInFlight x.item.target .exchange s).setRunning (some x)) ⟨id, fun hs => ?_, id⟩
    obtain ⟨hzero, hfive, -, hperm⟩ := id hs
    exact ⟨hzero, hfive, fun _ => h hs, hperm⟩
  · exact ran .write

theorem failWrite_linesKept (x : RunningItem) : LinesKept s (failWrite x s) :=
  (((dropGrant_linesKept s).trans (.of_frame (writeOutcome_frame _ _ _ _ _ _))).trans
    (.of_frame (respondItem_frame _ _ _))).trans (requestActuator_linesKept _)

theorem failExchangeWrite_linesKept (x : RunningItem) : LinesKept s (failExchangeWrite x s) :=
  ((LinesKept.of_frame (writeOutcome_frame s _ _ _ _ _)).trans (.of_frame (setInFlight_frame _ _ _))).trans
    (beginFeedback_linesKept _ _ _)

theorem runItem_linesKept (w : WorkItem) (d : ActDescriptor) (h : ArbiterSound s → s.arb.scannerWait ≤ 4) :
    LinesKept s (runItem w d s) := by
  unfold runItem
  simp only []
  split
  · exact beginWrite_linesKept s _ _ h
  · split
    · exact failExchangeWrite_linesKept s _
    · exact failWrite_linesKept s _

theorem grantActuator_linesKept (h : ArbiterSound s → s.arb.scannerWait ≤ 4) :
    LinesKept s (grantActuator s) := by
  unfold grantActuator
  split
  · exact dropGrant_linesKept s
  · simp only []
    split
    · exact ((LinesKept.of_frame (setWorkList_frame s _)).trans (dropGrant_linesKept _)).trans (requestActuator_linesKept _)
    · exact (LinesKept.of_frame (setWorkList_frame s _)).trans (runItem_linesKept _ _ _ h)

theorem grantDirect_linesKept (p : Port) : LinesKept s (grantDirect p s) := by
  unfold grantDirect
  split
  · split
    · exact dropGrant_linesKept s
    · split
      · exact beginTransaction_linesKept s _
      · exact (dropGrant_linesKept s).trans (.of_frame (respond_frame _ p _))
  · exact dropGrant_linesKept s

theorem grantScanner_linesKept : LinesKept s (grantScanner s) := by
  unfold grantScanner
  simp only []
  generalize examine s s.scan.ahead = x
  have sampled : LinesKept s (x.unreadable.foldl (fun s i => takeSample none i (.failed .address) s) s) :=
    LinesKept.foldl (fun s i => takeSample_linesKept s none i _) _ s
  generalize x.unreadable.foldl (fun s i => takeSample none i (.failed .address) s) s = u at sampled
  have passed : LinesKept s (walk none (dropGrant (u.setScan (passAll u.scan)))) :=
    ((sampled.trans (.of_frame (setScan_frame u _))).trans (dropGrant_linesKept _)).trans (walk_linesKept _ none)
  split
  · exact passed
  · split
    · exact passed
    · exact (sampled.trans (.of_frame (setScan_frame u _))).trans (beginTransaction_linesKept _ _)

theorem composeFor_linesKept (who : Requester) (h : ArbiterSound s → s.arb.scannerWait ≤ 4) :
    LinesKept s (composeFor who s) := by
  cases who with
  | actuatorUnit => exact grantActuator_linesKept s h
  | direct p => exact grantDirect_linesKept s p
  | scanner => exact grantScanner_linesKept s

theorem rotationAfter_perm (l : List Port) (who : Requester) (h : l.Perm [.east, .west, .hut]) :
    (rotationAfter l who).Perm [.east, .west, .hut] := by
  cases who with
  | actuatorUnit => exact h
  | scanner => exact h
  | direct p =>
    have hp : p ∈ l := h.mem_iff.2 (by cases p <;> decide)
    have hn : l.Nodup := h.nodup_iff.2 (by decide)
    have hf : l.filter (fun q => decide (q ≠ p)) = l.erase p := by
      rw [hn.erase_eq_filter]
      exact List.filter_congr fun q _ => by simp [bne, Bool.beq_eq_decide_eq]
    exact ((List.perm_append_singleton p _).trans (hf ▸ (List.perm_cons_erase hp).symm)).trans h

/-- A requester other than the Scanner is chosen only while the Scanner has waited for less than 4 grants (R86). -/
theorem wait_of_chosen {a : Arbiter} {who : Requester} (h : chosen a = some who) (hw : who ≠ .scanner) :
    a.waiting.scanner = true → a.scannerWait < 4 := by
  intro hs
  by_contra hg
  have : chosen a = some .scanner := if_pos ⟨hs, Nat.not_lt.1 hg⟩
  rw [this] at h
  exact hw (Option.some.inj h).symm

/-- A free grant leaves the wait count at 4 at most, and at 0 while the Scanner does not wait (R86). -/
theorem scannerWaitAfter_bounds {a : Arbiter} {who : Requester} (h : chosen a = some who)
    (hz : a.waiting.scanner = false → a.scannerWait = 0) :
    scannerWaitAfter a who ≤ 4 ∧ ((a.waiting.without who).scanner = false → scannerWaitAfter a who = 0) := by
  have other : who ≠ .scanner → scannerWaitAfter a .actuatorUnit ≤ 4
      ∧ (a.waiting.scanner = false → scannerWaitAfter a .actuatorUnit = 0) := by
    intro hw
    have hlt := wait_of_chosen h hw
    cases hs : a.waiting.scanner with
    | true => exact ⟨by simpa [scannerWaitAfter, hs] using hlt hs, nofun⟩
    | false => simp [scannerWaitAfter, hs, hz hs]
  cases who with
  | scanner => exact ⟨Nat.zero_le 4, fun _ => rfl⟩
  | actuatorUnit => exact other nofun
  | direct p => exact other nofun

theorem grantedTo_linesKept {who : Requester} (h : chosen s.arb = some who) : LinesKept s (grantedTo who s) := by
  refine ⟨id, fun ⟨hzero, _, _, hperm⟩ => ?_, id⟩
  obtain ⟨hfour, hnone⟩ := scannerWaitAfter_bounds h hzero
  exact ⟨hnone, hfour.trans (by decide), fun _ => hfour, rotationAfter_perm _ who hperm⟩

/-- After a grant to another than the Scanner, the wait count leaves room for the reserved grant. -/
theorem grantedTo_wait {who : Requester} (h : chosen s.arb = some who) (hs : ArbiterSound (grantedTo who s)) :
    (grantedTo who s).arb.scannerWait ≤ 4 := by
  cases hw : s.arb.waiting.scanner with
  | true => exact (scannerWaitAfter_bounds h fun hf => by rw [hw] at hf; cases hf).1
  | false =>
    have hf : (grantedTo who s).arb.waiting.scanner = false := by
      cases who with
      | scanner => rfl
      | actuatorUnit => exact hw
      | direct p => exact hw
    rw [hs.1 hf]
    exact Nat.zero_le 4

theorem freeGrant_linesKept : LinesKept s (freeGrant s) := by
  unfold freeGrant
  simp only []
  have expired := takeExpiries_linesKept s
  generalize takeExpiries s = u at expired
  split
  · exact expired
  · next who hc =>
    exact (expired.trans (grantedTo_linesKept u hc)).trans (composeFor_linesKept _ who (grantedTo_wait u hc))

end Sys2Proof.Machine
end

section
/-! SUPPORT. The requests, the ports, the hut link and the restarts keep the bus state, the arbiter and the pulse sound. -/

set_option Elab.async false

namespace Sys2Proof.Machine

variable (s : State)

/-! ## Requests of the Point Table, the Scanner and the Actuator Unit -/

theorem acceptDefine_linesKept (d : Option Port) (i : PointIx) (new : Descriptor) : LinesKept s (acceptDefine d i new s) := by
  have removed : LinesKept s (if (s.point i).desc.isSome then removePointNotices i s else s) :=
    .ite (.of_frame (removePointNotices_frame s i)) (.refl s)
  unfold acceptDefine
  simp only []
  generalize (if (s.point i).desc.isSome then removePointNotices i s else s) = s1 at removed ⊢
  have settled := (removed.trans (.of_frame (setPoint_frame s1 i ((s.point i).resetRecord (.defined new))))).trans
    (.of_frame (settle_frame _ d))
  generalize settle d (s1.setPoint i ((s.point i).resetRecord (.defined new))) = s2 at settled ⊢
  have gated : LinesKept s (if (s.point i).live.asserted then reevaluateGated d i s2 else s2) :=
    .ite (settled.trans (.of_frame (reevaluateGated_frame s2 d i))) settled
  generalize (if (s.point i).live.asserted then reevaluateGated d i s2 else s2) = s3 at gated ⊢
  exact .ite (gated.trans (reevaluateClock_linesKept s3 d)) gated

theorem serveDefinePoint_linesKept (d : Option Port) (req : Request) : LinesKept s (serveDefinePoint d req s).1 := by
  unfold serveDefinePoint
  simp only []
  repeat' split
  · exact .refl s
  · exact .refl s
  · exact .refl s
  · exact .refl s
  · exact acceptDefine_linesKept s d _ _

theorem serveSetLimits_linesKept (d : Option Port) (req : Request) : LinesKept s (serveSetLimits d req s).1 := by
  unfold serveSetLimits
  simp only []
  repeat' split
  · exact .refl s
  · exact .refl s
  · exact .of_frame (acceptLimits_frame s d _ _ _)
  · exact .refl s

theorem serveUndefinePoint_linesKept (d : Option Port) (req : Request) : LinesKept s (serveUndefinePoint d req s).1 := by
  unfold serveUndefinePoint
  simp only []
  repeat' split
  · exact .refl s
  · exact .refl s
  · simp only [answer_fst]
    exact .of_frame (acceptUndefine_frame s d _)

theorem serveForcePoint_linesKept (p : Port) (d : Option Port) (req : Request) : LinesKept s (serveForcePoint p d req s).1 := by
  unfold serveForcePoint
  simp only []
  repeat' split
  · exact .refl s
  · exact .refl s
  · exact .refl s
  · exact commitLive_linesKept s d _ _

theorem serveUnforcePoint_linesKept (p : Port) (d : Option Port) (req : Request) :
    LinesKept s (serveUnforcePoint p d req s).1 := by
  unfold serveUnforcePoint
  simp only []
  split
  · exact .refl s
  · split
    · exact .refl s
    · exact .ite (commitLive_linesKept s d _ _) (.refl s)

theorem serveClearAsserted_linesKept (p : Port) (d : Option Port) (req : Request) :
    LinesKept s (serveClearAsserted p d req s).1 := by
  unfold serveClearAsserted
  simp only []
  repeat' split
  · exact .refl s
  · exact .refl s
  · exact .refl s
  · exact commitLive_linesKept s d _ _

theorem serveStartScan_linesKept (d : Option Port) (req : Request) : LinesKept s (serveStartScan d req s).1 := by
  unfold serveStartScan
  simp only [scanAnswer]
  repeat' split
  · exact .refl s
  · exact (LinesKept.of_frame (setScan_frame s _)).trans (startCycle_linesKept _ d)
  · exact .of_frame (setScan_frame s _)

theorem serveStopScan_linesKept (d : Option Port) (req : Request) : LinesKept s (serveStopScan d req s).1 := by
  have stopped := LinesKept.of_frame (setScan_frame s
    { s.scan with scanState := .stopped, periodTimer := none, heldStart := false })
  unfold serveStopScan
  simp only [scanAnswer]
  split
  · exact .refl s
  · exact .ite (stopped.trans (endOverrun_linesKept _ d)) stopped

theorem serveScanAdd_linesKept (d : Option Port) (req : Request) : LinesKept s (serveScanAdd d req s).1 := by
  unfold serveScanAdd
  simp only []
  split
  · exact .refl s
  · exact .refl s
  · next desc _ => exact (LinesKept.of_frame (scanAdded_frame s _ desc)).trans (walk_linesKept _ d)

theorem serveScanRemove_linesKept (d : Option Port) (req : Request) : LinesKept s (serveScanRemove d req s).1 := by
  unfold serveScanRemove
  simp only []
  split
  · exact .refl s
  · exact .refl s
  · next desc _ => exact .of_frame (scanRemoved_frame s _ desc)

theorem acceptActuator_linesKept (d : Option Port) (i : ActIx) (x : ActDescriptor) : LinesKept s (acceptActuator d i x s) := by
  have held : ∀ u, LinesKept u (startHeld i x u) := fun u =>
    .ite ((LinesKept.of_frame (restartRefresh_frame u i)).trans (queuePolicy_linesKept _ _ i)) (.refl u)
  have cleared : LinesKept s (dropPending i (clearFault d i s)) :=
    (LinesKept.of_frame (clearFault_frame s d i)).trans (.of_frame (dropPending_frame _ i))
  exact ((cleared.trans (.of_frame (setActuator_frame _ i _))).trans (.of_frame (settle_frame _ d))).trans (held _)

theorem serveDefineActuator_linesKept (d : Option Port) (req : Request) : LinesKept s (serveDefineActuator d req s).1 := by
  unfold serveDefineActuator
  simp only []
  repeat' split
  · exact takeExpiry_linesKept s _
  · exact takeExpiry_linesKept s _
  · exact (takeExpiry_linesKept s _).trans (acceptActuator_linesKept _ d _ _)
  · exact .refl s

theorem acceptUndefineActuator_frame (d : Option Port) (i : ActIx) :
    ChangesOnly [.notices, .acts, .ports, .routes] s (acceptUndefineActuator d i s) :=
  (((removeNotice_frame s (.actuator i)).comp (dropPending_frame _ i) (n := [.notices, .acts])).comp
    (setActuator_frame _ i _) (n := [.notices, .acts])).comp (settle_frame _ d)

theorem serveUndefineActuator_linesKept (d : Option Port) (req : Request) : LinesKept s (serveUndefineActuator d req s).1 := by
  unfold serveUndefineActuator
  simp only []
  repeat' split
  · exact .refl s
  · exact takeExpiry_linesKept s _
  · exact takeExpiry_linesKept s _
  · simp only [answer_fst]
    exact (takeExpiry_linesKept s _).trans (.of_frame (acceptUndefineActuator_frame _ d _))

theorem serveReadActuator_linesKept (d : Option Port) (req : Request) : LinesKept s (serveReadActuator d req s).1 := by
  unfold serveReadActuator
  simp only []
  repeat' split
  · exact .refl s
  · exact takeExpiry_linesKept s _
  · exact takeExpiry_linesKept s _

theorem serveActuator_linesKept (p : Port) (k : ActRequest) (v : Word16) (req : Request) (accept : ActIx → State → Served)
    (h : ∀ i s, LinesKept s (accept i s).1) : LinesKept s (serveActuator p k v req accept s).1 := by
  unfold serveActuator
  simp only []
  repeat' split
  · exact .refl s
  · exact takeExpiry_linesKept s _
  · exact (takeExpiry_linesKept s _).trans (h _ _)

theorem takeClaim_linesKept (i : ActIx) (p : Port) (n : Nat) : LinesKept s (takeClaim i p n s) := .of_frame (takeClaim_frame s i p n)

theorem queueItem_linesKept (i : ActIx) (v : Word16) (w : WorkItem) : LinesKept s (queueItem i v w s) :=
  ((LinesKept.of_frame (setActuator_frame s i _)).trans (.of_frame (setWorkList_frame _ _))).trans (requestActuator_linesKept _)

theorem serveSetEconomy_linesKept (d : Option Port) (req : Request) : LinesKept s (serveSetEconomy d req s).1 := by
  unfold serveSetEconomy
  split
  · exact .refl s
  · exact (LinesKept.of_frame (setClock_frame s _)).trans (reevaluateClock_linesKept _ d)

theorem serveSetSitePoints_linesKept (d : Option Port) (req : Request) : LinesKept s (serveSetSitePoints d req s).1 := by
  have accepted : ∀ x y, LinesKept s (acceptSitePoints d x y s) := by
    intro x y
    have hsite : ChangesOnly [.site] s { s with siteLocal := x, economyTrigger := y } := by
      intro b hb; cases b <;> simp_all [Block.same]
    have clock := LinesKept.ite (c := y ≠ s.economyTrigger)
      ((LinesKept.of_frame hsite).trans (reevaluateClock_linesKept _ d)) (.of_frame hsite)
    exact .ite (clock.trans (endClaims_linesKept _ _ _)) clock
  unfold serveSetSitePoints
  simp only []
  repeat' split
  · exact .refl s
  · exact .refl s
  · exact accepted _ _

/-! ## Requests of the Point Bus Controller -/

theorem serveSetModuleClass_linesKept (d : Option Port) (req : Request) : LinesKept s (serveSetModuleClass d req s).1 := by
  unfold serveSetModuleClass
  split
  · exact setBus_linesKept s _ rfl rfl
  · exact .refl s

theorem serveAssignModuleClass_linesKept (d : Option Port) (req : Request) :
    LinesKept s (serveAssignModuleClass d req s).1 := by
  unfold serveAssignModuleClass
  split
  · exact setBus_linesKept s _ rfl rfl
  · exact .refl s

theorem serveDirect_linesKept (p : Port) (d : Option Port) (req : Request) : LinesKept s (serveDirect p d req s).1 := by
  unfold serveDirect
  repeat' split
  · exact .refl s
  · exact .refl s
  · exact .refl s
  · exact setDirectWaiting_linesKept s p true

/-! ## The hut link (R158, R159, R165 to R167) -/

theorem setSlot_linesKept (k : ReferralIx) (x : ReferralSlot) : LinesKept s (s.setSlot k x) :=
  .of_link (setSlot_frame s k x) fun h => h.congr rfl rfl rfl rfl

theorem placeAnswer_linesKept (k : ReferralIx) (r : Referral) (c : Byte) (b : List Byte) :
    LinesKept s (placeAnswer k r c b s) := by
  unfold placeAnswer
  split
  · exact (LinesKept.of_frame (placeResponse_frame s _ _ _ _ _ _)).trans (setSlot_linesKept _ k _)
  · exact setSlot_linesKept s k _

theorem answerNoAnswer_linesKept (k : ReferralIx) : LinesKept s (answerNoAnswer s k) := by
  unfold answerNoAnswer
  split
  · exact placeAnswer_linesKept s k _ _ _
  · exact placeAnswer_linesKept s k _ _ _
  · exact .refl s

theorem serveReferral_linesKept (r : RoutePort) (d : Option Port) (req : Request) : LinesKept s (serveReferral r d req s).1 := by
  have filled : ∀ k, LinesKept s (fillSlot k r req s) := fun k =>
    .of_link (fillSlot_frame s k r req) fun h => h.congr rfl rfl rfl rfl
  unfold serveReferral
  repeat' split
  · exact .refl s
  · exact .refl s
  · exact .refl s
  · exact (filled _).trans (.of_frame (setExecutor_frame _ _ _))

theorem serveTakeReferral_linesKept (d : Option Port) (req : Request) : LinesKept s (serveTakeReferral d req s).1 := by
  unfold serveTakeReferral
  repeat' split
  · exact .refl s
  · exact setSlot_linesKept s _ _
  · exact .refl s

theorem serveAnswerReferral_linesKept (d : Option Port) (req : Request) : LinesKept s (serveAnswerReferral d req s).1 := by
  unfold serveAnswerReferral
  repeat' split
  · exact .refl s
  · exact .refl s
  · exact placeAnswer_linesKept s _ _ _ _
  · exact .refl s

theorem withdrawHutDirect_linesKept : LinesKept s (withdrawHutDirect s) :=
  (setDirectWaiting_linesKept s .hut false).trans (setBus_linesKept _ _ Option.isSome_map rfl)

theorem restartHut_linesKept : LinesKept s (restartHut s) := by
  have pulse : LinesKept s (startPulse s) := .of_link (setLink_frame s _) fun _ => ⟨rfl, rfl, fun _ => rfl⟩
  have ended : ∀ u, LinesKept u (endHutClaims u) := fun u =>
    ((LinesKept.of_frame (setWorkList_frame u _)).trans (.of_frame (setRunning_frame _ _))).trans (endClaims_linesKept _ _ _)
  exact (((pulse.trans (.of_frame (setPort_frame _ .hut _))).trans (withdrawHutDirect_linesKept _)).trans (ended _)).trans
    (LinesKept.foldl (fun u k => answerNoAnswer_linesKept u k) slotIndices _)

theorem serveRestartHut_linesKept (r : RoutePort) (d : Option Port) (req : Request) :
    LinesKept s (serveRestartHut r d req s).1 := by
  unfold serveRestartHut
  split
  · exact .refl s
  · simp only []
    exact (LinesKept.of_frame (respond_frame s _ _)).trans (restartHut_linesKept _)

theorem execPulseTimerExpiry_linesKept {s t : State} (h : execPulseTimerExpiry s = .next t) : LinesKept s t := by
  unfold execPulseTimerExpiry at h
  rcases event_cases h with rfl | ⟨-, -, rfl⟩
  · exact .refl _
  · exact (LinesKept.of_link (setLink_frame s _) fun _ => ⟨rfl, rfl, fun hp => by simp at hp⟩).trans (.of_frame (decideHreq_frame _))

/-! ## The ports -/

theorem checkFrame_route_frame (r : RoutePort) (b : List Byte) :
    ChangesOnly [.notices, .ports, .routes] s (checkFrame (toPort r) b s) := by
  have valid : ChangesOnly [.notices, .ports, .routes] s (validFrame (toPort r) s) := by
    simp only [validFrame, routeOf_toPort]
    exact validRouteFrame_frame s r
  unfold checkFrame
  split
  · exact valid.comp (checkRequest_frame _ _ _)
  · exact .refl _ s

/-- A byte at a route port leaves the hut link. -/
theorem takeByte_route_frame (r : RoutePort) (b : Byte) :
    ChangesOnly [.notices, .ports, .routes] s (takeByte (toPort r) b s) := by
  unfold takeByte takeFrameByte
  repeat' split
  · exact (setReceiver_frame s _ _).mono
  · exact .refl _ s
  · exact (setReceiver_frame s _ _).mono
  · exact (setReceiver_frame s _ _).mono
  · exact (setReceiver_frame s _ _).comp (checkFrame_route_frame _ r _)

/-- A valid frame on the Hut Port restarts the silence timer, and is taken only while no pulse is in progress (R166, R167). -/
theorem validHutFrame_linesKept (h : s.link.pulse = false) : LinesKept s (validHutFrame s) := by
  have heard : LinesKept s (s.setLink { s.link with silenceTimer := some Config.silenceTime, silence := false }) := by
    refine .of_link (setLink_frame s _) fun ⟨hhcrst, htimer, _⟩ => ⟨hhcrst, htimer, fun hp => ?_⟩
    rw [setLink_link, h] at hp
    cases hp
  unfold validHutFrame
  simp only []
  exact .ite (heard.trans (.of_frame (reportActivity_frame _ none _ _))) heard

theorem releaseChipSelect_linesKept (mosi : List Byte) (fill : Nat) : LinesKept s (releaseChipSelect mosi fill s) := by
  have judged : ∀ u b, u.link.pulse = false → LinesKept u (checkFrame .hut b u) := fun u b hu => by
    unfold checkFrame
    split
    · exact (validHutFrame_linesKept u hu).trans (.of_frame (checkRequest_frame _ _ _))
    · exact .refl u
  unfold releaseChipSelect
  simp only []
  have clocked := LinesKept.of_frame (setPort_frame s .hut { s.port .hut with
    transmitter := hutTransmitter (mosi.length - (s.port .hut).clocked - fill) s
    clocked := 0 })
  split
  · exact clocked
  · next hp =>
    split
    · exact clocked.trans (judged _ _ (Bool.eq_false_iff.2 hp))
    · exact clocked

theorem linkDown_linesKept (r : RoutePort) : LinesKept s (linkDown r s) :=
  ((LinesKept.of_frame (setRoute_frame s r _)).trans (.of_frame (reportActivity_frame _ none _ _))).trans
    (endClaims_linesKept _ _ _)

theorem placeHeld_linesKept (p : Port) : LinesKept s (placeHeld p s) := by
  unfold placeHeld
  repeat' split
  · exact .refl s
  · exact placeAnswer_linesKept s _ _ _ _
  · exact .refl s

theorem placeWaiting_linesKept (p : Port) : LinesKept s (placeWaiting p s) := by
  unfold placeWaiting
  split
  · exact .of_frame (placeReply_frame s p _ _)
  · exact placeHeld_linesKept s p

theorem sendHead_linesKept (p : Port) : LinesKept s (sendHead p s) := by
  have filled : ∀ u, LinesKept u (fillFreed p u) := by
    intro u
    unfold fillFreed
    simp only []
    repeat' split
    · exact placeWaiting_linesKept u p
    · exact (LinesKept.of_frame (setOwed_frame u _ false)).trans (.of_frame (pushFrame_frame _ p _ _))
    · exact (LinesKept.of_frame (setOwed_frame u _ false)).trans (placeWaiting_linesKept _ p)
    · exact placeWaiting_linesKept u p
  unfold sendHead
  split
  · exact .refl s
  · exact ((LinesKept.of_frame (setPort_frame s p _)).trans (.of_frame (beginFrame_frame _ p _))).trans (filled _)

/-! ## Restarts and the passing of time -/

theorem reset_lines : BusSound State.reset ∧ ArbiterSound State.reset ∧ PulseSound State.reset :=
  have ⟨_, _, _, _, _, _, hbus, harb, hpulse, _⟩ := resetMeetsInvariants
  ⟨hbus, harb, hpulse⟩

theorem powerOnReset_linesKept {s t : State} (h : execPowerOnReset s = .next t) : LinesKept s t := by
  injection h with h
  subst h
  obtain ⟨hbus, harb, hpulse⟩ := reset_lines
  exact ⟨fun _ => hbus, fun _ => harb, fun _ => hpulse⟩

theorem porRelease_linesKept {a b : Bool} {s t : State} (h : execPorRelease a b s = .next t) : LinesKept s t := by
  unfold execPorRelease at h
  split at h
  · injection h with h
    exact h ▸ ⟨id, id, id⟩
  · injection h with h
    exact h ▸ .refl s

theorem beginRestart_linesKept (p : Port) : LinesKept s (beginRestart p s) := by
  have abandoned : LinesKept s ((abandonCycle s).setWorkList []) :=
    ((setScannerWaiting_linesKept s false).trans (.of_frame (setScan_frame _ _))).trans (.of_frame (setWorkList_frame _ []))
  have begun : LinesKept s (restartBegun p s) := by
    refine abandoned.trans ⟨id, fun _ => ?_, id⟩
    exact ⟨fun _ => rfl, Nat.zero_le 5, fun _ => Nat.zero_le 4, .refl _⟩
  rw [beginRestart_eq]
  exact .ite begun (begun.trans (closeTenure_linesKept _))

theorem restartActuators_linesKept : LinesKept s (restartActuators s) := by
  have cleared : LinesKept s (actuatorsCleared s) := ⟨id, id, id⟩
  rw [restartActuators_eq]
  exact cleared.trans (LinesKept.foldl (fun u i => applyPolicy_linesKept u _ i) actIndices _)

theorem restartLink_linesKept : LinesKept s (restartLink s) := by
  have cleared : LinesKept s (s.setLink (clearedLink s)) := by
    refine .of_link (setLink_frame s _) fun ⟨hhcrst, htimer, _⟩ => ⟨hhcrst, htimer, fun hp => if_pos hp⟩
  rw [restartLink_eq]
  exact .ite (cleared.trans (.of_frame (reportActivity_frame _ none _ _))) cleared

theorem finishRestart_linesKept (p : Port) : LinesKept s (finishRestart p s) := by
  have cleared : LinesKept s (restartLink (restartActuators (restartNotices (restartPorts p s)))) :=
    (((LinesKept.of_frame (restartPorts_frame s p)).trans (.of_frame (restartNotices_frame _))).trans
      (restartActuators_linesKept _)).trans (restartLink_linesKept _)
  have scanned : ∀ u, LinesKept u (restartScan u) := fun u => by
    rw [restartScan_eq]
    exact .ite ((LinesKept.of_frame (restartedScan_frame u)).trans (startCycle_linesKept _ none))
      (.of_frame (restartedScan_frame u))
  exact (((cleared.trans (.of_frame (restartPoints_frame _))).trans (scanned _)).trans (restartClock_linesKept _)).trans
    (.of_frame (setRestart_frame _ _))

/-- A millisecond lowers the pulse and silence timers, and stops neither. -/
theorem tick_linesKept : LinesKept s (tick s) := by
  refine ⟨id, id, fun ⟨hhcrst, htimer, hsilence⟩ => ⟨hhcrst, ?_, fun hp => ?_⟩⟩
  · exact Option.isSome_map.trans htimer
  · show Timer.lower 1 s.link.silenceTimer = none
    rw [hsilence hp]
    rfl

end Sys2Proof.Machine
end

section
/-! PROOFS. Every step keeps the bus state, the arbiter and the pulse sound (O58). -/

set_option Elab.async false

namespace Sys2Proof.Machine

variable (s : State)

/-! ## Events and rows -/

theorem event_linesKept {e : Bool} {f : State → State} {s t : State} (h : event e f s = .next t) (hf : LinesKept s (f s)) :
    LinesKept s t := by
  rcases event_cases h with rfl | ⟨-, -, rfl⟩
  · exact .refl _
  · exact hf.trans (.of_frame (decideHreq_frame _))

theorem serve_linesKept {p : Port} {accept : Request → Bool} {f : Option Port → Request → State → Served} {s t : State}
    (h : serve p accept f s = .next t) (hf : ∀ d req s, LinesKept s (f d req s).1) : LinesKept s t := by
  rcases serve_cases h with rfl | ⟨req, -, -, rfl⟩
  · exact .refl _
  · exact (((LinesKept.of_frame (takeHead_frame s p)).trans (hf _ req _)).trans (.of_frame (finishService_frame p _))).trans
      (.of_frame (decideHreq_frame _))

/-- A request row whose service changes none of the bus, the arbiter and the hut link. -/
theorem serve_linesKept_of_frame {l : List Block} {p : Port} {accept : Request → Bool}
    {f : Option Port → Request → State → Served} {s t : State} (h : serve p accept f s = .next t)
    (hf : ∀ d req s, ChangesOnly l s (f d req s).1) (hb : Block.bus ∉ l := by decide) (ha : Block.arb ∉ l := by decide)
    (hl : Block.link ∉ l := by decide) : LinesKept s t :=
  serve_linesKept h fun d req s => .of_frame (hf d req s) hb ha hl

/-- A request row whose service changes nothing. -/
theorem serve_linesKept_of_read {p : Port} {accept : Request → Bool} {f : Option Port → Request → State → Served} {s t : State}
    (h : serve p accept f s = .next t) (hf : ∀ d req s, (f d req s).1 = s) : LinesKept s t :=
  serve_linesKept h fun d req s => by rw [hf]; exact .refl s

theorem execBeatEnd_linesKept {clock : Nat} {a e i : Bool} {x : Word16} {s t : State}
    (h : execBeatEnd clock a e i x s = .next t) : LinesKept s t := by
  unfold execBeatEnd at h
  split at h
  · exact event_linesKept h (.refl s)
  · next x hx =>
    split at h
    · exact event_linesKept h (.refl s)
    · exact event_linesKept h (endBeat_linesKept s _ _ _ _ _ _ hx)

theorem execBusRecoveryEnd_linesKept {s t : State} (h : execBusRecoveryEnd s = .next t) : LinesKept s t := by
  unfold execBusRecoveryEnd at h
  rcases event_cases h with rfl | ⟨-, he, rfl⟩
  · exact .refl _
  · refine LinesKept.trans (.of_bus (setBus_frame s _) fun hb => ?_) (.of_frame (decideHreq_frame _))
    have hr : s.bus.busState = .recovery := by simpa using he
    simpa [BusSound, hr] using hb

theorem execReservedGrant_linesKept {s t : State} (h : execReservedGrant s = .next t) : LinesKept s t := by
  unfold execReservedGrant at h
  split at h
  · exact event_linesKept h (.refl s)
  · rcases event_cases h with rfl | ⟨-, he, rfl⟩
    · exact .refl _
    · have hfirst : s.arb.locked = .first := by
        simp only [reservedReady, Bool.and_eq_true, decide_eq_true_eq] at he
        exact he.1.1.1
      have reserved : LinesKept s (s.setArb (reserve s.arb)) := by
        refine ⟨id, fun ⟨hzero, _, hfour, hperm⟩ => ⟨fun hw => ?_, ?_, nofun, hperm⟩, id⟩
        · have hw' : s.arb.waiting.scanner = false := hw
          show scannerWaitAfter s.arb .actuatorUnit = 0
          simp [scannerWaitAfter, hw', hzero hw']
        · show scannerWaitAfter s.arb .actuatorUnit ≤ 5
          have := hfour hfirst
          unfold scannerWaitAfter
          simp only []
          split <;> omega
      exact (reserved.trans (beginFeedback_linesKept _ _ _)).trans (.of_frame (decideHreq_frame _))

theorem execReadCompletion_linesKept {s t : State} (h : execReadCompletion s = .next t) : LinesKept s t := by
  unfold execReadCompletion at h
  split at h
  · exact event_linesKept h (.refl s)
  · exact event_linesKept h (completeRead_linesKept s _)

theorem execActuatorWriteCompletion_linesKept {s t : State} (h : execActuatorWriteCompletion s = .next t) :
    LinesKept s t := by
  unfold execActuatorWriteCompletion at h
  split at h
  · exact event_linesKept h (.refl s)
  · refine event_linesKept h ?_
    split
    · exact completeExchangeWrite_linesKept s _ _
    · exact completeItemWrite_linesKept s _ _

theorem execExchangeReadCompletion_linesKept {s t : State} (h : execExchangeReadCompletion s = .next t) : LinesKept s t := by
  unfold execExchangeReadCompletion at h
  split at h
  · exact event_linesKept h (.refl s)
  · exact event_linesKept h ((takeEnded_linesKept s).trans (finishExchange_linesKept _ _ _ _))

theorem execDirectTransferCompletion_linesKept {s t : State} (h : execDirectTransferCompletion s = .next t) :
    LinesKept s t := by
  unfold execDirectTransferCompletion at h
  split at h
  · exact event_linesKept h (.refl s)
  · split at h
    · exact event_linesKept h (completeDirect_linesKept s _ _)
    · exact event_linesKept h (.refl s)

theorem execSupervisionRestart_linesKept {s t : State} (h : execSupervisionRestart s = .next t) : LinesKept s t := by
  unfold execSupervisionRestart at h
  split at h
  · exact event_linesKept h (beginRestart_linesKept s _)
  · exact event_linesKept h (.refl s)

theorem execSupervisionRestartSteps_linesKept {s t : State} (h : execSupervisionRestartSteps s = .next t) : LinesKept s t := by
  unfold execSupervisionRestartSteps at h
  split at h
  · exact event_linesKept h (finishRestart_linesKept s _)
  · exact event_linesKept h (.refl s)

theorem execLeaseExpiry_linesKept {i : Nat} {s t : State} (h : execLeaseExpiry i s = .next t) : LinesKept s t := by
  unfold execLeaseExpiry at h
  split at h
  · exact event_linesKept h (takeExpiry_linesKept s _)
  · exact event_linesKept h (.refl s)

theorem execRefreshTimerExpiry_linesKept {i : Nat} {s t : State} (h : execRefreshTimerExpiry i s = .next t) :
    LinesKept s t := by
  unfold execRefreshTimerExpiry at h
  split at h
  · exact event_linesKept h ((LinesKept.of_frame (restartRefresh_frame s _)).trans (queueRefresh_linesKept _ _))
  · exact event_linesKept h (.refl s)

theorem execReferralTimeout_linesKept {k : Nat} {s t : State} (h : execReferralTimeout k s = .next t) : LinesKept s t := by
  unfold execReferralTimeout at h
  split at h
  · exact event_linesKept h (answerNoAnswer_linesKept s _)
  · exact event_linesKept h (.refl s)

theorem execSilenceTimerExpiry_linesKept {s t : State} (h : execSilenceTimerExpiry s = .next t) : LinesKept s t := by
  have stopped : LinesKept s (s.setLink { s.link with silenceTimer := none, silence := true }) :=
    .of_link (setLink_frame s _) fun ⟨hhcrst, htimer, _⟩ => ⟨hhcrst, htimer, fun _ => rfl⟩
  exact event_linesKept h (stopped.trans (.of_frame (reportActivity_frame _ none _ true)))

/-! ## Every command -/

theorem exec_linesKept {c : Instr} {s t : State} (h : exec c s = .next t) : LinesKept s t := by
  cases c with
  | powerOnReset => exact powerOnReset_linesKept h
  | porRelease a b => exact porRelease_linesKept h
  | routeFrameComplete r b => exact event_linesKept h (.of_frame (takeByte_route_frame s r b))
  | interByteTimeout r => exact event_linesKept h (.of_frame (setReceiver_frame s _ _))
  | framingError r => exact event_linesKept h (.of_frame (setReceiver_frame s _ _))
  | chipSelectRelease m n => exact event_linesKept h (releaseChipSelect_linesKept s m n)
  | linkTimeout r => exact event_linesKept h (linkDown_linesKept s r)
  | frameSent p => exact event_linesKept h (sendHead_linesKept s p)
  | definePoint p => exact serve_linesKept h fun d req s => serveDefinePoint_linesKept s d req
  | setLimits p => exact serve_linesKept h fun d req s => serveSetLimits_linesKept s d req
  | undefinePoint p => exact serve_linesKept h fun d req s => serveUndefinePoint_linesKept s d req
  | readPoint p => exact serve_linesKept_of_read h fun d req s => serveReadPoint_fst s d req
  | readPoints p => exact serve_linesKept_of_read h fun d req s => serveReadPoints_fst s d req
  | findTag p => exact serve_linesKept_of_read h fun d req s => serveFindTag_fst s d req
  | forcePoint p => exact serve_linesKept h fun d req s => serveForcePoint_linesKept s p d req
  | unforcePoint p => exact serve_linesKept h fun d req s => serveUnforcePoint_linesKept s p d req
  | clearAsserted p => exact serve_linesKept h fun d req s => serveClearAsserted_linesKept s p d req
  | startScan => exact serve_linesKept h fun d req s => serveStartScan_linesKept s d req
  | stopScan => exact serve_linesKept h fun d req s => serveStopScan_linesKept s d req
  | setScanPeriod p => exact serve_linesKept_of_frame h fun d req s => setScan_frame s _
  | scanAdd p => exact serve_linesKept h fun d req s => serveScanAdd_linesKept s d req
  | scanRemove p => exact serve_linesKept h fun d req s => serveScanRemove_linesKept s d req
  | readScanList p => exact serve_linesKept_of_read h fun _ _ _ => rfl
  | setModuleClass p => exact serve_linesKept h fun d req s => serveSetModuleClass_linesKept s d req
  | assignModuleClass p => exact serve_linesKept h fun d req s => serveAssignModuleClass_linesKept s d req
  | readModuleClasses p => exact serve_linesKept_of_read h fun _ _ _ => rfl
  | readModule p => exact serve_linesKept h fun d req s => serveDirect_linesKept s p d req
  | writeModule p => exact serve_linesKept h fun d req s => serveDirect_linesKept s p d req
  | setEconomy => exact serve_linesKept h fun d req s => serveSetEconomy_linesKept s d req
  | ackNotice p => exact serve_linesKept_of_frame h fun d req s => serveAckNotice_frame s p d req
  | post p => exact serve_linesKept_of_frame h fun d req s => servePost_frame s p d req
  | unpost p => exact serve_linesKept_of_frame h fun d req s => serveUnpost_frame s p d req
  | setGroupThreshold p => exact serve_linesKept_of_frame h fun d req s => serveSetGroupThreshold_frame s d req
  | fetchNotice p => exact serve_linesKept_of_frame h fun d req s => serveFetchNotice_frame s p d req
  | fetchNoticeIdentity p => exact serve_linesKept_of_read h fun d req s => serveFetchNoticeIdentity_fst s p d req
  | setLevel p => exact serve_linesKept_of_frame h fun d req s => serveSetLevel_frame s p d req
  | readSummary p => exact serve_linesKept_of_frame h fun d req s => serveReadSummary_frame s p d req
  | defineActuator p => exact serve_linesKept h fun d req s => serveDefineActuator_linesKept s d req
  | undefineActuator p => exact serve_linesKept h fun d req s => serveUndefineActuator_linesKept s d req
  | readActuator p => exact serve_linesKept h fun d req s => serveReadActuator_linesKept s d req
  | claim p =>
    exact serve_linesKept h fun d req s => serveActuator_linesKept s p _ _ req _ fun i u => takeClaim_linesKept u i p _
  | release p =>
    exact serve_linesKept h fun d req s => serveActuator_linesKept s p _ _ req _ fun i u => endClaim_linesKept u _ i
  | command p =>
    exact serve_linesKept h fun d req s => serveActuator_linesKept s p _ _ req _ fun i u => queueItem_linesKept u i _ _
  | exchange p =>
    exact serve_linesKept h fun d req s => serveActuator_linesKept s p _ _ req _ fun i u =>
      (takeClaim_linesKept u i p _).trans (queueItem_linesKept _ i _ _)
  | takeReferral => exact serve_linesKept h fun d req s => serveTakeReferral_linesKept s d req
  | answerReferral => exact serve_linesKept h fun d req s => serveAnswerReferral_linesKept s d req
  | referral r => exact serve_linesKept h fun d req s => serveReferral_linesKept s r d req
  | restartHutController r => exact serve_linesKept h fun d req s => serveRestartHut_linesKept s r d req
  | setPermissions => exact serve_linesKept_of_frame h fun d req s => serveSetPermissions_frame s d req
  | setSitePoints => exact serve_linesKept h fun d req s => serveSetSitePoints_linesKept s d req
  | identify p => exact serve_linesKept_of_read h fun _ _ _ => rfl
  | restartSupervision p => exact serve_linesKept_of_read h fun _ _ _ => rfl
  | supervisionRestart => exact execSupervisionRestart_linesKept h
  | supervisionRestartSteps => exact execSupervisionRestartSteps_linesKept h
  | freeGrant => exact event_linesKept h (freeGrant_linesKept s)
  | reservedGrant => exact execReservedGrant_linesKept h
  | beatEnd c a e i x => exact execBeatEnd_linesKept h
  | busRecoveryEnd => exact execBusRecoveryEnd_linesKept h
  | readCompletion => exact execReadCompletion_linesKept h
  | periodTimerExpiry => exact event_linesKept h (periodExpired_linesKept s)
  | handoverBegin => exact .of_frame (execHandoverBegin_frame h)
  | handoverEnd => exact event_linesKept h (enterClock_linesKept s)
  | actuatorWriteCompletion => exact execActuatorWriteCompletion_linesKept h
  | exchangeReadCompletion => exact execExchangeReadCompletion_linesKept h
  | directTransferCompletion => exact execDirectTransferCompletion_linesKept h
  | secondTick => exact .of_frame (execSecondTick_frame h)
  | leaseExpiry i => exact execLeaseExpiry_linesKept h
  | refreshTimerExpiry i => exact execRefreshTimerExpiry_linesKept h
  | referralTimeout k => exact execReferralTimeout_linesKept h
  | pulseTimerExpiry => exact execPulseTimerExpiry_linesKept h
  | silenceTimerExpiry => exact execSilenceTimerExpiry_linesKept h
  | rxdByte r b => exact event_linesKept h (.of_frame (takeByte_route_frame s r b))

/-- Settles O58: every command keeps each of the three invariants, and so does the passing of a millisecond. -/
theorem busArbiterAndPulseStaySound : Obligations.BusArbiterAndPulseStaySound := by
  intro s t h
  have kept : LinesKept s t := by
    unfold step at h
    split at h
    · injection h with h
      subst h
      exact .ite (.refl s) (tick_linesKept s)
    · next c rest _ => exact LinesKept.trans (t := { s with pending := rest }) ⟨id, id, id⟩ (exec_linesKept h)
  exact ⟨kept.bus, kept.arbiter, kept.pulse⟩

end Sys2Proof.Machine
end

section
/-! PROOFS. The requests for module classes (O26). -/

set_option Elab.async false

namespace Sys2Proof.Machine

/-! ## The fields of the requests (R183, R184) -/

theorem natByte_toNat (b : Byte) : natByte b.toNat = b := by simp [natByte]

theorem modIxOf_some {b : Byte} {m : ModIx} (h : b.toNat = m.val) : modIxOf b = some m := by
  simp [modIxOf, h]

theorem modIxOf_none {b : Byte} (h : 127 < b.toNat) : modIxOf b = none := dif_neg (by omega)

theorem classIxOf_some {b : Byte} {k : ClassIx} (h : b.toNat = k.val) : classIxOf b = some k := by
  simp [classIxOf, h]

theorem classIxOf_none {b : Byte} (h : 7 < b.toNat) : classIxOf b = none := dif_neg (by omega)

theorem busWidthOf_some {b : Byte} (h : b = 8 ∨ b = 16) : busWidthOf b = some (if b = 8 then .w8 else .w16) := by
  rcases h with rfl | rfl <;> rfl

theorem busWidthOf_none {b : Byte} (h8 : b ≠ 8) (h16 : b ≠ 16) : busWidthOf b = none := by
  unfold busWidthOf
  split
  · next h => exact absurd (BitVec.eq_of_toNat_eq h) h8
  · next h => exact absurd (BitVec.eq_of_toNat_eq h) h16
  · rfl

theorem byte_le_one {b : Byte} (h : b.toNat ≤ 1) : b = 0 ∨ b = 1 := by
  have : b.toNat = 0 ∨ b.toNat = 1 := by omega
  exact this.imp BitVec.eq_of_toNat_eq BitVec.eq_of_toNat_eq

theorem lineReadsOf_some {b : Byte} (h : b.toNat ≤ 1) : lineReadsOf b = some (decide (b = 1)) := by
  rcases byte_le_one h with rfl | rfl <;> rfl

theorem lineReadsOf_none {b : Byte} (h : 1 < b.toNat) : lineReadsOf b = none := by
  unfold lineReadsOf
  split
  · omega
  · omega
  · rfl

/-! ## The class record that SET MODULE CLASS carries (R75) -/

theorem classRecordOf_some {b : List Byte} (hw : byteAt b 1 = 8 ∨ byteAt b 1 = 16) (hs : (byteAt b 2).toNat ≤ 15)
    (ht : (byteAt b 3).toNat ≠ 0) (hr : (byteAt b 4).toNat ≤ 7) (hl : (byteAt b 5).toNat ≤ 1) :
    classRecordOf b = some ⟨if byteAt b 1 = 8 then .w8 else .w16, (byteAt b 2).toNat, (byteAt b 3).toNat, (byteAt b 4).toNat,
      decide (byteAt b 5 = 1)⟩ := by
  simp [classRecordOf, busWidthOf_some hw, lineReadsOf_some hl, hs, ht, hr]

theorem classRecordOf_none {b : List Byte} (h : (byteAt b 1 ≠ 8 ∧ byteAt b 1 ≠ 16) ∨ 15 < (byteAt b 2).toNat
    ∨ (byteAt b 3).toNat = 0 ∨ 7 < (byteAt b 4).toNat ∨ 1 < (byteAt b 5).toNat) : classRecordOf b = none := by
  rcases h with ⟨h8, h16⟩ | h
  · simp [classRecordOf, busWidthOf_none h8 h16]
  · unfold classRecordOf
    cases busWidthOf (byteAt b 1) with
    | none => rfl
    | some w =>
      by_cases hl : 1 < (byteAt b 5).toNat
      · simp [lineReadsOf_none hl]
      · have hn : ¬ ((byteAt b 2).toNat ≤ 15 ∧ (byteAt b 3).toNat ≠ 0 ∧ (byteAt b 4).toNat ≤ 7) := by omega
        simp [if_neg hn]

/-- A record is sent as the bytes that it was read from. -/
theorem classBytes_of_fields {w s t r l : Byte} (hw : w = 8 ∨ w = 16) (hl : l.toNat ≤ 1) :
    classBytes ⟨if w = 8 then .w8 else .w16, s.toNat, t.toNat, r.toNat, decide (l = 1)⟩ = [w, s, t, r, l] := by
  have hwidth : BusWidth.code (if w = 8 then .w8 else .w16) = w := by rcases hw with rfl | rfl <;> rfl
  have hline : boolByte (decide (l = 1)) = l := by rcases byte_le_one hl with rfl | rfl <;> rfl
  simp only [classBytes, natByte_toNat, hwidth, hline]

/-! ## The three requests (R75 to R77) -/

section requests
variable {s : State} {p : Port} {req : Request}

theorem setModuleClass_refused (h : Asked .setModuleClass p s req)
    (hf : classIxOf (byteAt req.body 0) = none ∨ classRecordOf req.body = none) :
    AnswersOnly (.setModuleClass p) p req .outOfRange [] s := by
  refine answersOnly_of_kind h (by decide) rfl ?_
  unfold serveSetModuleClass
  split
  · next hk hc => rcases hf with hf | hf <;> simp_all
  · rfl

theorem setModuleClass_accepted (h : Asked .setModuleClass p s req) {k : ClassIx} {c : ClassRecord}
    (hk : classIxOf (byteAt req.body 0) = some k) (hc : classRecordOf req.body = some c) :
    ∃ t, exec (.setModuleClass p) s = .next t ∧ Answered p req .ok (natByte k.val :: classBytes c) s t
      ∧ ChangesOnly [.bus, .ports, .routes, .hreq] s t
      ∧ t.bus = { s.bus with classes := s.bus.classes.set k.val c k.isLt } := by
  have hserve : serveSetModuleClass (some p) req (takeHead p s)
      = ((takeHead p s).setBus { s.bus with classes := s.bus.classes.set k.val c k.isLt },
        some ⟨.ok, natByte k.val :: classBytes c⟩) := by
    simp only [serveSetModuleClass, hk, hc, takeHead_bus, answer]
  obtain ⟨t, ht, hans, hframe⟩ := serve_answered_of_kind h (by decide) hserve (setBus_frame _ _)
  exact ⟨t, ht, hans, ((takeHead_frame s p).comp (setBus_frame _ _) (n := [.ports, .bus])).comp hframe, hframe.bus⟩

theorem assignModuleClass_refused (h : Asked .assignModuleClass p s req)
    (hf : modIxOf (byteAt req.body 0) = none ∨ classIxOf (byteAt req.body 1) = none) :
    AnswersOnly (.assignModuleClass p) p req .outOfRange [] s := by
  refine answersOnly_of_kind h (by decide) rfl ?_
  unfold serveAssignModuleClass
  split
  · next hm hk => rcases hf with hf | hf <;> simp_all
  · rfl

theorem assignModuleClass_accepted (h : Asked .assignModuleClass p s req) {m : ModIx} {k : ClassIx}
    (hm : modIxOf (byteAt req.body 0) = some m) (hk : classIxOf (byteAt req.body 1) = some k) :
    ∃ t, exec (.assignModuleClass p) s = .next t ∧ Answered p req .ok [natByte m.val, natByte k.val] s t
      ∧ ChangesOnly [.bus, .ports, .routes, .hreq] s t ∧ t.bus = { s.bus with map := s.bus.map.set m.val k m.isLt } := by
  have hserve : serveAssignModuleClass (some p) req (takeHead p s)
      = ((takeHead p s).setBus { s.bus with map := s.bus.map.set m.val k m.isLt },
        some ⟨.ok, [natByte m.val, natByte k.val]⟩) := by
    simp only [serveAssignModuleClass, hm, hk, takeHead_bus, answer]
  obtain ⟨t, ht, hans, hframe⟩ := serve_answered_of_kind h (by decide) hserve (setBus_frame _ _)
  exact ⟨t, ht, hans, ((takeHead_frame s p).comp (setBus_frame _ _) (n := [.ports, .bus])).comp hframe, hframe.bus⟩

end requests

/-- Settles O26: each field is read as R75 and R76 bound it, and the accepted class or map entry alone is replaced. -/
theorem moduleClassesServed : Obligations.ModuleClassesServed := by
  intro p s req b hb
  subst hb
  refine ⟨fun h => ⟨fun hf => setModuleClass_refused h (hf.imp classIxOf_none classRecordOf_none),
      fun k hk hw hs ht hr hl => ?_⟩, fun h => ⟨fun hf => assignModuleClass_refused h (hf.imp modIxOf_none classIxOf_none),
      fun m k hm hk => ?_⟩, fun h => answersOnly_of_kind h (by decide) rfl ?_⟩
  · obtain ⟨t, ht, hans, hframe, hbus⟩ :=
      setModuleClass_accepted h (classIxOf_some hk) (classRecordOf_some hw hs ht hr hl)
    rw [classBytes_of_fields hw hl, ← hk, natByte_toNat] at hans
    refine ⟨t, ht, hans, hframe, by rw [hbus], ?_, fun j hj => ?_⟩
    · rw [hbus, get_set_vector, if_pos rfl]
    · rw [hbus, get_set_vector, if_neg hj]
  · obtain ⟨t, ht, hans, hframe, hbus⟩ := assignModuleClass_accepted h (modIxOf_some hm) (classIxOf_some hk)
    rw [← hm, ← hk, natByte_toNat, natByte_toNat] at hans
    refine ⟨t, ht, hans, hframe, by rw [hbus], ?_, fun j hj => ?_⟩
    · rw [hbus, get_set_vector, if_pos rfl]
    · rw [hbus, get_set_vector, if_neg hj]
  · simp only [serveReadModuleClasses, answer, takeHead_bus, takeHead_clock]
    rfl

end Sys2Proof.Machine
end

section
/-! PROOFS. The checks of READ MODULE and WRITE MODULE (O27). -/

set_option Elab.async false

namespace Sys2Proof.Machine

/-! ## Check 1 of R78: the fields -/

theorem directWidthOf_code (w : DirectWidth) : directWidthOf w.code = some w := by cases w <;> rfl

theorem directWidthOf_none {b : Byte} (h : 2 < b.toNat) : directWidthOf b = none := by
  unfold directWidthOf
  split
  · omega
  · omega
  · omega
  · rfl

theorem readJobOf_some {b : List Byte} {m : ModIx} {w : DirectWidth} (hm : (byteAt b 0).toNat = m.val)
    (hw : byteAt b 2 = w.code) : readJobOf b = some ⟨m, byteAt b 1, w, none⟩ := by
  simp [readJobOf, modIxOf_some hm, hw, directWidthOf_code]

theorem readJobOf_none {b : List Byte} (h : 127 < (byteAt b 0).toNat ∨ 2 < (byteAt b 2).toNat) : readJobOf b = none := by
  rcases h with h | h
  · simp [readJobOf, modIxOf_none h]
  · simp [readJobOf, directWidthOf_none h]

theorem writeJobOf_some {b : List Byte} {m : ModIx} {w : DirectWidth} (hm : (byteAt b 0).toNat = m.val)
    (hw : byteAt b 2 = w.code) (hl : w ≠ .line) (hv : w = .byte → (word16At b 3).toNat ≤ 255) :
    writeJobOf b = some ⟨m, byteAt b 1, w, some (word16At b 3)⟩ := by
  have hfit : ¬ (w = .line ∨ w = .byte ∧ 255 < (word16At b 3).toNat) := by
    rintro (h | ⟨h, hgt⟩)
    · exact hl h
    · exact absurd (hv h) (by omega)
  simp [writeJobOf, modIxOf_some hm, hw, directWidthOf_code, hfit]

theorem writeJobOf_unfit {b : List Byte} (h : ∀ w, directWidthOf (byteAt b 2) = some w →
    w = .line ∨ w = .byte ∧ 255 < (word16At b 3).toNat) : writeJobOf b = none := by
  unfold writeJobOf
  cases modIxOf (byteAt b 0) with
  | none => rfl
  | some m =>
    cases hw : directWidthOf (byteAt b 2) with
    | none => rfl
    | some w => exact if_pos (h w hw)

theorem writeJobOf_none {b : List Byte} (h : 127 < (byteAt b 0).toNat ∨ 1 < (byteAt b 2).toNat
    ∨ (byteAt b 2).toNat = 0 ∧ 255 < (word16At b 3).toNat) : writeJobOf b = none := by
  rcases h with h | h
  · simp [writeJobOf, modIxOf_none h]
  · refine writeJobOf_unfit fun w hw => ?_
    unfold directWidthOf at hw
    split at hw
    · exact .inr ⟨(Option.some.inj hw).symm, by omega⟩
    · omega
    · exact .inl (Option.some.inj hw).symm
    · cases hw

/-! ## Check 2 of R78: the direct window -/

theorem windowAdmits_iff {s : State} {p : Port} {m : ModIx} : windowAdmits s p m = true ↔ InWindow s p m := by
  unfold windowAdmits InWindow
  cases hr : routeOf p with
  | none =>
    have hp : p = .hut := by
      cases p with
      | hut => rfl
      | east => cases hr
      | west => cases hr
    simp [hp]
  | some r =>
    have hp : p ≠ .hut := fun h => by rw [h] at hr; cases hr
    cases hw : (s.route r).window with
    | none => simp [hp, hw]
    | some x =>
      obtain ⟨f, l⟩ := x
      simp [hp, hw]

/-! ## Check 3 of R78: the address -/

theorem addressable_word {c : ClassRecord} {o : Byte} : addressable c.width .word o = true
    ↔ (c.width = .w8 ∧ o.toNat ≠ 255) ∨ (c.width = .w16 ∧ o.toNat % 2 = 0) := by
  cases hw : c.width <;> simp [addressable, isOdd]

theorem composeRead_isSome {s : State} {who : Requester} {m : ModIx} {w : Width} {o : Byte} :
    (composeRead s who m w o).isSome = addressable (s.classOf m).width w o := by
  unfold composeRead
  split <;> simp [*]

theorem composeWrite_isSome {s : State} {who : Requester} {m : ModIx} {w : Width} {o : Byte} {v : Word16} :
    (composeWrite s who m w o v).isSome = addressable (s.classOf m).width w o := by
  unfold composeWrite
  split <;> simp [*]

/-- The address of a transfer can be served exactly where its transaction can be composed (R79, R80). -/
theorem composeDirect_isSome_iff {s : State} {p : Port} {j : DirectJob} : (composeDirect s p j).isSome = true
    ↔ Servable (s.classOf j.modAddr) j.width j.offset j.value.isSome := by
  obtain ⟨m, o, w, v⟩ := j
  cases v with
  | none =>
    cases w with
    | byte => simp [composeDirect, composeRead_isSome, addressable, Servable]
    | word => simp [composeDirect, composeRead_isSome, addressable_word, Servable]
    | line => simp [composeDirect, Servable, isOdd]
  | some v =>
    cases w with
    | byte => simp [composeDirect, composeWrite_isSome, addressable, Servable]
    | word => simp [composeDirect, composeWrite_isSome, addressable_word, Servable]
    | line => simp [composeDirect, Servable]

/-! ## The checks in order (R78, R84, R174) -/

theorem takeHead_windowAdmits {s : State} {p : Port} {m : ModIx} :
    windowAdmits (takeHead p s) p m = windowAdmits s p m := by
  simp only [windowAdmits, takeHead_route]

theorem takeHead_composeDirect {s : State} {p : Port} {j : DirectJob} :
    composeDirect (takeHead p s) p j = composeDirect s p j := by
  unfold composeDirect
  simp only [composeRead_congr (takeHead_bus s p), composeWrite, composeLine, newTransaction, State.classOf,
    State.classNoOf, takeHead_bus]
  rfl

section requests
variable {s : State} {p : Port} {req : Request} {c : Instr} {k : Kind}

theorem direct_refused (h : Asked k p s req) (hk : k ≠ .restartSupervision)
    (hc : exec c s = serve p (ofKind k) (serveDirect p) s) (hj : jobOf req = none) : AnswersOnly c p req .outOfRange [] s :=
  answersOnly_of_kind h hk hc (by simp only [serveDirect, hj]; rfl)

/-- The rows of R78 after check 1. -/
theorem direct_checked (h : Asked k p s req) (hk : k ≠ .restartSupervision)
    (hc : exec c s = serve p (ofKind k) (serveDirect p) s) {j : DirectJob} (hj : jobOf req = some j) :
    (¬ InWindow s p j.modAddr → AnswersOnly c p req .portProtected [] s)
    ∧ (InWindow s p j.modAddr → ¬ Servable (s.classOf j.modAddr) j.width j.offset j.value.isSome →
      AnswersOnly c p req .outOfRange [] s)
    ∧ (InWindow s p j.modAddr → Servable (s.classOf j.modAddr) j.width j.offset j.value.isSome → DirectPlaced c p req s) := by
  have hserve : ∀ d, serveDirect p d req (takeHead p s)
      = if !windowAdmits s p j.modAddr then refuse (takeHead p s) .portProtected
        else if (composeDirect s p j).isNone then refuse (takeHead p s) .outOfRange
        else (setDirectWaiting p true (takeHead p s), none) := fun d => by
    simp only [serveDirect, hj, takeHead_windowAdmits, takeHead_composeDirect]
  rw [← windowAdmits_iff, ← composeDirect_isSome_iff (p := p)]
  refine ⟨fun hw => answersOnly_of_kind h hk hc ?_, fun hw ha => answersOnly_of_kind h hk hc ?_, fun hw ha => ?_⟩
  · simp [hserve, hw, refuse, bare]
  · simp [hserve, hw, Option.not_isSome_iff_eq_none.1 ha, refuse, bare]
  · have hplaced : ∀ d, serveDirect p d req (takeHead p s) = (setDirectWaiting p true (takeHead p s), none) := fun d => by
      simp [hserve, hw, Option.isSome_iff_ne_none.1 ha]
    obtain ⟨t, ht, hhold, hframe⟩ := serve_held h.1.toTaken (ofKind_of_asked h) hplaced
      (setDirectWaiting_frame _ p true).ports ((setDirectWaiting_frame _ p true).routes.trans (takeHead_frame s p).routes)
    refine ⟨t, hc.trans ht, hhold,
      ((takeHead_frame s p).comp (setDirectWaiting_frame _ p true) (n := [.arb, .ports])).comp hframe, ?_⟩
    rw [hframe.arb]
    simp only [setDirectWaiting, setArb_arb, takeHead_arb]

theorem jobOf_read (h : Asked .readModule p s req) : jobOf req = readJobOf req.body := by simp only [jobOf, h.2]

theorem jobOf_write (h : Asked .writeModule p s req) : jobOf req = writeJobOf req.body := by simp only [jobOf, h.2]

end requests

/-- Settles O27: the fields give the transfer, or none where check 1 refuses it; then the rows of R78 follow in order. -/
theorem directRequestsChecked : Obligations.DirectRequestsChecked := by
  intro p s req b hb
  subst hb
  refine ⟨fun h => ⟨fun hf => direct_refused h (by decide) rfl ((jobOf_read h).trans (readJobOf_none hf)),
      fun m w hm hw => direct_checked h (by decide) rfl ((jobOf_read h).trans (readJobOf_some hm hw))⟩,
    fun h => ⟨fun hf => direct_refused h (by decide) rfl ((jobOf_write h).trans (writeJobOf_none hf)),
      fun m w hm hw hl hv => direct_checked h (by decide) rfl ((jobOf_write h).trans (writeJobOf_some hm hw hl hv))⟩⟩

end Sys2Proof.Machine
end

section
/-! PROOFS. The end of a beat, of a transaction and of a recovery (O28). -/

set_option Elab.async false

namespace Sys2Proof.Machine

variable (s : State)

/-! ## The lines of the point bus (R61, R65, R67, R68) -/

theorem busLines_idle {s : State} (h : s.bus.inFlight = none) (clock : Nat) : busLines s clock = .released := by
  simp only [busLines, h]

theorem busLines_beat {s : State} {x : Transaction} {c : Beat} (h : s.bus.inFlight = some x) (hc : x.beats[x.pos]? = some c)
    (clock : Nat) : busLines s clock = if gapBefore x ∧ clock = 0 then .released
      else ⟨some x.modAddr, c.addr, c.data, true, c.data.isSome⟩ := by
  simp only [busLines, h, hc]

/-- After the first beat a gap clock stands before every beat but those of a line under one strobe. -/
theorem gapBefore_later {x : Transaction} (h : 0 < x.pos) :
    gapBefore x = true ↔ ¬ (x.kind = .lineRead ∧ x.inhibited = false) := by
  simp [gapBefore, h, imp_iff_not_or]

/-! ## The tenure closed with its results (R87, R89, R138, R157) -/

/-- The Actuator Unit asks for the bus while items remain (R138). -/
theorem requestActuator_asks {s : State} (h : s.arb.tenure ≠ some .actuatorUnit) : (requestActuator s).arb
    = { s.arb with waiting := { s.arb.waiting with
        actuatorUnit := s.arb.waiting.actuatorUnit || decide (s.acts.workList ≠ []) } } := by
  unfold requestActuator
  by_cases hw : s.acts.workList = []
  · simp [hw]
  · simp [hw, h]

theorem dropRunning_none {s : State} (h : s.acts.running = none) : dropRunning s = s := by simp only [dropRunning, h]

theorem dropRunning_some {s : State} {y : RunningItem} (h : s.acts.running = some y) :
    dropRunning s = (setInFlight y.item.target .no s).setRunning none := by simp only [dropRunning, h]

theorem dropRunning_moments : (dropRunning s).acts.moments = s.acts.moments := by
  unfold dropRunning
  split <;> rfl

/-- The actuator of the item given up is no longer in flight, and no other entry changes (R157). -/
theorem dropRunning_actuator (i : ActIx) : (∀ y, s.acts.running = some y →
      (dropRunning s).actuator y.item.target = { s.actuator y.item.target with inFlight := .no })
    ∧ ((∀ y, s.acts.running = some y → y.item.target ≠ i) → (dropRunning s).actuator i = s.actuator i) := by
  have running : ∀ y, s.acts.running = some y → ∀ a, (dropRunning s).actuator a
      = if a = y.item.target then { s.actuator y.item.target with inFlight := .no } else s.actuator a := fun y hy a => by
    rw [dropRunning_some hy]
    exact setActuator_actuator s _ a _
  refine ⟨fun y hy => by rw [running y hy, if_pos rfl], fun h => ?_⟩
  cases hr : s.acts.running with
  | none => rw [dropRunning_none hr]
  | some y => rw [running y hr, if_neg (h y hr).symm]

/-- The state in which a closed tenure leaves the unit's item to be given up. -/
def tenureClosed (s : State) : State :=
  ((takeEnded s).setArb { s.arb with tenure := none, locked := .closed }).setScan { s.scan with inFlight := none }

theorem closeTenure_eq : closeTenure s = requestActuator (dropRunning (tenureClosed s)) := rfl

theorem closeTenure_acts : (closeTenure s).acts = (dropRunning (tenureClosed s)).acts := by
  rw [closeTenure_eq, requestActuator_acts]

theorem closeTenure_actuator (i : ActIx) : (closeTenure s).actuator i = (dropRunning (tenureClosed s)).actuator i := by
  simp only [State.actuator, closeTenure_acts]

theorem closeTenure_bus : (closeTenure s).bus = { s.bus with ended := none } := by
  rw [closeTenure_eq, (requestActuator_frame _).bus, (dropRunning_frame _).bus]
  rfl

theorem closeTenure_scan : (closeTenure s).scan = { s.scan with inFlight := none } := by
  rw [closeTenure_eq, (requestActuator_frame _).scan, (dropRunning_frame _).scan]
  rfl

theorem closeTenure_arb : (closeTenure s).arb = { s.arb with
    tenure := none
    locked := .closed
    waiting := { s.arb.waiting with
      actuatorUnit := s.arb.waiting.actuatorUnit || decide (s.acts.workList ≠ []) } } := by
  have harb : (dropRunning (tenureClosed s)).arb = { s.arb with tenure := none, locked := .closed } :=
    (dropRunning_frame _).arb
  have hwork : (dropRunning (tenureClosed s)).acts.workList = s.acts.workList := (dropRunning_acts _).1
  rw [closeTenure_eq, requestActuator_asks (by rw [harb]; nofun), harb, hwork]

/-! ## The end of a transaction (R64, R68, R89) -/

/-- The bus after a transaction has ended, before its results are taken or discarded. -/
def recovering (x : Transaction) (s : State) : State := s.setBus { s.bus with
  inFlight := none
  ended := some x
  busState := if x.cls.recovery = 0 then .idle else .recovery
  recovery := x.cls.recovery }

theorem endTransaction_eq (x : Transaction) : endTransaction x s
    = if restartRunning s then closeTenure (recovering x s) else recovering x s := rfl

theorem endTransaction_inFlight (x : Transaction) : (endTransaction x s).bus.inFlight = none := by
  rw [endTransaction_eq]
  split
  · rw [closeTenure_bus]
    rfl
  · rfl

theorem closeTenure_discards (x : Transaction) : ResultsDiscarded x s (decideHreq (closeTenure (recovering x s))) := by
  have hhreq := decideHreq_frame (closeTenure (recovering x s))
  have hframe : ChangesOnly [.bus, .arb, .scan, .acts] s (closeTenure (recovering x s)) :=
    (setBus_frame s _).comp (closeTenure_frame _)
  have hdropped := dropRunning_acts (tenureClosed (recovering x s))
  refine ⟨hframe.comp hhreq, ?_, ?_, ?_, ?_, ?_, ?_, fun y hy => ?_, fun i hi => ?_⟩
  · rw [hhreq.bus, closeTenure_bus]
    rfl
  · rw [hhreq.arb, closeTenure_arb]
    rfl
  · rw [hhreq.scan, closeTenure_scan]
    rfl
  · rw [hhreq.acts, closeTenure_acts, hdropped.1]
    rfl
  · rw [hhreq.acts, closeTenure_acts, hdropped.2]
  · rw [hhreq.acts, closeTenure_acts, dropRunning_moments]
    rfl
  · rw [hhreq.actuator, closeTenure_actuator]
    exact (dropRunning_actuator _ y.item.target).1 y hy
  · rw [hhreq.actuator, closeTenure_actuator]
    exact (dropRunning_actuator _ i).2 hi

/-- A transaction ends, and a restart that waits for it discards its results. -/
theorem endTransaction_endsAs (x : Transaction) : EndsAs x s (decideHreq (endTransaction x s)) := by
  refine ⟨fun hn => ?_, fun p hp => ?_, fun clock => busLines_idle ?_ clock⟩
  · have hr : restartRunning s = false := by
      unfold restartRunning
      split
      · next p hp => exact absurd hp (hn p)
      · rfl
    rw [endTransaction_eq, hr]
    exact ⟨(setBus_frame s _).comp (decideHreq_frame _), rfl⟩
  · have hr : restartRunning s = true := by simp only [restartRunning, hp]
    rw [endTransaction_eq, hr]
    exact closeTenure_discards s x
  · rw [(decideHreq_frame _).bus, endTransaction_inFlight]

/-! ## The beat (R66, R67, R71, R72) -/

/-- What has been delivered after an answered beat (R66, R71). -/
def deliveredAfter (x : Transaction) (b : Beat) (data : Word16) : List (Nat × Word16) :=
  if b.data = none ∧ b.addr ∈ x.needed then x.delivered ++ [(b.addr, takenData x.cls.width data)] else x.delivered

/-- The beats of a line whose module has declined the burst: the first, then those of the needed words (R72). -/
def neededBeats (x : Transaction) (b : Beat) : List Beat := b :: (x.beats.drop 1).filter fun c => decide (c.addr ∈ x.needed)

section beat
variable {s} {x : Transaction} {b : Beat} {inhibit : Bool} {data : Word16}

theorem answeredBeat_plain (h : x.kind ≠ .lineRead ∨ x.pos ≠ 0 ∨ inhibit = false) : answeredBeat x b inhibit data
    = { x with answered := x.answered + 1, delivered := deliveredAfter x b data } :=
  if_neg fun ⟨hk, hp, hi⟩ => h.elim (· hk) fun h => h.elim (· hp) fun h => by simp [h] at hi

theorem answeredBeat_declined (hk : x.kind = .lineRead) (hp : x.pos = 0) : answeredBeat x b true data
    = { x with answered := x.answered + 1, delivered := deliveredAfter x b data, inhibited := true, beats := neededBeats x b } :=
  if_pos ⟨hk, hp, rfl⟩

/-- The next beat begins. -/
theorem nextBeat_goesOnAs {y : Transaction} (h : 0 < y.pos) :
    GoesOnAs y s (decideHreq (s.setBus { s.bus with inFlight := some y })) := by
  refine ⟨(setBus_frame s _).comp (decideHreq_frame _), rfl, fun c hc => ⟨fun clock hclock => ?_, ?_⟩⟩
  · rw [busLines_beat rfl hc, if_neg fun hg => by omega]
  · rw [busLines_beat rfl hc]
    by_cases hl : y.kind = .lineRead ∧ y.inhibited = false
    · rw [if_pos hl, if_neg fun hg => (gapBefore_later h).1 hg.1 hl]
    · rw [if_neg hl, if_pos ⟨(gapBefore_later h).2 hl, rfl⟩]
      rfl

/-- An answered beat is followed by the next, or ends its transaction. -/
theorem endBeat_answered {y : Transaction} (hy : answeredBeat x b inhibit data = y) :
    (y.pos + 1 < y.beats.length →
      GoesOnAs { y with pos := y.pos + 1 } s (decideHreq (endBeat x b true false inhibit data s)))
    ∧ (y.beats.length ≤ y.pos + 1 → EndsAs y s (decideHreq (endBeat x b true false inhibit data s))) := by
  have hend : endBeat x b true false inhibit data s = if y.pos + 1 < y.beats.length
      then s.setBus { s.bus with inFlight := some { y with pos := y.pos + 1 } } else endTransaction y s := by
    rw [← hy]
    rfl
  refine ⟨fun h => ?_, fun h => ?_⟩
  · rw [hend, if_pos h]
    exact nextBeat_goesOnAs (Nat.succ_pos _)
  · rw [hend, if_neg (by omega)]
    exact endTransaction_endsAs s y

theorem exec_beatEnd {clock : Nat} {answer error : Bool} (hpor : s.por = false) (hx : s.bus.inFlight = some x)
    (hb : x.beats[x.pos]? = some b) (hsettle : x.cls.settle < clock) (hlast : clock ≤ 16 * x.cls.timeout)
    (hends : answer = true ∨ error = true ∨ clock = 16 * x.cls.timeout) :
    exec (.beatEnd clock answer error inhibit data) s = .next (decideHreq (endBeat x b answer error inhibit data s)) := by
  have hcan : beatCanEnd x.cls clock answer error = true := by
    simp only [beatCanEnd, hsettle, hlast, Bool.and_eq_true, Bool.or_eq_true, decide_eq_true_eq, true_and]
    tauto
  show execBeatEnd clock answer error inhibit data s = _
  simp only [execBeatEnd, hx, hb]
  exact event_next hpor hcan

end beat

/-- Settles O28: a beat with ERROR or without ANSWER ends its transaction; an answered one is followed by the next of its list, or of
the needed words where the burst is declined, or ends it. -/
theorem beatsAndRecoveryEnd : Obligations.BeatsAndRecoveryEnd := by
  refine ⟨fun s x b clock answer error inhibit data hpor hx hb hsettle hlast hends =>
    ⟨_, exec_beatEnd hpor hx hb hsettle hlast hends, ?_, ?_, ?_⟩, fun s hpor hr => ?_⟩
  · rintro rfl
    exact endTransaction_endsAs s _
  · rintro rfl rfl
    exact endTransaction_endsAs s _
  · rintro rfl rfl
    refine ⟨deliveredAfter x b data, fun hd hn => ?_, fun hd => if_neg fun h => ?_, fun hplain => ?_,
      fun hk hp hi beats hbeats => ?_⟩
    · rw [deliveredAfter, if_pos ⟨hd, hn⟩]
      cases hw : x.cls.width <;> simp only [takenData, lowHalf_eq]
    · exact hd.elim (· h.1) (· h.2)
    · exact endBeat_answered (answeredBeat_plain hplain)
    · subst hi hbeats
      obtain ⟨hgo, hend⟩ := endBeat_answered (s := s) (answeredBeat_declined (b := b) (data := data) hk hp)
      simp only [hp, Nat.zero_add] at hgo
      refine ⟨hgo, fun hone => hend ?_⟩
      show (neededBeats x b).length ≤ x.pos + 1
      rw [hp]
      exact Nat.le_of_eq hone
  · have hend : exec .busRecoveryEnd s = .next (decideHreq (s.setBus { s.bus with busState := .idle, recovery := 0 })) :=
      event_next (f := fun s => s.setBus { s.bus with busState := .idle, recovery := 0 }) hpor (decide_eq_true hr)
    exact ⟨_, hend, (setBus_frame s _).comp (decideHreq_frame _), rfl⟩

end Sys2Proof.Machine
end

section
/-! PROOFS. The completion of a direct transfer (O33). -/

set_option Elab.async false

namespace Sys2Proof.Machine

/-! ## The body of a direct response (R79, R80, R184) -/

section body
variable {x : Transaction} {j : DirectJob}

theorem directBody_write (h : j.value.isSome = true) : directBody x j = directHead x j ++ [natByte x.answered] := by
  obtain ⟨v, hv⟩ := Option.isSome_iff_exists.1 h
  simp only [directBody, hv]

theorem directBody_failed (hv : j.value = none) (hw : j.width ≠ .line) (hf : x.failure.isSome = true) :
    directBody x j = directHead x j := by
  cases hj : j.width with
  | line => exact absurd hj hw
  | byte => simp [directBody, hv, hj, hf]
  | word => simp [directBody, hv, hj, hf]

theorem directBody_byte {v : Word16} (hv : j.value = none) (hw : j.width = .byte) (hf : x.failure = none)
    (h : directValue x .byte j.offset = some v) : directBody x j = directHead x j ++ send16 v := by
  simp [directBody, hv, hw, hf, h, sendOpt]

theorem directBody_word {v : Word16} (hv : j.value = none) (hw : j.width = .word) (hf : x.failure = none)
    (h : directValue x .word j.offset = some v) : directBody x j = directHead x j ++ send16 v := by
  simp [directBody, hv, hw, hf, h, sendOpt]

/-- The entry of a word of a direct line read: its number, whether it was delivered, and its value. -/
def lineEntry (x : Transaction) (a : Nat) : List Byte :=
  [natByte a, boolByte (deliveredAt x.delivered a).isSome] ++ sendOpt send16 [0, 0] (deliveredAt x.delivered a)

theorem lineEntry_delivered {a : Nat} {v : Word16} (h : deliveredAt x.delivered a = some v) :
    lineEntry x a = [natByte a, 1] ++ send16 v := by
  simp [lineEntry, h, boolByte, sendOpt]

theorem lineEntry_missing {a : Nat} (h : deliveredAt x.delivered a = none) : lineEntry x a = [natByte a, 0, 0, 0] := by
  simp [lineEntry, h, boolByte, sendOpt]

theorem directBody_line (hv : j.value = none) (hw : j.width = .line) : directBody x j
    = directHead x j ++ boolByte x.inhibited :: (wrapOrder (j.offset.toNat / 2)).flatMap (lineEntry x) := by
  rw [← lineOrder_eq]
  simp only [directBody, hv, hw]
  rfl

end body

/-! ## The completion (R81, R87, R174) -/

/-- Only READ MODULE and WRITE MODULE carry a transfer. -/
theorem kind_of_jobOf {req : Request} {j : DirectJob} (h : jobOf req = some j) :
    req.kind ≠ Config.restartSupervisionKind := by
  cases hk : kindOf req.kind with
  | none => simp [jobOf, hk] at h
  | some k =>
    refine kind_ne_restart hk fun he => ?_
    simp [jobOf, hk, he] at h

section completion
variable {s : State} {x : Transaction} {p : Port} {req : Request} {j : DirectJob}

theorem exec_directTransferCompletion (hpor : s.por = false) (hx : s.bus.ended = some x) (hr : x.requester = .direct p) :
    exec .directTransferCompletion s = .next (decideHreq (completeDirect p x s)) := by
  show execDirectTransferCompletion s = _
  simp only [execDirectTransferCompletion, hx, hr]
  exact event_next hpor rfl

theorem completeDirect_discarded (h : x.discarded = true) : completeDirect p x s = dropGrant (takeEnded s) := if_pos h

theorem completeDirect_responds (hd : x.discarded = false) (he : (s.port p).executor = .serving req)
    (hj : jobOf req = some j) : completeDirect p x s = respond p ⟨txResult x, directBody x j⟩ (dropGrant (takeEnded s)) := by
  have hserving : ((dropGrant (takeEnded s)).port p).executor = .serving req := he
  have hresponds : completeDirect p x s = respondDirect p x (dropGrant (takeEnded s)) := if_neg (by simp [hd])
  rw [hresponds]
  simp only [respondDirect, hserving, hj]

end completion

/-- Settles O33: the tenure ends, and a response that is wanted is placed or waits, with the body that its transfer calls for. -/
theorem directTransferCompletes : Obligations.DirectTransferCompletes := by
  intro s x p hpor hx hr
  have hexec := exec_directTransferCompletion hpor hx hr
  refine ⟨fun hd => ?_, fun req j hd he hj => ?_⟩
  · rw [completeDirect_discarded hd] at hexec
    exact ⟨_, hexec, (dropGrant_takeEnded_frame s).comp (decideHreq_frame _), rfl, rfl⟩
  · rw [completeDirect_responds hd he hj] at hexec
    have hkind := kind_of_jobOf hj
    have hserving : ((dropGrant (takeEnded s)).port p).executor = .serving req := he
    have hresp := (respond_frame (dropGrant (takeEnded s)) p ⟨txResult x, directBody x j⟩).without (n := [.ports, .routes])
      (b := .restart) (respond_restart_of_kind _ hserving hkind _)
    have hhreq := decideHreq_frame (respond p ⟨txResult x, directBody x j⟩ (dropGrant (takeEnded s)))
    refine ⟨_, hexec, ((dropGrant_takeEnded_frame s).comp hresp (n := [.bus, .arb, .ports, .routes])).comp hhreq, ?_, ?_,
      fun hroom => ?_, fun hfull => ?_, fun hf => ?_, fun hf => ?_, fun hf => ?_, directBody_write, directBody_failed,
      fun v hv hw hf h => ?_, fun v hv hw hf h => ?_, fun hv hw => ⟨lineEntry x, ?_, fun a =>
        ⟨fun v => lineEntry_delivered, lineEntry_missing⟩⟩⟩
    · rw [hhreq.bus, hresp.bus]
      rfl
    · rw [hhreq.arb, hresp.arb]
      rfl
    · rw [hhreq.ports, respond_room _ hserving hroom, placeReply_ports, replyFrame, markOf_response (.inl hkind)]
      rfl
    · rw [hhreq.ports, hhreq.routes, respond_full _ hserving hfull]
      exact ⟨rfl, rfl⟩
    · simp [txResult, hf]
    · simp [txResult, hf, FailReason.result]
    · simp [txResult, hf, FailReason.result]
    · rw [directBody_byte hv hw hf h, directHead, hw]
      rfl
    · rw [directBody_word hv hw hf h, directHead, hw]
      rfl
    · rw [directBody_line hv hw, directHead, hw]
      rfl

end Sys2Proof.Machine
end

section
/-! SUPPORT. The end of the hut's claims, and the NO_ANSWERs of the open referrals (R147, R164, R165). -/

set_option Elab.async false

namespace Sys2Proof.Machine

variable (s : State)

/-! ## The end of the claims of a port that has no items (R147, R148) -/

/-- From s to t claims may have ended whose holder had no item to be dismissed: only the arbiter and the Actuator Unit have changed,
no tenure and no direct request, and the work list keeps what it must. -/
structure QuietEnd (s t : State) : Prop where
  frame : ChangesOnly [.arb, .acts] s t
  direct : t.arb.waiting.direct = s.arb.waiting.direct
  tenure : t.arb.tenure = s.arb.tenure
  work : WorkKept s t

theorem QuietEnd.refl : QuietEnd s s := ⟨.refl _ s, rfl, rfl, .refl s⟩

theorem QuietEnd.trans {s t u : State} (h : QuietEnd s t) (k : QuietEnd t u) : QuietEnd s u :=
  ⟨h.frame.comp k.frame, k.direct.trans h.direct, k.tenure.trans h.tenure, h.work.trans k.work⟩

theorem requestActuator_direct : (requestActuator s).arb.waiting.direct = s.arb.waiting.direct := by
  unfold requestActuator
  split
  · rfl
  · rfl

theorem queuePolicy_direct (m : Nat) (i : ActIx) : (queuePolicy m i s).arb.waiting.direct = s.arb.waiting.direct := by
  unfold queuePolicy
  split
  · exact requestActuator_direct s
  · rw [requestActuator_direct]
    rfl

theorem applyPolicy_quietEnd (m : Nat) (i : ActIx) : QuietEnd s (applyPolicy m i s) := by
  refine ⟨applyPolicy_frame s m i, ?_, (applyPolicy_tenureKept s m i).tenure, (applyPolicy_queued s m i).work⟩
  unfold applyPolicy
  split
  · rfl
  · split
    · exact queuePolicy_direct s m i
    · rfl

/-- A waiting command of a port is one of its items. -/
theorem port_of_isCommandOf {p : Port} {i : ActIx} {w : WorkItem} (h : isCommandOf p i w = true) : w.port = some p := by
  cases w with
  | command q j o => simp_all [isCommandOf, WorkItem.port]
  | exchange q j o => simp_all [isCommandOf, WorkItem.port]
  | policy j => cases h
  | refresh j => cases h

theorem port_of_isItemOf {p : Port} {w : WorkItem} : isItemOf p w = true ↔ w.port = some p := by
  cases w <;> simp [isItemOf, WorkItem.port]

theorem dismissCommand_noItems {s : State} {p : Port} (h : NoItems p s) (i : ActIx) : dismissCommand p i s = s := by
  unfold dismissCommand
  rw [if_neg]
  intro hany
  obtain ⟨w, hw, hc⟩ := List.any_eq_true.1 hany
  exact h w hw (port_of_isCommandOf hc)

theorem endClaim_quietEnd {s : State} {p : Port} {i : ActIx} (h : NoItems p s) (hp : (s.actuator i).holder = some p) (m : Nat) :
    QuietEnd s (endClaim m i s) := by
  have hfreed : QuietEnd s (s.setActuator i { s.actuator i with holder := none, lease := 0 }) :=
    ⟨(setActuator_frame s i _).mono, rfl, rfl, .of_workList rfl⟩
  unfold endClaim
  simp only [hp]
  rw [dismissCommand_noItems (h.of_workKept hfreed.work)]
  exact hfreed.trans (applyPolicy_quietEnd _ m i)

/-- Whether a port is the Hut Port. -/
def isHut (p : Port) : Bool := decide (p = .hut)

theorem endClaimOf_hut_quietEnd {s : State} (h : NoItems .hut s) (m : Nat) (i : ActIx) : QuietEnd s (endClaimOf m isHut s i) := by
  unfold endClaimOf
  split
  · exact .refl s
  · next p hp =>
    by_cases hut : p = .hut
    · subst hut
      exact endClaim_quietEnd h hp m
    · rw [if_neg (by simp [isHut, hut])]
      exact .refl s

/-- The turns of a list end the hut's claims quietly when the hut has no items. -/
theorem endClaims_list_hut_quietEnd (m : Nat) (l : List ActIx) {s : State} (h : NoItems .hut s) :
    QuietEnd s (l.foldl (endClaimOf m isHut) s) := by
  induction l generalizing s with
  | nil => exact .refl s
  | cons i l ih =>
    have hturn := endClaimOf_hut_quietEnd h m i
    exact hturn.trans (ih (h.of_workKept hturn.work))

/-- The turn of an actuator whose holder is not named changes nothing. -/
theorem endClaimOf_unnamed {s : State} (m : Nat) {who : Port → Bool} {i : ActIx}
    (h : ∀ p, (s.actuator i).holder = some p → who p = false) : endClaimOf m who s i = s := by
  unfold endClaimOf
  split
  · rfl
  · next p hp => simp [h p hp]

/-- The turns of a list keep the entry of an actuator whose holder is not named. -/
theorem endClaims_list_unnamed (m : Nat) {who : Port → Bool} (l : List ActIx) {s : State} {a : ActIx}
    (h : ∀ p, (s.actuator a).holder = some p → who p = false) : (l.foldl (endClaimOf m who) s).actuator a = s.actuator a := by
  induction l generalizing s with
  | nil => rfl
  | cons i l ih =>
    have hkeep : (endClaimOf m who s i).actuator a = s.actuator a := by
      by_cases ha : a = i
      · subst ha
        rw [endClaimOf_unnamed m h]
      · exact endClaimOf_actuator_ne s m who ha
    rw [List.foldl_cons, ih (by rwa [hkeep]), hkeep]

/-- The end of a claim, seen from states with the same entry before and the same Actuator Unit after. -/
theorem ClaimEnded.congr {i : ActIx} {s t s' t' : State} (h : ClaimEnded i s t) (hs : s.actuator i = s'.actuator i)
    (ht : t'.acts = t.acts) : ClaimEnded i s' t' := by
  unfold ClaimEnded at h ⊢
  rwa [← hs, State.actuator, ht]

/-! ## The hut's items and claims at the pulse (step 4 of R165) -/

/-- The hut's items have left the work list, its claims have ended, and the other claims stand. -/
structure HutClaimsEnded (s t : State) : Prop where
  frame : ChangesOnly [.arb, .acts] s t
  direct : t.arb.waiting.direct = s.arb.waiting.direct
  tenure : t.arb.tenure = s.arb.tenure
  noItems : NoItems .hut t
  ended : ∀ i, (s.actuator i).holder = some .hut → ClaimEnded i s t
  others : ∀ i, (s.actuator i).holder ≠ some .hut → t.actuator i = s.actuator i

/-- The state once the hut's items are gone and the item in flight gives the hut no response. -/
def hutItemsGone (s : State) : State :=
  (s.setWorkList (s.acts.workList.filter fun w => !isItemOf .hut w)).setRunning (s.acts.running.map muteHut)

theorem hutItemsGone_noItems : NoItems .hut (hutItemsGone s) := by
  intro w hw hp
  have hkept : w ∈ s.acts.workList ∧ isItemOf .hut w = false := by simpa [hutItemsGone] using hw
  rw [port_of_isItemOf.2 hp] at hkept
  cases hkept.2

theorem hutItemsGone_frame : ChangesOnly [.arb, .acts] s (hutItemsGone s) :=
  (setWorkList_frame s _).comp (setRunning_frame _ _)

theorem hutItemsGone_actuator (i : ActIx) : (hutItemsGone s).actuator i = s.actuator i := rfl

theorem endHutClaims_eq : endHutClaims s = endClaims (nextMoment s) isHut (hutItemsGone s) := rfl

theorem endHutClaims_ended : HutClaimsEnded s (endHutClaims s) := by
  have hquiet : QuietEnd (hutItemsGone s) (endHutClaims s) :=
    endClaims_list_hut_quietEnd (nextMoment s) actIndices (hutItemsGone_noItems s)
  refine ⟨(hutItemsGone_frame s).comp hquiet.frame, hquiet.direct, hquiet.tenure,
    (hutItemsGone_noItems s).of_workKept hquiet.work, fun i hi => ?_, fun i hi => ?_⟩
  · have hend : ClaimEnded i (hutItemsGone s) (endHutClaims s) := by
      rw [endHutClaims_eq]
      exact endClaims_ended (hutItemsGone s) (nextMoment s) (by rw [hutItemsGone_actuator, hi]) (by rfl)
    exact hend.congr (hutItemsGone_actuator s i) rfl
  · rw [endHutClaims_eq, endClaims_eq, endClaims_list_unnamed (nextMoment s) actIndices, hutItemsGone_actuator]
    intro p hp
    rw [hutItemsGone_actuator] at hp
    exact decide_eq_false fun hut => hi (hp.trans (congrArg some hut))

/-! ## The open referrals (R163, R165) -/

/-- The referral of an UNTAKEN or TAKEN slot. -/
def openReferral : ReferralSlot → Option Referral
  | .untaken x _ => some x
  | .taken x _ => some x
  | _ => none

/-- A slot that holds an open referral of an origin, with the referral. -/
def openAt (s : State) (q : RoutePort) (k : ReferralIx) : Option (ReferralIx × Referral) :=
  (openReferral (s.slot k)).bind fun x => if x.origin = q then some (k, x) else none

/-- The slots of a list that hold an open referral of an origin, with their referrals. -/
def openIn (l : List ReferralIx) (s : State) (q : RoutePort) : List (ReferralIx × Referral) := l.filterMap (openAt s q)

theorem openOf_eq (q : RoutePort) : openOf s q = openIn slotIndices s q := by
  refine congrArg (fun f => slotIndices.filterMap f) (funext fun k => ?_)
  unfold openAt
  cases s.slot k <;> rfl

theorem openIn_append (l m : List ReferralIx) (q : RoutePort) : openIn (l ++ m) s q = openIn l s q ++ openIn m s q :=
  List.filterMap_append

theorem openIn_congr {s t : State} {l : List ReferralIx} (h : ∀ k ∈ l, t.slot k = s.slot k) (q : RoutePort) :
    openIn l t q = openIn l s q :=
  List.filterMap_congr fun k hk => by rw [openAt, openAt, h k hk]

theorem openAt_fst {s : State} {q : RoutePort} {k : ReferralIx} {x : ReferralIx × Referral} (h : openAt s q k = some x) :
    x.1 = k := by
  obtain ⟨r, -, hr⟩ := Option.bind_eq_some_iff.1 h
  split at hr
  · rw [← Option.some.inj hr]
  · cases hr

theorem mem_of_mem_openIn {s : State} {l : List ReferralIx} {q : RoutePort} {x : ReferralIx × Referral} (h : x ∈ openIn l s q) :
    x.1 ∈ l := by
  obtain ⟨k, hk, hx⟩ := List.mem_filterMap.1 h
  rwa [openAt_fst hx]

/-! ## Their NO_ANSWERs (R164, R165) -/

/-- The places that are left in a route port's output queue. -/
def placesLeft (s : State) (q : RoutePort) : Nat := Config.outputPlaces - (s.port (toPort q)).output.length

/-- The NO_ANSWER to a referral of a route port. -/
def noAnswerFrame (s : State) (q : RoutePort) (x : ReferralIx × Referral) : OutFrame :=
  responseFrame x.2.kind x.2.tag Result.noAnswer.code (s.port (toPort q)).summary [] .response

/-- The open referrals of the slots of a list are answered NO_ANSWER: as many of an origin's as its queue has places for join that
queue and free their slots, the others are held in theirs. -/
structure NoAnswersGiven (l : List ReferralIx) (s t : State) : Prop where
  port : ∀ q, t.port (toPort q) = { s.port (toPort q) with
    output := (s.port (toPort q)).output ++ ((openIn l s q).take (placesLeft s q)).map (noAnswerFrame s q) }
  hut : t.port .hut = s.port .hut
  route : ∀ q, t.route q = if (openIn l s q).take (placesLeft s q) = [] then s.route q
    else { s.route q with lastReported := (s.port (toPort q)).summary }
  placed : ∀ q, ∀ x ∈ (openIn l s q).take (placesLeft s q), t.slot x.1 = .free
  held : ∀ q, ∀ x ∈ (openIn l s q).drop (placesLeft s q), t.slot x.1 = .answered x.2 ⟨Result.noAnswer.code, []⟩
  others : ∀ k, (k ∈ l → openReferral (s.slot k) = none) → t.slot k = s.slot k
  link : t.link = { s.link with slots := t.link.slots }

section compose
variable {s t u : State} {l m : List ReferralIx}

theorem NoAnswersGiven.nil : NoAnswersGiven [] s s := by
  refine ⟨fun q => ?_, rfl, fun q => ?_, fun q x hx => ?_, fun q x hx => ?_, fun _ _ => rfl, rfl⟩
  · simp [openIn]
  · simp [openIn]
  · simp [openIn] at hx
  · simp [openIn] at hx

theorem NoAnswersGiven.slot_of_not_mem (h : NoAnswersGiven l s t) {k : ReferralIx} (hk : k ∉ l) : t.slot k = s.slot k :=
  h.others k fun hm => absurd hm hk

theorem NoAnswersGiven.summary (h : NoAnswersGiven l s t) (q : RoutePort) :
    (t.port (toPort q)).summary = (s.port (toPort q)).summary := by rw [h.port q]

theorem NoAnswersGiven.placesLeft (h : NoAnswersGiven l s t) (q : RoutePort) :
    placesLeft t q = placesLeft s q - (openIn l s q).length := by
  simp only [Machine.placesLeft, h.port q, List.length_append, List.length_map, List.length_take]
  omega

/-- The answers of two lists of slots with no slot in common, one after the other. -/
theorem NoAnswersGiven.append (h : NoAnswersGiven l s t) (k : NoAnswersGiven m t u) (hd : ∀ a ∈ l, a ∉ m) :
    NoAnswersGiven (l ++ m) s u := by
  have hopen : ∀ q, openIn m t q = openIn m s q := fun q => openIn_congr (fun a ha => h.slot_of_not_mem fun hl => hd a hl ha) q
  have htake : ∀ q, (openIn (l ++ m) s q).take (Machine.placesLeft s q)
      = (openIn l s q).take (Machine.placesLeft s q) ++ (openIn m t q).take (Machine.placesLeft t q) := fun q => by
    rw [openIn_append, List.take_append, h.placesLeft, hopen]
  have hdrop : ∀ q, (openIn (l ++ m) s q).drop (Machine.placesLeft s q)
      = (openIn l s q).drop (Machine.placesLeft s q) ++ (openIn m t q).drop (Machine.placesLeft t q) := fun q => by
    rw [openIn_append, List.drop_append, h.placesLeft, hopen]
  have hframe : ∀ q, noAnswerFrame t q = noAnswerFrame s q := fun q => funext fun x => by
    rw [noAnswerFrame, noAnswerFrame, h.summary]
  have hkept : ∀ q, ∀ x ∈ openIn l s q, u.slot x.1 = t.slot x.1 := fun q x hx =>
    k.slot_of_not_mem (hd x.1 (mem_of_mem_openIn hx))
  refine ⟨fun q => ?_, k.hut.trans h.hut, fun q => ?_, fun q x hx => ?_, fun q x hx => ?_, fun a ha => ?_, ?_⟩
  · rw [k.port q, hframe, h.port q, htake, List.map_append, List.append_assoc]
  · rw [k.route q, h.route q, h.summary, htake]
    by_cases h1 : (openIn l s q).take (Machine.placesLeft s q) = []
    · simp [h1]
    · simp [h1]
  · rw [htake, List.mem_append] at hx
    rcases hx with hx | hx
    · rw [hkept q x (List.mem_of_mem_take hx)]
      exact h.placed q x hx
    · exact k.placed q x hx
  · rw [hdrop, List.mem_append] at hx
    rcases hx with hx | hx
    · rw [hkept q x (List.mem_of_mem_drop hx)]
      exact h.held q x hx
    · exact k.held q x hx
  · have ht := h.others a fun hl => ha (List.mem_append_left _ hl)
    rw [k.others a fun hm => by rw [ht]; exact ha (List.mem_append_right _ hm), ht]
  · rw [k.link, h.link]

end compose

/-! ## One slot -/

section slot
variable {s : State} {k : ReferralIx} {x : Referral}

theorem answerNoAnswer_closed (h : openReferral (s.slot k) = none) : answerNoAnswer s k = s := by
  unfold answerNoAnswer
  cases hk : s.slot k with
  | free => rfl
  | untaken r a => simp [hk, openReferral] at h
  | taken r a => simp [hk, openReferral] at h
  | answered r a => rfl

theorem answerNoAnswer_open (h : openReferral (s.slot k) = some x) :
    answerNoAnswer s k = placeAnswer k x Result.noAnswer.code [] s := by
  unfold answerNoAnswer
  cases hk : s.slot k with
  | free => simp [hk, openReferral] at h
  | untaken r a => simp_all [openReferral]
  | taken r a => simp_all [openReferral]
  | answered r a => simp [hk, openReferral] at h

theorem openIn_closed (h : openReferral (s.slot k) = none) (q : RoutePort) : openIn [k] s q = [] := by
  simp [openIn, openAt, h]

theorem openIn_open (h : openReferral (s.slot k) = some x) (q : RoutePort) :
    openIn [k] s q = if x.origin = q then [(k, x)] else [] := by
  by_cases hq : x.origin = q
  · simp [openIn, openAt, h, hq]
  · simp [openIn, openAt, h, hq]

theorem toPort_inj {p q : RoutePort} : toPort p = toPort q ↔ p = q := by
  cases p <;> cases q <;> decide

theorem pushFrame_port (f : OutFrame) (v : Nat) (p q : Port) :
    (pushFrame p f v s).port q = if q = p then { s.port p with output := (s.port p).output ++ [f] } else s.port q := by
  simp only [State.port, pushFrame_ports, PerPort.get_set]

theorem pushFrame_route (f : OutFrame) (v : Nat) (p q : RoutePort) :
    (pushFrame (toPort p) f v s).route q = if q = p then { s.route p with lastReported := v } else s.route q := by
  unfold pushFrame setReported
  simp only [routeOf_toPort, setRoute_route, setPort_route]

/-- The slot of an open referral whose origin's queue has a place. -/
theorem answerNoAnswer_placed (h : openReferral (s.slot k) = some x) (hr : 0 < placesLeft s x.origin) :
    NoAnswersGiven [k] s (answerNoAnswer s k) := by
  have hroom : hasRoom s (toPort x.origin) = true := decide_eq_true (Nat.lt_of_sub_pos hr)
  have heq : answerNoAnswer s k = (pushFrame (toPort x.origin) (noAnswerFrame s x.origin (k, x))
      (s.port (toPort x.origin)).summary s).setSlot k .free := by
    rw [answerNoAnswer_open h, placeAnswer, if_pos hroom]
    rfl
  have htake : ∀ q, (openIn [k] s q).take (placesLeft s q) = if x.origin = q then [(k, x)] else [] := fun q => by
    rw [openIn_open h]
    split
    · next e => exact List.take_of_length_le (by rw [← e]; exact hr)
    · exact List.take_nil
  have hdrop : ∀ q, (openIn [k] s q).drop (placesLeft s q) = [] := fun q => by
    rw [openIn_open h]
    split
    · next e => exact List.drop_of_length_le (by rw [← e]; exact hr)
    · exact List.drop_nil
  rw [heq]
  refine ⟨fun q => ?_, ?_, fun q => ?_, fun q y hy => ?_, fun q y hy => ?_, fun j hj => ?_, ?_⟩
  · rw [setSlot_port, pushFrame_port, htake]
    by_cases hq : x.origin = q
    · subst hq
      simp
    · simp [hq, toPort_inj, Ne.symm hq]
  · rw [setSlot_port, pushFrame_port, if_neg (by cases x.origin <;> decide)]
  · rw [setSlot_route, pushFrame_route, htake]
    by_cases hq : x.origin = q
    · subst hq
      simp
    · simp [hq, Ne.symm hq]
  · rw [htake] at hy
    split at hy
    · rw [List.mem_singleton.1 hy, setSlot_slot_self]
    · cases hy
  · rw [hdrop] at hy
    cases hy
  · have hne : j ≠ k := by
      rintro rfl
      rw [hj (List.mem_singleton.2 rfl)] at h
      cases h
    rw [setSlot_slot, if_neg hne, (pushFrame_frame s _ _ _).slot]
  · simp [(pushFrame_frame s _ _ _).link]

/-- The slot of an open referral whose origin's queue is full. -/
theorem answerNoAnswer_held (h : openReferral (s.slot k) = some x) (hr : placesLeft s x.origin = 0) :
    NoAnswersGiven [k] s (answerNoAnswer s k) := by
  have hroom : hasRoom s (toPort x.origin) = false := decide_eq_false (Nat.not_lt.2 (Nat.le_of_sub_eq_zero hr))
  have heq : answerNoAnswer s k = s.setSlot k (.answered x ⟨Result.noAnswer.code, []⟩) := by
    rw [answerNoAnswer_open h, placeAnswer, if_neg (by simp [hroom])]
  have htake : ∀ q, (openIn [k] s q).take (placesLeft s q) = [] := fun q => by
    rw [openIn_open h]
    split
    · next e => rw [← e, hr, List.take_zero]
    · exact List.take_nil
  rw [heq]
  refine ⟨fun q => ?_, rfl, fun q => ?_, fun q y hy => ?_, fun q y hy => ?_, fun j hj => ?_, rfl⟩
  · simp [htake]
  · simp [htake]
  · rw [htake] at hy
    cases hy
  · have hmem := List.mem_of_mem_drop hy
    rw [openIn_open h] at hmem
    split at hmem
    · rw [List.mem_singleton.1 hmem, setSlot_slot_self]
    · cases hmem
  · have hne : j ≠ k := by
      rintro rfl
      rw [hj (List.mem_singleton.2 rfl)] at h
      cases h
    rw [setSlot_slot, if_neg hne]

theorem answerNoAnswer_given : NoAnswersGiven [k] s (answerNoAnswer s k) := by
  cases h : openReferral (s.slot k) with
  | none =>
    rw [answerNoAnswer_closed h]
    refine ⟨fun q => ?_, rfl, fun q => ?_, fun q y hy => ?_, fun q y hy => ?_, fun _ _ => rfl, rfl⟩
    · simp [openIn_closed h]
    · simp [openIn_closed h]
    · simp [openIn_closed h] at hy
    · simp [openIn_closed h] at hy
  | some x =>
    rcases Nat.eq_zero_or_pos (placesLeft s x.origin) with hr | hr
    · exact answerNoAnswer_held h hr
    · exact answerNoAnswer_placed h hr

end slot

theorem answerNoAnswers_list_given (l : List ReferralIx) (hl : l.Nodup) : NoAnswersGiven l s (l.foldl answerNoAnswer s) := by
  induction l generalizing s with
  | nil => exact .nil
  | cons k l ih =>
    obtain ⟨hk, hrest⟩ := List.nodup_cons.1 hl
    exact answerNoAnswer_given.append (ih (answerNoAnswer s k) hrest) fun a ha => by rwa [List.mem_singleton.1 ha]

/-- Every open referral is answered, in ascending slot order. -/
theorem answerNoAnswers_given : NoAnswersGiven slotIndices s (slotIndices.foldl answerNoAnswer s) :=
  answerNoAnswers_list_given s slotIndices (List.nodup_finRange 4)

end Sys2Proof.Machine
end

section
/-! PROOFS. RESTART HUT CONTROLLER (O48). -/

set_option Elab.async false

namespace Sys2Proof.Machine

variable {s : State} {r : RoutePort} {req : Request}

/-! ## The OK (R125, R174) -/

/-- The OK of RESTART HUT CONTROLLER. -/
def pulseOk (s : State) (r : RoutePort) (req : Request) : OutFrame :=
  responseFrame req.kind req.tag 0 (s.port (toPort r)).summary [] .response

/-- The state once the request is taken and the OK placed. -/
def pulseAnswered (s : State) (r : RoutePort) : State := respond (toPort r) (bare .ok) (takeHead (toPort r) s)

theorem pulseAnswered_eq (h : Asked .restartHutController (toPort r) s req) :
    pulseAnswered s r = placeReply (toPort r) req (bare .ok) (takeHead (toPort r) s) := by
  refine respond_room (bare .ok) (takeHead_executor h.1.queue) ?_
  rw [takeHead_port h.1.queue, if_pos rfl]
  exact h.1.room

theorem pulseAnswered_frame (h : Asked .restartHutController (toPort r) s req) :
    ChangesOnly [.ports, .routes] s (pulseAnswered s r) := by
  have hkind := kind_ne_restart h.2 (by decide)
  have hresp := (respond_frame (takeHead (toPort r) s) (toPort r) (bare .ok)).without (n := [.ports, .routes]) (b := .restart)
    (respond_restart_of_kind _ (takeHead_executor h.1.queue) hkind _)
  exact (takeHead_frame s (toPort r)).comp hresp

theorem pulseAnswered_port (h : Asked .restartHutController (toPort r) s req) (p : Port) : (pulseAnswered s r).port p
    = if p = toPort r then answeredPort (s.port (toPort r)) (pulseOk s r req) else s.port p := by
  rw [pulseAnswered_eq h]
  simp only [State.port, placeReply_ports, PerPort.get_set]
  have hmark := markOf_response (reply := bare .ok) (.inl (kind_ne_restart h.2 (by decide)))
  by_cases hp : p = toPort r
  · simp only [hp, if_true, replyFrame, hmark]
    have hhead := takeHead_port h.1.queue (toPort r)
    simp only [State.port, if_true] at hhead
    rw [hhead]
    rfl
  · have hhead := takeHead_port h.1.queue p
    simp only [State.port, hp, if_false] at hhead
    simp only [hp, if_false, hhead]

theorem pulseAnswered_route (h : Asked .restartHutController (toPort r) s req) (q : RoutePort) : (pulseAnswered s r).route q
    = if q = r then { s.route r with lastReported := (s.port (toPort r)).summary } else s.route q := by
  have hsummary : ((takeHead (toPort r) s).port (toPort r)).summary = (s.port (toPort r)).summary := by
    rw [takeHead_port h.1.queue, if_pos rfl]
  have hroutes : (pulseAnswered s r).routes = reportedRoutes (toPort r) (s.port (toPort r)).summary s.routes := by
    rw [pulseAnswered_eq h, placeReply_routes, hsummary, (takeHead_frame s (toPort r)).routes]
  simp only [State.route, hroutes]
  cases r <;> cases q <;> rfl

/-! ## The hut path (steps 1 to 4 of R165) -/

/-- The state once the pulse has started, the Hut Port is empty, and its direct request is withdrawn. -/
def hutPortEmptied (s : State) : State := withdrawHutDirect (clearHutPort (startPulse s))

/-- The state once the hut's items and claims have ended too. -/
def hutPathCleared (s : State) : State := endHutClaims (hutPortEmptied s)

theorem restartHut_eq (s : State) : restartHut s = slotIndices.foldl answerNoAnswer (hutPathCleared s) := rfl

/-- What the start of the pulse leaves before the open referrals are answered. -/
structure PathCleared (s t : State) : Prop where
  frame : ChangesOnly [.link, .ports, .bus, .arb, .acts] s t
  link : t.link = { s.link with pulse := true, hcrst := true, pulseTimer := some 200, silenceTimer := none }
  port : ∀ q, t.port (toPort q) = s.port (toPort q)
  hut : t.port .hut = { s.port .hut with requests := [], executor := .idle, output := [], transmitter := .idle }
  inFlight : t.bus.inFlight = s.bus.inFlight.map discardHut
  direct : t.arb.waiting.direct = s.arb.waiting.direct.set .hut false
  tenure : t.arb.tenure = s.arb.tenure
  noItems : NoItems .hut t
  ended : ∀ i, (s.actuator i).holder = some .hut → ClaimEnded i s t
  others : ∀ i, (s.actuator i).holder ≠ some .hut → t.actuator i = s.actuator i

theorem hutPortEmptied_frame (s : State) : ChangesOnly [.link, .ports, .bus, .arb] s (hutPortEmptied s) :=
  ((setLink_frame s _).comp (setPort_frame (startPulse s) .hut _) (n := [.link, .ports])).comp (withdrawHutDirect_frame _)

theorem hutPortEmptied_port (s : State) (p : Port) : (hutPortEmptied s).port p = if p = .hut
    then { s.port .hut with requests := [], executor := .idle, output := [], transmitter := .idle } else s.port p :=
  setPort_port (startPulse s) .hut p _

theorem hutPathCleared_cleared (s : State) : PathCleared s (hutPathCleared s) := by
  have hemptied := hutPortEmptied_frame s
  have hclaims := endHutClaims_ended (hutPortEmptied s)
  refine ⟨hemptied.comp hclaims.frame, ?_, fun q => ?_, ?_, ?_, ?_, ?_, hclaims.noItems, fun i hi => ?_, fun i hi => ?_⟩
  · rw [hutPathCleared, hclaims.frame.link]
    rfl
  · rw [hutPathCleared, hclaims.frame.port, hutPortEmptied_port, if_neg (by cases q <;> decide)]
  · rw [hutPathCleared, hclaims.frame.port, hutPortEmptied_port, if_pos rfl]
  · rw [hutPathCleared, hclaims.frame.bus]
    rfl
  · rw [hutPathCleared, hclaims.direct]
    rfl
  · rw [hutPathCleared, hclaims.tenure]
    rfl
  · exact (hclaims.ended i (by rw [hemptied.actuator, hi])).congr (hemptied.actuator i) rfl
  · exact (hclaims.others i (by rwa [hemptied.actuator])).trans (hemptied.actuator i)

/-! ## The whole restart -/

theorem exec_restartHutController (h : Asked .restartHutController (toPort r) s req) (hp : s.link.pulse = false) :
    exec (.restartHutController r) s = .next (decideHreq (restartHut (pulseAnswered s r))) := by
  have hserve : serveRestartHut r (deferral s (toPort r)) req (takeHead (toPort r) s) = (restartHut (pulseAnswered s r), none) := by
    simp [serveRestartHut, hp, pulseAnswered]
  show serve (toPort r) (ofKind .restartHutController) (serveRestartHut r) s = _
  rw [serve_eq h.1.toTaken (ofKind_of_asked h), hserve]
  rfl

/-- A second restart while the pulse runs is answered BUSY. -/
theorem restartHutController_busy (h : Asked .restartHutController (toPort r) s req) (hp : s.link.pulse = true) :
    AnswersOnly (.restartHutController r) (toPort r) req .busy [] s :=
  answersOnly_of_kind h (by decide) rfl (by simp [serveRestartHut, hp, refuse, bare])

/-- The output queue of a route port before the NO_ANSWERs. -/
def pulseBase (s : State) (r : RoutePort) (req : Request) (q : RoutePort) : List OutFrame :=
  (s.port (toPort q)).output ++ (if q = r then [pulseOk s r req] else [])

/-- A route port before the NO_ANSWERs: the requester's has taken its request and holds the OK, the other is as it was. -/
structure PulsePort (s : State) (r : RoutePort) (req : Request) (q : RoutePort) (t : State) : Prop where
  output : (t.port (toPort q)).output = pulseBase s r req q
  summary : (t.port (toPort q)).summary = (s.port (toPort q)).summary
  route : t.route q = if q = r then { s.route q with lastReported := (s.port (toPort q)).summary } else s.route q
  other : q ≠ r → t.port (toPort q) = s.port (toPort q)
  requester : q = r → t.port (toPort q) = answeredPort (s.port (toPort q)) (pulseOk s r req)

theorem hutPathCleared_pulsePort (h : Asked .restartHutController (toPort r) s req) (q : RoutePort) :
    PulsePort s r req q (hutPathCleared (pulseAnswered s r)) := by
  have hcleared := hutPathCleared_cleared (pulseAnswered s r)
  have hport := (hcleared.port q).trans (pulseAnswered_port h (toPort q))
  have hroute := (hcleared.frame.route q).trans (pulseAnswered_route h q)
  by_cases hq : q = r
  · subst hq
    rw [if_pos rfl] at hport hroute
    refine ⟨?_, ?_, by rw [hroute, if_pos rfl], fun hne => absurd rfl hne, fun _ => hport⟩
    · rw [hport]
      simp [answeredPort, pulseBase]
    · rw [hport]
      rfl
  · rw [if_neg (mt toPort_inj.1 hq)] at hport
    rw [if_neg hq] at hroute
    refine ⟨?_, by rw [hport], by rw [hroute, if_neg hq], fun _ => hport, fun e => absurd e hq⟩
    rw [hport]
    simp [pulseBase, hq]

/-- What the NO_ANSWERs make of a route port whose queue stands at `base`: the answers that find room follow the base, and their
slots are free; the others are held. -/
theorem noAnswers_of_pulsePort {q : RoutePort} {u t : State} (hu : PulsePort s r req q u) (hslots : ∀ k, u.slot k = s.slot k)
    (hg : NoAnswersGiven slotIndices u t) {room : Nat} (hroom : room = 8 - (pulseBase s r req q).length) :
    (t.port (toPort q)).output = pulseBase s r req q ++ ((openOf s q).take room).map (fun x =>
        responseFrame x.2.kind x.2.tag 0x14 (s.port (toPort q)).summary [] .response)
      ∧ (∀ x ∈ (openOf s q).take room, t.slot x.1 = .free)
      ∧ (∀ x ∈ (openOf s q).drop room, t.slot x.1 = .answered x.2 ⟨0x14, []⟩)
      ∧ (q ≠ r → t.port (toPort q) = { s.port (toPort q) with output := (t.port (toPort q)).output })
      ∧ ((q = r ∨ 0 < room ∧ openOf s q ≠ []) →
        t.route q = { s.route q with lastReported := (s.port (toPort q)).summary })
      ∧ (q ≠ r → (room = 0 ∨ openOf s q = []) → t.route q = s.route q) := by
  have hopen : openIn slotIndices u q = openOf s q := by
    rw [openOf_eq]
    exact openIn_congr (fun k _ => hslots k) q
  have hplaces : placesLeft u q = room := by
    rw [placesLeft, hu.output, hroom, Config.outputPlaces]
  have hframe : noAnswerFrame u q = fun x => responseFrame x.2.kind x.2.tag 0x14 (s.port (toPort q)).summary [] .response := by
    funext x
    rw [noAnswerFrame, hu.summary]
    rfl
  have hport := hg.port q
  have hroute := hg.route q
  have hplaced := hg.placed q
  have hheld := hg.held q
  rw [hopen, hplaces] at hport hroute hplaced hheld
  refine ⟨?_, hplaced, hheld, fun hne => ?_, fun hreported => ?_, fun hne hnone => ?_⟩
  · rw [hport, ← hframe, ← hu.output]
  · rw [hport, hu.other hne]
  · rw [hroute, hu.route, hu.summary]
    by_cases htake : (openOf s q).take room = []
    · have hq : q = r := hreported.resolve_right fun ⟨hpos, hsome⟩ =>
        (List.take_eq_nil_iff.1 htake).elim (Nat.ne_of_gt hpos) hsome
      rw [if_pos htake, if_pos hq]
    · rw [if_neg htake]
      by_cases hq : q = r
      · rw [if_pos hq]
      · rw [if_neg hq]
  · rw [hroute, if_pos (List.take_eq_nil_iff.2 hnone), hu.route, if_neg hne]

/-- Settles O48: the OK is placed, the hut path is cleared, and each open referral is answered in turn, on the room that is left. -/
theorem hutRestartStartsPulse : Obligations.HutRestartStartsPulse := by
  intro r s req h
  refine ⟨restartHutController_busy h, fun hp => ?_⟩
  have hanswered := pulseAnswered_frame h
  have hcleared := hutPathCleared_cleared (pulseAnswered s r)
  have hbefore : ChangesOnly [.link, .ports, .routes, .arb, .bus, .acts] s (hutPathCleared (pulseAnswered s r)) :=
    hanswered.comp hcleared.frame
  have hgiven := answerNoAnswers_given (hutPathCleared (pulseAnswered s r))
  rw [← restartHut_eq] at hgiven
  have hanswers : ChangesOnly [.ports, .routes, .link] (hutPathCleared (pulseAnswered s r)) (restartHut (pulseAnswered s r)) :=
    ChangesOnly.foldl (fun s k => answerNoAnswer_frame s k) _ _
  have hhreq := decideHreq_frame (restartHut (pulseAnswered s r))
  have hafter : ChangesOnly [.ports, .routes, .link, .hreq] (hutPathCleared (pulseAnswered s r))
      (decideHreq (restartHut (pulseAnswered s r))) := hanswers.comp hhreq
  have hlink : (decideHreq (restartHut (pulseAnswered s r))).link = { s.link with
      pulse := true, hcrst := true, pulseTimer := some 200, silenceTimer := none,
      slots := (restartHut (pulseAnswered s r)).link.slots } := by
    rw [hhreq.link, hgiven.link, hcleared.link, hanswered.link]
  have hslots : ∀ k, (hutPathCleared (pulseAnswered s r)).slot k = s.slot k := fun k => by
    rw [State.slot, hcleared.link, hanswered.link]
    rfl
  have hclosed : ∀ k, openReferral (s.slot k) = none → (decideHreq (restartHut (pulseAnswered s r))).slot k = s.slot k :=
    fun k hk => (hhreq.slot k).trans ((hgiven.others k fun _ => by rw [hslots, hk]).trans (hslots k))
  have hrequester := (hhreq.port (toPort r)).trans (hgiven.port r)
  rw [(hutPathCleared_pulsePort h r).requester rfl] at hrequester
  have hdirect := congrArg (fun a => a.waiting.direct) hafter.arb
  have hwaiting := hdirect.trans hcleared.direct
  rw [hanswered.arb] at hwaiting
  refine ⟨_, exec_restartHutController h hp, hbefore.comp hafter, by rw [hlink], by rw [hlink], by rw [hlink], by rw [hlink],
    by rw [hlink], by rw [hlink], ?_, by rw [hrequester]; rfl, by rw [hrequester]; rfl, fun q base room hbase hroom => ?_,
    fun k => ⟨fun hk => ?_, fun q a hk => ?_⟩, by rw [hwaiting]; rfl, by rw [hwaiting]; rfl, by rw [hwaiting]; rfl, ?_,
    fun x hx => ?_, ?_, fun i hi => ?_, fun i hi => ?_⟩
  · rw [hhreq.port, hgiven.hut, hcleared.hut, pulseAnswered_port h, if_neg (by cases r <;> decide)]
  · rw [hhreq.port, hhreq.route, hbase]
    simp only [hhreq.slot]
    exact noAnswers_of_pulsePort (hutPathCleared_pulsePort h q) hslots hgiven (hroom.trans (by rw [hbase]; rfl))
  · rw [hclosed k (by rw [hk]; rfl), hk]
  · rw [hclosed k (by rw [hk]; rfl), hk]
  · rw [hafter.arb, hcleared.tenure, hanswered.arb]
  · rw [hafter.bus, hcleared.inFlight, hanswered.bus, hx]
    rfl
  · rw [hafter.acts]
    exact hcleared.noItems
  · exact (hcleared.ended i (by rw [hanswered.actuator, hi])).congr (hanswered.actuator i) hafter.acts
  · rw [hafter.actuator, hcleared.others i (by rwa [hanswered.actuator]), hanswered.actuator]

end Sys2Proof.Machine
end

section
/-! PROOFS. The handover of the point-bus clock (O29), and SET ECONOMY (O30). -/

set_option Elab.async false

namespace Sys2Proof.Machine

variable (s : State)

/-! ## ECONOMY reported (R95) -/

theorem reportEconomy_unchanged (d : Option Port) {active : Bool} (h : s.clock.economyReported = active) :
    reportEconomy d active s = s := if_pos h

/-- The state in which a start or an end of ECONOMY is reported. -/
def economyNoted (active : Bool) (s : State) : State := s.setClock { s.clock with economyReported := active }

theorem reportEconomy_changed (d : Option Port) {active : Bool} (h : s.clock.economyReported ≠ active) :
    reportEconomy d active s = reportActivity d (.internal .economy) active (economyNoted active s) := if_neg h

/-- ECONOMY reported follows the report, and nothing else of Clock Control changes (R95). -/
theorem reportEconomy_reported (d : Option Port) (active : Bool) :
    (reportEconomy d active s).clock = { s.clock with economyReported := active } := by
  cases active with
  | true => exact reportEconomy_clock s d
  | false =>
    by_cases h : s.clock.economyReported = false
    · rw [reportEconomy_unchanged s d h, ← h]
    · rw [reportEconomy_changed s d h, (reportActivity_frame _ d _ _).clock]
      rfl

/-- The ECONOMY condition starts where it is not reported yet (R95, R105, R116). -/
theorem reportEconomy_enters (d : Option Port) (h : s.clock.economyReported = false)
    (hn : ∀ n ∈ s.notices.entries, n.id ≠ .internal .economy) (hl : s.notices.entries.length < 64) :
    Entered (.internal .economy) 8 s (reportEconomy d true s) := by
  have hstart : reportEconomy d true s = report d (.internal .economy) (.start none) (economyNoted true s) :=
    reportEconomy_changed s d (by simp [h])
  rw [Entered, hstart, report_start_enters (economyNoted true s) d hn hl (by simp [priorityOf, InternalSource.priority])]
  rfl

/-- The end of a reported ECONOMY condition leaves it no entry but a RETURNED one (R95, R107). -/
theorem reportEconomy_returns (d : Option Port) (h : s.clock.economyReported = true) (hs : NoticesSound s) :
    OnlyReturned (.internal .economy) (reportEconomy d false s) := by
  have hend : reportEconomy d false s = report d (.internal .economy) .finish (economyNoted false s) :=
    reportEconomy_changed s d (by simp [h])
  rw [hend]
  exact report_finish_onlyReturned (economyNoted false s) d _ hs

/-! ## The handover (R93) -/

/-- A switch is pending exactly in TO_ECONOMY and TO_FULL (R92). -/
theorem switchPending_iff : switchPending s = true ↔ s.clock.clockState = .toEconomy ∨ s.clock.clockState = .toFull := by
  simp [switchPending]

/-- The end of a handover leaves the clock and the arbiter as an abandoned switch does, in the new state (R93, R94). -/
theorem enterClock_toFull (h : s.clock.clockState = .toFull) : enterClock s = abandonSwitch .full s := by
  simp only [enterClock, h]
  rfl

/-- On entry into ECONOMY the condition is reported (R95). -/
theorem enterClock_toEconomy (h : s.clock.clockState = .toEconomy) :
    enterClock s = reportEconomy none true (abandonSwitch .economy s) := by
  simp only [enterClock, h]
  rfl

theorem exec_handoverBegin (hp : s.por = false) (hc : s.clock.clockState = .toEconomy ∨ s.clock.clockState = .toFull)
    (hh : s.clock.handover = none) (hb : s.bus.busState = .idle) (ht : s.arb.tenure = none) (hl : s.arb.locked = .closed) :
    exec .handoverBegin s = .next (decideHreq (s.setClock { s.clock with handover := some 32 })) := by
  have hready : handoverReady s = true := by
    simp only [handoverReady, (switchPending_iff s).2 hc, hh, hb, ht, hl, decide_true, Bool.and_self]
  exact event_next (f := fun s => s.setClock { s.clock with handover := some 32 }) hp hready

/-- A handover ends for a pending switch whose 32 microseconds have passed (R93). -/
theorem exec_handoverEnd (hp : s.por = false) (hc : s.clock.clockState = .toEconomy ∨ s.clock.clockState = .toFull)
    (hh : s.clock.handover = some 0) : exec .handoverEnd s = .next (decideHreq (enterClock s)) := by
  have hready : (switchPending s && s.clock.handover.expired) = true := by
    rw [(switchPending_iff s).2 hc, timer_expired_iff.2 hh, Bool.and_self]
  exact event_next hp hready

/-- A handover with time left, or that no switch has, does not end. -/
theorem exec_handoverEnd_none
    (h : s.clock.handover ≠ some 0 ∨ s.clock.clockState = .full ∨ s.clock.clockState = .economy) :
    exec .handoverEnd s = .next s := by
  refine event_none (.inr (Bool.and_eq_false_iff.2 ?_))
  rcases h with h | h | h
  · exact .inr (timer_not_expired h)
  · exact .inl (by simp [switchPending, h])
  · exact .inl (by simp [switchPending, h])

/-- Settles O29: the handover's begin sets its timer, and its end enters the new state, with the report of ECONOMY in the one
case. -/
theorem handoverSwitchesClock : Obligations.HandoverSwitchesClock := by
  refine ⟨exec_handoverEnd_none, fun s hp => ⟨fun hc hh hb ht hl => ?_, fun hc hh => ?_, fun hc hh => ?_⟩⟩
  · exact ⟨_, exec_handoverBegin s hp hc hh hb ht hl, (setClock_frame s _).comp (decideHreq_frame _), rfl⟩
  · have hexec := exec_handoverEnd s hp (.inr hc) hh
    rw [enterClock_toFull s hc] at hexec
    exact ⟨_, hexec, (abandonSwitch_frame s .full).comp (decideHreq_frame _), rfl, rfl⟩
  · have hexec := exec_handoverEnd s hp (.inl hc) hh
    rw [enterClock_toEconomy s hc] at hexec
    have hswitch := abandonSwitch_frame s .economy
    have hreport := reportEconomy_frame (abandonSwitch .economy s) none true
    have hhreq := decideHreq_frame (reportEconomy none true (abandonSwitch .economy s))
    refine ⟨_, hexec, (hswitch.comp hreport (n := [.clock, .arb, .notices, .ports, .routes])).comp hhreq, ?_, ?_, fun hr => ?_,
      fun hr hn hl => ?_⟩
    · rw [hhreq.clock, reportEconomy_reported]
      rfl
    · rw [hhreq.arb, hreport.arb]
      rfl
    · rw [reportEconomy_unchanged (abandonSwitch .economy s) none hr] at hhreq ⊢
      exact hswitch.comp hhreq
    · have henter := reportEconomy_enters (abandonSwitch .economy s) none hr hn hl
      rw [Entered] at henter ⊢
      rw [hhreq.notices, henter]
      rfl

/-! ## The wanted state and the rows of R92 (R91, R92, R94) -/

/-- In AUTO the wanted state follows the band of the trigger point (R91). -/
theorem wantedClock_auto (h : s.clock.mode = .auto) : wantedClock s = .economy
    ↔ ∃ i, s.economyTrigger = some i ∧ ((s.point i).live.band = .low ∨ (s.point i).live.band = .lowlow) := by
  simp only [wantedClock, h]
  cases s.economyTrigger with
  | none => simp
  | some i =>
    simp only [Option.some.injEq, exists_eq_left']
    cases (s.point i).live.band <;> simp

theorem wantedClock_forceFull (h : s.clock.mode = .forceFull) : wantedClock s = .full := by simp only [wantedClock, h]

theorem wantedClock_forceEconomy (h : s.clock.mode = .forceEconomy) : wantedClock s = .economy := by
  simp only [wantedClock, h]

theorem actOnWanted_full (d : Option Port) (hc : s.clock.clockState = .full) (hw : s.clock.wanted = .economy) :
    actOnWanted d s = beginSwitch .toEconomy s := by simp only [actOnWanted, hc, hw]

theorem actOnWanted_economy (d : Option Port) (hc : s.clock.clockState = .economy) (hw : s.clock.wanted = .full) :
    actOnWanted d s = reportEconomy d false (beginSwitch .toFull s) := by simp only [actOnWanted, hc, hw]

theorem actOnWanted_toEconomy (d : Option Port) (hc : s.clock.clockState = .toEconomy) (hw : s.clock.wanted = .full) :
    actOnWanted d s = abandonSwitch .full s := by simp only [actOnWanted, hc, hw]

theorem actOnWanted_toFull (d : Option Port) (hc : s.clock.clockState = .toFull) (hw : s.clock.wanted = .economy) :
    actOnWanted d s = reportEconomy d true (abandonSwitch .economy s) := by simp only [actOnWanted, hc, hw]

/-- The mode and the wanted state stand, and of the arbiter only the grant hold may have changed. -/
structure ClockActed (s t : State) : Prop where
  mode : t.clock.mode = s.clock.mode
  wanted : t.clock.wanted = s.clock.wanted
  arb : t.arb = { s.arb with grantHold := t.arb.grantHold }

theorem reportEconomy_acted {s u : State} (h : ClockActed s u) (d : Option Port) (active : Bool) :
    ClockActed s (reportEconomy d active u) := by
  have harb := (reportEconomy_frame u d active).arb
  refine ⟨?_, ?_, ?_⟩
  · rw [reportEconomy_reported]
    exact h.mode
  · rw [reportEconomy_reported]
    exact h.wanted
  · rw [harb]
    exact h.arb

theorem actOnWanted_acted (d : Option Port) : ClockActed s (actOnWanted d s) := by
  have begun : ∀ c, ClockActed s (beginSwitch c s) := fun _ => ⟨rfl, rfl, rfl⟩
  have abandoned : ∀ c, ClockActed s (abandonSwitch c s) := fun _ => ⟨rfl, rfl, rfl⟩
  unfold actOnWanted
  split
  · exact begun _
  · exact reportEconomy_acted (begun _) d _
  · exact abandoned _
  · exact reportEconomy_acted (abandoned _) d _
  · exact ⟨rfl, rfl, rfl⟩

/-- What the rows of R92 make of a new wanted state. -/
structure RowsActed (s t : State) : Prop where
  begins : s.clock.clockState = .full → t.clock.wanted = .economy →
    t.clock.clockState = .toEconomy ∧ t.arb.grantHold = true ∧ t.notices = s.notices
  leaves : s.clock.clockState = .economy → t.clock.wanted = .full →
    t.clock.clockState = .toFull ∧ t.arb.grantHold = true ∧ t.clock.economyReported = false
      ∧ (s.clock.economyReported = true → NoticesSound s → OnlyReturned (.internal .economy) t)
  abandons : s.clock.clockState = .toEconomy → t.clock.wanted = .full →
    t.clock.clockState = .full ∧ t.clock.handover = none ∧ t.arb.grantHold = false ∧ t.notices = s.notices
  returns : s.clock.clockState = .toFull → t.clock.wanted = .economy →
    t.clock.clockState = .economy ∧ t.clock.handover = none ∧ t.arb.grantHold = false ∧ t.clock.economyReported = true

/-- A new wanted state acts on the clock state by the rows of R92, with the reports of R95. -/
theorem actOnWanted_rows (d : Option Port) : RowsActed s (actOnWanted d s) := by
  have hwanted := (actOnWanted_acted s d).wanted
  refine ⟨fun hc hw => ?_, fun hc hw => ?_, fun hc hw => ?_, fun hc hw => ?_⟩
  · rw [actOnWanted_full s d hc (hwanted.symm.trans hw)]
    exact ⟨rfl, rfl, rfl⟩
  · rw [actOnWanted_economy s d hc (hwanted.symm.trans hw), reportEconomy_reported, (reportEconomy_frame _ d false).arb]
    exact ⟨rfl, rfl, rfl, fun hr hs => reportEconomy_returns (beginSwitch .toFull s) d hr hs⟩
  · rw [actOnWanted_toEconomy s d hc (hwanted.symm.trans hw)]
    exact ⟨rfl, rfl, rfl, rfl⟩
  · rw [actOnWanted_toFull s d hc (hwanted.symm.trans hw), reportEconomy_reported, (reportEconomy_frame _ d true).arb]
    exact ⟨rfl, rfl, rfl, rfl⟩

/-- The rows read the clock, the grant hold and the Notice Table alone. -/
theorem RowsActed.congr {s t s' t' : State} (h : RowsActed s t) (hstate : s'.clock.clockState = s.clock.clockState)
    (hreported : s'.clock.economyReported = s.clock.economyReported) (hnotices : s'.notices = s.notices)
    (hclock : t'.clock = t.clock) (harb : t'.arb = t.arb) (hn : t'.notices = t.notices) : RowsActed s' t' := by
  obtain ⟨hbegins, hleaves, habandons, hreturns⟩ := h
  constructor
  all_goals simp only [OnlyReturned, NoticesSound, hstate, hreported, hnotices, hclock, harb, hn]
  · exact hbegins
  · exact hleaves
  · exact habandons
  · exact hreturns

/-- The state in which a new wanted state acts on the clock state. -/
def wantedNoted (s : State) : State := s.setClock { s.clock with wanted := wantedClock s }

theorem reevaluateClock_unchanged (d : Option Port) (h : wantedClock s = s.clock.wanted) : reevaluateClock d s = s := if_pos h

theorem reevaluateClock_changed (d : Option Port) (h : wantedClock s ≠ s.clock.wanted) :
    reevaluateClock d s = actOnWanted d (wantedNoted s) := if_neg h

/-- The re-evaluation leaves the wanted state of R91, the mode as it was, and of the arbiter all but the grant hold. -/
theorem reevaluateClock_acted (d : Option Port) : ClockActed (wantedNoted s) (reevaluateClock d s) := by
  by_cases h : wantedClock s = s.clock.wanted
  · rw [reevaluateClock_unchanged s d h]
    exact ⟨rfl, h.symm, rfl⟩
  · rw [reevaluateClock_changed s d h]
    exact actOnWanted_acted _ d

/-! ## SET ECONOMY (R96) -/

theorem economyModeOf_code (m : EconomyMode) : economyModeOf m.code = some m := by cases m <;> rfl

theorem economyModeOf_none {b : Byte} (h : 2 < b.toNat) : economyModeOf b = none := by
  unfold economyModeOf
  split
  · omega
  · omega
  · omega
  · rfl

/-- The state in which SET ECONOMY has the wanted state re-evaluated: the request is taken and the mode set. -/
def modeSet (m : EconomyMode) (s : State) : State :=
  (takeHead .hut s).setClock { (takeHead .hut s).clock with mode := m }

theorem modeSet_frame (m : EconomyMode) : ChangesOnly [.ports, .clock] s (modeSet m s) :=
  (takeHead_frame s .hut).comp (setClock_frame _ _)

theorem modeSet_clock (m : EconomyMode) : (modeSet m s).clock = { s.clock with mode := m } := by
  rw [modeSet, setClock_clock, takeHead_clock]

/-- SET ECONOMY answers with the mode, the wanted state and the clock state that the re-evaluation leaves. -/
def economyReply (m : EconomyMode) (t : State) : Reply := ⟨.ok, [m.code, t.clock.wanted.code, t.clock.clockState.code]⟩

theorem serveSetEconomy_accepted (m : EconomyMode) {req : Request} (h : byteAt req.body 0 = m.code) :
    serveSetEconomy (some .hut) req (takeHead .hut s) = (reevaluateClock (some .hut) (modeSet m s),
      some (economyReply m (reevaluateClock (some .hut) (modeSet m s)))) := by
  have hmode : (reevaluateClock (some .hut) (modeSet m s)).clock.mode = m := by
    rw [(reevaluateClock_acted (modeSet m s) (some .hut)).mode]
    rfl
  have hserve : serveSetEconomy (some .hut) req (takeHead .hut s) = (reevaluateClock (some .hut) (modeSet m s),
      some (economyReply (reevaluateClock (some .hut) (modeSet m s)).clock.mode
        (reevaluateClock (some .hut) (modeSet m s)))) := by
    simp only [serveSetEconomy, h, economyModeOf_code]
    rfl
  rw [hserve, hmode]

/-- Settles O30: the mode is set, and the re-evaluation changes nothing or acts by a row of R92. -/
theorem economyModeActsOnClock : Obligations.EconomyModeActsOnClock := by
  intro s req h
  refine ⟨fun hb => answersOnly_of_kind h (by decide) rfl (by simp [serveSetEconomy, economyModeOf_none hb, refuse, bare]),
    fun m hm => ?_⟩
  have hset := modeSet_frame s m
  have hclock := modeSet_clock s m
  have hacted := reevaluateClock_acted (modeSet m s) (some .hut)
  have hframe := reevaluateClock_frame (modeSet m s) (some .hut)
  have hdelivers : Delivers (some .hut) (takeHead .hut s) (reevaluateClock (some .hut) (modeSet m s)) :=
    (Delivers.of_frame (setClock_frame (takeHead .hut s) _)).trans (reevaluateClock_delivers _ _)
  obtain ⟨t, ht, hans, -, hk⟩ := serve_answeredAfter h.1 (ofKind_of_asked h) (serveSetEconomy_accepted s m hm) hdelivers
    (.inl (kind_ne_restart h.2 (by decide)))
  have hwanted : t.clock.wanted = wantedClock (modeSet m s) := by
    rw [hk.clock]
    exact hacted.wanted
  have hmode : (modeSet m s).clock.mode = m := by rw [hclock]
  have harb : (wantedNoted (modeSet m s)).arb = s.arb := hset.arb
  refine ⟨t, ht, ?_, (hset.comp hframe (n := [.clock, .arb, .notices, .ports, .routes])).comp hk, ?_, ?_, fun e => ?_, fun e => ?_,
    fun e => ?_, fun hsame => ?_, fun hnew => ?_⟩
  · rw [hm, hk.clock]
    exact hans
  · rw [hk.clock]
    exact hacted.mode.trans hmode
  · rw [hk.arb, ← harb]
    exact hacted.arb
  · rw [hwanted, wantedClock_forceFull _ (hmode.trans e)]
  · rw [hwanted, wantedClock_forceEconomy _ (hmode.trans e)]
  · rw [hwanted, wantedClock_auto _ (hmode.trans e), hset.economyTrigger]
    simp only [hset.point]
  · rw [hk.clock, hk.arb, hk.notices, reevaluateClock_unchanged _ _ (by rw [← hwanted, hsame, hclock])]
    exact ⟨hclock, hset.arb, hset.notices⟩
  · have hrows := actOnWanted_rows (wantedNoted (modeSet m s)) (some .hut)
    rw [← reevaluateClock_changed _ _ (by rw [← hwanted, hclock]; exact hnew)] at hrows
    obtain ⟨hbegins, hleaves, habandons, hreturns⟩ := hrows.congr (s' := s) (by rw [wantedNoted, setClock_clock, hclock])
      (by rw [wantedNoted, setClock_clock, hclock]) hset.notices.symm hk.clock hk.arb hk.notices
    exact ⟨hbegins, hleaves, habandons, hreturns⟩

end Sys2Proof.Machine
end

section
/-! PROOFS. The reserved grant of an exchange (O32). -/

set_option Elab.async false

namespace Sys2Proof.Machine

variable (s : State)

/-! ## The grant (R86, R88) -/

theorem restartRunning_eq_false (h : NotRestarting s) : restartRunning s = false := by
  unfold restartRunning
  split
  · next p hp => exact absurd hp (h p)
  · rfl

/-- The state in which the feedback read is composed: the locked tenure is SECOND, and the grant counts for a waiting Scanner. -/
def reservedFor (s : State) : State := s.setArb { s.arb with locked := .second, scannerWait := countedWait s }

theorem reservedFor_frame : ChangesOnly [.arb] s (reservedFor s) := setArb_frame s _

theorem reservedFor_feedback (i : ActIx) : composeFeedback (reservedFor s) i = composeFeedback s i :=
  composeFeedback_congr rfl rfl rfl

theorem exec_reservedGrant {x : RunningItem} {o : WriteOutcome} (hp : s.por = false) (hx : s.acts.running = some x)
    (ho : x.outcome = some o) (hl : s.arb.locked = .first) (hb : s.bus.busState = .idle) (he : s.bus.ended = none)
    (hr : NotRestarting s) : exec .reservedGrant s = .next (decideHreq (beginFeedback x o (reservedFor s))) := by
  have hbetween : exchangeBetween s = some (x, o) := by simp [exchangeBetween, hx, ho]
  have hready : reservedReady s = true := by
    simp only [reservedReady, hl, hb, he, restartRunning_eq_false s hr, decide_true, Bool.not_false, Bool.and_self]
  show execReservedGrant s = _
  simp only [execReservedGrant, hbetween]
  exact event_next hp hready

/-! ## The feedback read begins (R88, R152) -/

theorem setRunning_self {x : Option RunningItem} (h : s.acts.running = x) : s.setRunning x = s := by
  subst h
  rfl

/-- The item keeps its outcome while its feedback read runs. -/
theorem beginFeedback_begins {x : RunningItem} {o : WriteOutcome} {y : Transaction} (hx : s.acts.running = some x)
    (ho : x.outcome = some o) (hy : composeFeedback s x.item.target = some y) :
    beginFeedback x o s = beginTransaction y s := by
  have hitem : { x with outcome := some o } = x := by rw [← ho]
  simp only [beginFeedback, hy, hitem, setRunning_self s hx]

/-! ## The exchange completes without a feedback read (R88, R152) -/

theorem takeEnded_none (h : s.bus.ended = none) : takeEnded s = s := by
  have hbus : { s.bus with ended := none } = s.bus := by rw [← h]
  rw [takeEnded, hbus]
  rfl

/-- A failed sample of the feedback point, if there is one, changes points and notices and what Notice Delivery does. -/
theorem takeFeedback_failed (d : Option Port) (i : ActIx) (why : FailReason) :
    ChangesOnly [.points, .notices, .ports, .routes] s (takeFeedback d i (.failed why) s)
      ∧ Delivers d s (takeFeedback d i (.failed why) s) := by
  cases h : feedbackOf s i with
  | none =>
    have hnone : takeFeedback d i (.failed why) s = s := by simp only [takeFeedback, h]
    rw [hnone]
    exact ⟨.refl _ s, .refl s d⟩
  | some x =>
    obtain ⟨j, e⟩ := x
    have hsample := takeSample_sampleFailed s d j why
    rw [takeFeedback_some s h]
    exact ⟨hsample.frame, hsample.delivers⟩

/-- The state once the tenures have closed and the feedback sample has failed. -/
def feedbackGivenUp (x : RunningItem) (s : State) : State :=
  takeFeedback (itemDeferral (exchangeClosed x.item.target s) x) x.item.target (.failed .address)
    (exchangeClosed x.item.target s)

section givenUp
variable (x : RunningItem)

/-- An exchange whose feedback read cannot be composed completes with a failed sample. -/
theorem beginFeedback_none (o : WriteOutcome) (hc : composeFeedback s x.item.target = none) (he : s.bus.ended = none)
    (hx : expiryDue s x.item.target = false) : decideHreq (beginFeedback x o s)
      = itemAnswered x (exchangeReply x o (.failed .address) (0, 0) (feedbackGivenUp x s)) (feedbackGivenUp x s) := by
  have hexp : takeExpiry x.item.target (exchangeClosed x.item.target s) = exchangeClosed x.item.target s :=
    takeExpiry_none _ (by rw [exchangeClosed_expiryDue, hx])
  have hreport : ∀ u, readReport u x.item.target (.failed .address) = (0, 0) := fun _ => by simp [readReport]
  have hfinish : finishExchange x o (.failed .address) (takeEnded s) = (fun u : State =>
      requestActuator (respondItem x (exchangeReply x o (.failed .address) (readReport u x.item.target (.failed .address))
        (takeFeedback (itemDeferral u x) x.item.target (.failed .address) u))
        (takeFeedback (itemDeferral u x) x.item.target (.failed .address) u)))
      (takeExpiry x.item.target (exchangeClosed x.item.target s)) := rfl
  rw [takeEnded_none s he, hexp] at hfinish
  simp only [beginFeedback, hc, hfinish, hreport]
  rfl

theorem feedbackGivenUp_sampled :
    ChangesOnly [.points, .notices, .ports, .routes] (exchangeClosed x.item.target s) (feedbackGivenUp x s) :=
  (takeFeedback_failed _ _ _ _).1

theorem feedbackGivenUp_point {j : PointIx} {d : Descriptor} (h : feedbackOf s x.item.target = some (j, d)) :
    ((feedbackGivenUp x s).point j).live = sampledLive d s.scan.cycleNumber (s.point j) (.failed .address) := by
  have hclosed := exchangeClosed_frame s x.item.target
  rw [feedbackGivenUp, takeFeedback_some _ ((exchangeClosed_feedbackOf s x.item.target).trans h),
    (takeSample_self _ ((hclosed.descOf j).trans (feedbackOf_descOf s h)) _ _).1, hclosed.scan, hclosed.point]

/-- The executor that holds on the exchange keeps its request and its place (R124). -/
theorem feedbackGivenUp_keepsRequest {p : Port} (ha : x.answer = true) (hp : x.item.port = some p)
    (hr : (s.port p).output.length < Config.outputPlaces) : KeepsRequest p s (feedbackGivenUp x s) := by
  have hclosed := exchangeClosed_frame s x.item.target
  have hdel := (takeFeedback_failed (exchangeClosed x.item.target s) (itemDeferral (exchangeClosed x.item.target s) x)
    x.item.target .address).2
  have hdef := itemDeferral_some (exchangeClosed x.item.target s) ha hp (by rw [hclosed.port]; exact hr)
  rw [hdef] at hdel
  rw [feedbackGivenUp, hdef]
  exact (KeepsRequest.of_frame hclosed).trans hdel.keepsRequest

end givenUp

/-- The response of an item and the unit's request give no tenure. -/
theorem itemAnswered_tenureKept (x : RunningItem) (reply : Reply) : TenureKept s (itemAnswered x reply s) :=
  ((TenureKept.of_arb (respondItem_frame s x reply).arb).trans (requestActuator_tenureKept _)).trans
    (.of_arb (decideHreq_frame _).arb)

/-- No exchange without a feedback read is answered OK (R152). -/
theorem exchangeResult_address (w : Option FailReason) : exchangeResult w (some .address) ≠ .ok := by
  cases w with
  | none => nofun
  | some why => cases why <;> nofun

/-- With no results to take, the closing of the tenures leaves the bus as it is. -/
theorem exchangeClosed_bus (h : s.bus.ended = none) (i : ActIx) : ChangesOnly [.arb, .acts] s (exchangeClosed i s) := by
  refine (exchangeClosed_frame s i).without (b := .bus) ?_
  rw [exchangeClosed, takeEnded_none s h]
  exact ((closeLocked_frame s).comp (setInFlight_frame _ i .no) (n := [.arb, .acts])).bus

/-- What the exchange of item x with write outcome o leaves once its feedback read could not be composed. -/
structure ExchangeGivenUp (x : RunningItem) (o : WriteOutcome) (s t : State) : Prop where
  tenure : t.arb.tenure = none
  locked : t.arb.locked = .closed
  running : t.acts.running = none
  inFlight : (t.actuator x.item.target).inFlight = .no
  frame : ChangesOnly [.points, .arb, .acts, .notices, .ports, .routes, .hreq] s t
  sampled : ∀ j d, feedbackOf s x.item.target = some (j, d) →
    (t.point j).live = sampledLive d s.scan.cycleNumber (s.point j) (.failed .address)
  answered : ∀ p req, x.answer = true → x.item.port = some p → (s.port p).executor = .serving req →
    (s.port p).output.length < Config.outputPlaces →
    HeldAnswered p req (exchangeResult o.failure (some .address)) (exchangePart x.item.target
      (t.actuator x.item.target) x.value o.beats (some .address) 0 0) t

theorem beginFeedback_givenUp {x : RunningItem} (o : WriteOutcome) (he : s.bus.ended = none)
    (hc : composeFeedback s x.item.target = none) (hx : expiryDue s x.item.target = false) :
    ExchangeGivenUp x o s (decideHreq (beginFeedback x o s)) := by
  rw [beginFeedback_none s x o hc he hx]
  generalize hreply : exchangeReply x o (.failed .address) (0, 0) (feedbackGivenUp x s) = reply
  have hrefusal : reply.result ≠ .ok := by
    rw [← hreply]
    exact exchangeResult_address o.failure
  have hclosed := exchangeClosed_bus s he x.item.target
  have hsampled := feedbackGivenUp_sampled s x
  have hlast := itemAnswered_frame (feedbackGivenUp x s) x hrefusal
  have htenure := (TenureKept.of_arb hsampled.arb).trans (itemAnswered_tenureKept (feedbackGivenUp x s) x reply)
  refine ⟨htenure.tenure, htenure.locked, ?_, ?_, ?_, fun j d hf => ?_, fun p req ha hp hserving hroom => ?_⟩
  · rw [hlast.acts, hsampled.acts]
    rfl
  · rw [hlast.actuator, hsampled.actuator, exchangeClosed_actuator]
  · exact (hclosed.comp hsampled (n := [.points, .arb, .acts, .notices, .ports, .routes])).comp hlast
  · rw [hlast.point]
    exact feedbackGivenUp_point s x hf
  · have hkeep := feedbackGivenUp_keepsRequest s x ha hp hroom
    have hans := itemAnswered_answers (feedbackGivenUp x s) x hrefusal ha hp (hkeep.executor.trans hserving)
      (by rw [hkeep.room]; exact hroom)
    rw [hlast.actuator]
    subst hreply
    exact hans

/-- Settles O32: the feedback read begins, or the exchange completes with a failed sample. -/
theorem reservedGrantReadsFeedback : Obligations.ReservedGrantReadsFeedback := by
  intro s x o hp hx ho hl hb he hr _
  have hexec := exec_reservedGrant s hp hx ho hl hb he hr
  have hgrant := reservedFor_frame s
  refine ⟨fun y hy => ?_, fun hc hexp => ?_⟩
  · rw [beginFeedback_begins (reservedFor s) hx ho ((reservedFor_feedback s _).trans hy)] at hexec
    have hhreq := decideHreq_frame (beginTransaction y (reservedFor s))
    refine ⟨_, hexec, (hgrant.comp (beginTransaction_frame _ y) (n := [.bus, .arb])).comp hhreq, ?_, ?_⟩
    · rw [hhreq.bus]
      rfl
    · rw [hhreq.arb]
      rfl
  · have hup := beginFeedback_givenUp (reservedFor s) o he ((reservedFor_feedback s _).trans hc) hexp
    exact ⟨_, hexec, hup.tenure, hup.locked, hup.running, hup.inFlight, hgrant.comp hup.frame, hup.sampled, hup.answered⟩

end Sys2Proof.Machine
end

section
/-! SUPPORT. What a completed write leaves of its actuator, the work list and the FAULT condition (R149, R154, R156). -/

set_option Elab.async false

namespace Sys2Proof.Machine

variable (s : State)

/-! ## A successful write (R154, R156) -/

/-- An actuator entry after a successful write. -/
def succeededEntry (v : Word16) (e : ActuatorEntry) : ActuatorEntry := { e with output := some v, faultCount := 0, fault := false }

section succeeded
variable (d : Option Port) (i : ActIx) (v : Word16)

theorem writeSucceeded_eq : writeSucceeded d i v s = if (s.actuator i).fault
    then report d (.actuator i) .finish (s.setActuator i (succeededEntry v (s.actuator i)))
    else s.setActuator i (succeededEntry v (s.actuator i)) := rfl

theorem writeSucceeded_acts : (writeSucceeded d i v s).acts = (s.setActuator i (succeededEntry v (s.actuator i))).acts := by
  rw [writeSucceeded_eq]
  split
  · exact (report_frame _ d _ _).acts
  · rfl

theorem writeSucceeded_actuator (a : ActIx) : (writeSucceeded d i v s).actuator a
    = if a = i then succeededEntry v (s.actuator i) else s.actuator a := by
  rw [← setActuator_actuator]
  exact congrArg (fun x => x.entries.get a) (writeSucceeded_acts s d i v)

theorem writeSucceeded_delivers : Delivers d s (writeSucceeded d i v s) := by
  have hset : Delivers d s (s.setActuator i (succeededEntry v (s.actuator i))) := .of_frame (setActuator_frame s i _)
  rw [writeSucceeded_eq]
  split
  · exact hset.trans (report_delivers _ d _ _)
  · exact hset

theorem writeSucceeded_quiet (h : (s.actuator i).fault = false) : (writeSucceeded d i v s).notices = s.notices := by
  rw [writeSucceeded_eq, h]
  rfl

/-- The success that clears FAULT ends its condition (R107, R156). -/
theorem writeSucceeded_returns (h : (s.actuator i).fault = true) (hs : NoticesSound s) :
    OnlyReturned (.actuator i) (writeSucceeded d i v s) := by
  rw [writeSucceeded_eq, if_pos h]
  exact report_finish_onlyReturned (s.setActuator i _) d _ hs

end succeeded

/-! ## The refresh timer and a pending REFRESH (R149, R154) -/

theorem restartsTimer_iff {w : WorkItem} {i : ActIx} (h : w.target = i) : restartsTimer w = true ↔ w ≠ .refresh i := by
  subst h
  cases w <;> simp [restartsTimer, WorkItem.target]

theorem clearsRefresh_iff {w : WorkItem} {i : ActIx} (h : w.target = i) :
    clearsRefresh w = true ↔ w ≠ .policy i ∧ w ≠ .refresh i := by
  subst h
  cases w <;> simp [clearsRefresh, WorkItem.target]

/-- The refresh timer once it has restarted: of a HELD actuator it runs for the interval, a LATCHED one has none to restart. -/
def restartedTimer (e : ActuatorEntry) : Timer :=
  match e.desc with
  | none => e.refreshTimer
  | some d => if d.kind = .held then some d.interval else e.refreshTimer

theorem restartedTimer_some {e : ActuatorEntry} {d : ActDescriptor} (h : e.desc = some d) :
    restartedTimer e = if d.kind = .held then some d.interval else e.refreshTimer := by
  simp only [restartedTimer, h]

/-- A restart of the refresh timer changes that timer alone. -/
theorem restartRefresh_actuator (i a : ActIx) : (restartRefresh i s).actuator a
    = if a = i then { s.actuator i with refreshTimer := restartedTimer (s.actuator i) } else s.actuator a := by
  unfold restartRefresh restartedTimer
  cases (s.actuator i).desc with
  | none =>
    by_cases ha : a = i
    · subst ha
      simp
    · simp [ha]
  | some d =>
    by_cases hk : d.kind = .held
    · simp only [hk, if_true, setActuator_actuator]
    · by_cases ha : a = i
      · subst ha
        simp [hk]
      · simp [hk, ha]

theorem restartRefresh_work (i : ActIx) : (restartRefresh i s).acts.workList = s.acts.workList
    ∧ (restartRefresh i s).acts.running = s.acts.running := by
  unfold restartRefresh
  split
  · exact ⟨rfl, rfl⟩
  · split
    · exact ⟨rfl, rfl⟩
    · exact ⟨rfl, rfl⟩

/-- What a successful write of an item does once its actuator is written: the timer restarts, and a pending REFRESH goes. -/
def settleRefresh (w : WorkItem) (i : ActIx) (s : State) : State :=
  let s1 := if restartsTimer w then restartRefresh i s else s
  if clearsRefresh w then dropRefresh i s1 else s1

section refresh
variable (w : WorkItem) (i : ActIx)

theorem settleRefresh_frame : ChangesOnly [.acts] s (settleRefresh w i s) := by
  have htimer : ChangesOnly [.acts] s (if restartsTimer w then restartRefresh i s else s) := by
    split
    · exact restartRefresh_frame s i
    · exact .refl _ s
  unfold settleRefresh
  simp only []
  split
  · exact htimer.comp (dropRefresh_frame _ i)
  · exact htimer

theorem settleRefresh_actuator (a : ActIx) : (settleRefresh w i s).actuator a = if a = i ∧ restartsTimer w = true
    then { s.actuator i with refreshTimer := restartedTimer (s.actuator i) } else s.actuator a := by
  have hdrop : (settleRefresh w i s).actuator a = (if restartsTimer w then restartRefresh i s else s).actuator a := by
    unfold settleRefresh
    simp only []
    split <;> rfl
  rw [hdrop]
  by_cases hw : restartsTimer w = true
  · rw [if_pos hw, restartRefresh_actuator]
    simp only [hw, and_true]
  · rw [if_neg hw, if_neg fun h => hw h.2]

theorem settleRefresh_work : (settleRefresh w i s).acts.workList
      = (if clearsRefresh w = true then s.acts.workList.filter (fun x => decide (x ≠ .refresh i)) else s.acts.workList)
    ∧ (settleRefresh w i s).acts.running = s.acts.running := by
  have htimer : (if restartsTimer w then restartRefresh i s else s).acts.workList = s.acts.workList
      ∧ (if restartsTimer w then restartRefresh i s else s).acts.running = s.acts.running := by
    split
    · exact restartRefresh_work s i
    · exact ⟨rfl, rfl⟩
  unfold settleRefresh
  simp only []
  split
  · simp only [dropRefresh, setWorkList_acts, htimer, and_self]
  · exact htimer

end refresh

theorem writeOutcome_none (d : Option Port) (w : WorkItem) (i : ActIx) (v : Word16) :
    writeOutcome d w i v none s = settleRefresh w i (writeSucceeded d i v s) := rfl

theorem writeOutcome_some (d : Option Port) (w : WorkItem) (i : ActIx) (v : Word16) (why : FailReason) :
    writeOutcome d w i v (some why) s = writeFailed d i s := rfl

theorem writeOutcome_delivers (d : Option Port) (w : WorkItem) (i : ActIx) (v : Word16) (f : Option FailReason) :
    Delivers d s (writeOutcome d w i v f s) := by
  cases f with
  | none => exact (writeSucceeded_delivers s d i v).trans (.of_frame (settleRefresh_frame _ w i))
  | some why => exact writeFailed_delivers s d i

/-! ## A write of either outcome (R149, R154, R156) -/

/-- The FAULT condition that a failed write starts, entered where a place is free (R105, R116, R156). -/
theorem writeFailed_entered (d : Option Port) (i : ActIx) (h0 : (s.actuator i).fault = false)
    (h1 : (failedEntry (s.actuator i)).fault = true) (hn : ∀ n ∈ s.notices.entries, n.id ≠ .actuator i)
    (hl : s.notices.entries.length < 64) {a : ActDescriptor} (ha : (s.actuator i).desc = some a) (hp : a.faultPriority ≠ 0) :
    Entered (.actuator i) a.faultPriority s (writeFailed d i s) := by
  have hpri : priorityOf (s.setActuator i (failedEntry (s.actuator i))) (.actuator i) none = a.faultPriority := by
    simp [priorityOf, failedEntry, ha]
  rw [Entered, writeFailed_eq, if_pos (by simp [h0, h1]),
    report_start_enters (s.setActuator i _) d hn hl (by rw [hpri]; exact hp), newNotice, hpri]
  rfl

/-- What the completed write of an item leaves of its actuator i, the work list and the Notice Table. -/
structure WriteTaken (w : WorkItem) (i : ActIx) (v : Word16) (f : Option FailReason) (s t : State) : Prop where
  counted : WriteCounted (s.actuator i) v f (t.actuator i)
  others : ∀ j, j ≠ i → t.actuator j = s.actuator j
  timer : f = none → ∀ d, (s.actuator i).desc = some d → (t.actuator i).refreshTimer
    = if d.kind = .held ∧ w ≠ .refresh i then some d.interval else (s.actuator i).refreshTimer
  work : t.acts.workList = if f = none ∧ w ≠ .policy i ∧ w ≠ .refresh i
    then s.acts.workList.filter (fun x => decide (x ≠ .refresh i)) else s.acts.workList
  entered : (s.actuator i).fault = false → (t.actuator i).fault = true → (∀ n ∈ s.notices.entries, n.id ≠ .actuator i) →
    s.notices.entries.length < 64 → ∀ d, (s.actuator i).desc = some d → d.faultPriority ≠ 0 →
    Entered (.actuator i) d.faultPriority s t
  quiet : (s.actuator i).fault = (t.actuator i).fault → t.notices = s.notices
  returned : (s.actuator i).fault = true → (t.actuator i).fault = false → NoticesSound s → OnlyReturned (.actuator i) t

theorem writeFailed_taken (d : Option Port) (w : WorkItem) (i : ActIx) (v : Word16) (why : FailReason) :
    WriteTaken w i v (some why) s (writeFailed d i s) := by
  have hself : (writeFailed d i s).actuator i = failedEntry (s.actuator i) := by rw [writeFailed_actuator, if_pos rfl]
  have hfault := failedEntry_fault (s.actuator i)
  refine ⟨?_, fun j hj => by rw [writeFailed_actuator, if_neg hj], nofun, ?_, fun h0 h1 hn hl a ha hp => ?_, fun h => ?_,
    fun h0 h1 => ?_⟩
  · rw [hself]
    exact failedEntry_counted _ v (s.actuator i).inFlight why
  · rw [writeFailed_acts, if_neg nofun]
    rfl
  · rw [hself] at h1
    exact writeFailed_entered s d i h0 h1 hn hl ha hp
  · rw [hself] at h
    exact writeFailed_quiet s d i h
  · rw [hself, hfault, h0] at h1
    cases h1

theorem writeSucceeded_taken (d : Option Port) {w : WorkItem} {i : ActIx} (hw : w.target = i) (v : Word16) :
    WriteTaken w i v none s (settleRefresh w i (writeSucceeded d i v s)) := by
  have hframe := settleRefresh_frame (writeSucceeded d i v s) w i
  have hwork := (settleRefresh_work (writeSucceeded d i v s) w i).1
  have hwritten := writeSucceeded_actuator s d i v
  have hself : (settleRefresh w i (writeSucceeded d i v s)).actuator i = { succeededEntry v (s.actuator i) with
      refreshTimer := if w ≠ .refresh i then restartedTimer (s.actuator i) else (s.actuator i).refreshTimer } := by
    rw [settleRefresh_actuator, hwritten, if_pos rfl]
    simp only [true_and, restartsTimer_iff hw]
    split
    · rfl
    · rfl
  rw [writeSucceeded_acts] at hwork
  refine ⟨?_, fun j hj => ?_, fun _ a ha => ?_, ?_, fun _ h1 => ?_, fun h => ?_, fun h0 _ hs => ?_⟩
  · rw [hself]
    exact ⟨rfl, rfl, rfl, rfl, fun _ => ⟨rfl, rfl, rfl⟩, fun hn => absurd rfl hn⟩
  · rw [settleRefresh_actuator, if_neg fun h => hj h.1, hwritten, if_neg hj]
  · rw [hself, restartedTimer_some ha]
    by_cases hr : w = .refresh i
    · simp [hr]
    · simp [hr]
  · rw [hwork]
    simp only [clearsRefresh_iff hw, true_and]
    rfl
  · rw [hself] at h1
    cases h1
  · rw [hself] at h
    rw [hframe.notices, writeSucceeded_quiet s d i v h]
  · have hret := writeSucceeded_returns s d i v h0 hs
    unfold OnlyReturned at hret ⊢
    rwa [hframe.notices]

theorem writeOutcome_taken (d : Option Port) {w : WorkItem} {i : ActIx} (hw : w.target = i) (v : Word16)
    (f : Option FailReason) : WriteTaken w i v f s (writeOutcome d w i v f s) := by
  cases f with
  | none => exact writeSucceeded_taken s d hw v
  | some why => exact writeFailed_taken s d w i v why

/-- A completed write changes neither the actuator's in flight nor the running item. -/
theorem writeOutcome_flight (d : Option Port) (w : WorkItem) (i : ActIx) (v : Word16) (f : Option FailReason) :
    ((writeOutcome d w i v f s).actuator i).inFlight = (s.actuator i).inFlight
      ∧ (writeOutcome d w i v f s).acts.running = s.acts.running := by
  cases f with
  | none =>
    rw [writeOutcome_none, settleRefresh_actuator, (settleRefresh_work _ w i).2, writeSucceeded_actuator, writeSucceeded_acts,
      if_pos rfl]
    refine ⟨?_, rfl⟩
    split
    · rfl
    · rfl
  | some why =>
    rw [writeOutcome_some, writeFailed_actuator, writeFailed_acts, if_pos rfl]
    exact ⟨rfl, rfl⟩

/-- What a write leaves, seen from a later state with the same actuators, work list and notices. -/
theorem WriteTaken.congr {w : WorkItem} {i : ActIx} {v : Word16} {f : Option FailReason} {s t t' : State}
    (h : WriteTaken w i v f s t) (ha : ∀ j, t'.actuator j = t.actuator j) (hw : t'.acts.workList = t.acts.workList)
    (hn : t'.notices = t.notices) : WriteTaken w i v f s t' := by
  obtain ⟨hcounted, hothers, htimer, hwork, hentered, hquiet, hreturned⟩ := h
  constructor
  all_goals simp only [Entered, OnlyReturned, ha, hw, hn]
  · exact hcounted
  · exact hothers
  · exact htimer
  · exact hwork
  · exact hentered
  · exact hquiet
  · exact hreturned

end Sys2Proof.Machine
end

section
/-! PROOFS. The completion of an item's write (O43). -/

set_option Elab.async false

namespace Sys2Proof.Machine

variable (s : State)

/-! ## The results taken (R149) -/

theorem execActuatorWriteCompletion_eq {s : State} {x : Transaction} {y : RunningItem} (hp : s.por = false)
    (he : s.bus.ended = some x) (hy : s.acts.running = some y) (hx : x.requester = .actuatorUnit)
    (hk : x.kind = .singleWrite ∨ x.kind = .doubleWrite) : execActuatorWriteCompletion s
      = .next (decideHreq (if x.exchangeWrite then completeExchangeWrite x y s else completeItemWrite x y s)) := by
  have hwrite : x.kind.isWrite = true := by rcases hk with hk | hk <;> rw [hk] <;> rfl
  have hended : unitEnded s true = some (x, y) := by simp [unitEnded, he, hy, hx, hwrite]
  simp only [execActuatorWriteCompletion, hended]
  rw [event_next hp rfl]
  split
  · rfl
  · rfl

/-! ## The write of an exchange (R88, R152) -/

theorem completeExchangeWrite_taken (x : Transaction) (y : RunningItem) :
    WriteTaken y.item y.item.target y.value x.failure s (completeExchangeWrite x y s) := by
  obtain ⟨hcounted, hothers, htimer, hwork, hentered, hquiet, hreturned⟩ :=
    writeOutcome_taken (takeEnded s) none (w := y.item) rfl y.value x.failure
  exact ⟨hcounted, hothers, htimer, hwork, hentered, hquiet, hreturned⟩

theorem completeExchangeWrite_parts (x : Transaction) (y : RunningItem) :
    ChangesOnly [.bus, .acts, .notices, .ports, .routes] s (completeExchangeWrite x y s) :=
  ((setBus_frame s _).comp (writeOutcome_frame _ none _ _ _ _) (n := [.bus, .acts, .notices, .ports, .routes])).comp
    (setRunning_frame _ _)

theorem completeExchangeWrite_bus (x : Transaction) (y : RunningItem) :
    (completeExchangeWrite x y s).bus = { s.bus with ended := none } :=
  (writeOutcome_frame (takeEnded s) none y.item y.item.target y.value x.failure).bus

/-! ## The write of another item (R149) -/

/-- The state in which a completed write counts: the results are taken, the tenure is closed, and no item runs. -/
def writeClosed (i : ActIx) (s : State) : State := (setInFlight i .no (dropGrant (takeEnded s))).setRunning none

section closed
variable (i : ActIx)

theorem writeClosed_frame : ChangesOnly [.bus, .arb, .acts] s (writeClosed i s) :=
  (((setBus_frame s _).comp (dropGrant_frame _) (n := [.bus, .arb, .acts])).comp (setInFlight_frame _ _ _)
    (n := [.bus, .arb, .acts])).comp (setRunning_frame _ _)

theorem writeClosed_actuator (j : ActIx) :
    (writeClosed i s).actuator j = if j = i then { s.actuator i with inFlight := .no } else s.actuator j := by
  rw [writeClosed, setRunning_actuator, setInFlight, setActuator_actuator]
  rfl

theorem writeClosed_noExpiry (h : expiryDue s i = false) : takeExpiry i (writeClosed i s) = writeClosed i s := by
  refine takeExpiry_none _ ?_
  simp only [expiryDue, writeClosed_actuator, if_true]
  exact h

/-- The closing of the tenure is no part of what a write leaves. -/
theorem writeClosed_taken {w : WorkItem} {i : ActIx} {v : Word16} {f : Option FailReason} {t : State}
    (h : WriteTaken w i v f (writeClosed i s) t) : WriteTaken w i v f s t := by
  have hself := writeClosed_actuator s i i
  rw [if_pos rfl] at hself
  obtain ⟨hcounted, hothers, htimer, hwork, hentered, hquiet, hreturned⟩ := h
  rw [hself] at hcounted htimer hentered hquiet hreturned
  exact ⟨hcounted, fun j hj => by rw [hothers j hj, writeClosed_actuator, if_neg hj], htimer, hwork, hentered, hquiet, hreturned⟩

end closed

/-- The state in which a completed write is answered. -/
def itemWritten (x : Transaction) (y : RunningItem) (s : State) : State :=
  writeOutcome (itemDeferral (writeClosed y.item.target s) y) y.item y.item.target y.value x.failure
    (writeClosed y.item.target s)

section written
variable (x : Transaction) (y : RunningItem)

theorem completeItemWrite_eq (h : expiryDue s y.item.target = false) : decideHreq (completeItemWrite x y s)
    = itemAnswered y ⟨txResult x, commandPart y.item.target ((itemWritten x y s).actuator y.item.target) y.value x.answered⟩
      (itemWritten x y s) := by
  have hcomplete : completeItemWrite x y s = (fun u : State => requestActuator (respondItem y
      ⟨txResult x, commandPart y.item.target
        ((writeOutcome (itemDeferral u y) y.item y.item.target y.value x.failure u).actuator y.item.target) y.value x.answered⟩
      (writeOutcome (itemDeferral u y) y.item y.item.target y.value x.failure u)))
      (takeExpiry y.item.target (writeClosed y.item.target s)) := rfl
  rw [hcomplete, writeClosed_noExpiry s _ h]
  rfl

theorem itemWritten_frame : ChangesOnly [.bus, .arb, .acts, .notices, .ports, .routes] s (itemWritten x y s) :=
  (writeClosed_frame s _).comp (writeOutcome_frame _ _ _ _ _ _)

theorem itemWritten_bus : (itemWritten x y s).bus = { s.bus with ended := none } := (writeOutcome_frame _ _ _ _ _ _).bus

theorem itemWritten_arb : (itemWritten x y s).arb = { s.arb with tenure := none } := (writeOutcome_frame _ _ _ _ _ _).arb

theorem itemWritten_taken : WriteTaken y.item y.item.target y.value x.failure s (itemWritten x y s) :=
  writeClosed_taken s (writeOutcome_taken _ _ rfl y.value x.failure)

theorem itemWritten_flight : ((itemWritten x y s).actuator y.item.target).inFlight = .no
    ∧ (itemWritten x y s).acts.running = none := by
  obtain ⟨hflight, hrunning⟩ := writeOutcome_flight (writeClosed y.item.target s)
    (itemDeferral (writeClosed y.item.target s) y) y.item y.item.target y.value x.failure
  rw [writeClosed_actuator, if_pos rfl] at hflight
  exact ⟨hflight, hrunning⟩

theorem itemWritten_executor (p : Port) : ((itemWritten x y s).port p).executor = (s.port p).executor := by
  have hdel := (writeOutcome_delivers (writeClosed y.item.target s) (itemDeferral (writeClosed y.item.target s) y) y.item
    y.item.target y.value x.failure).ports p
  obtain ⟨-, -, hexec, -⟩ := hdel
  rw [(writeClosed_frame s _).port] at hexec
  exact hexec

/-- The response that is wanted and finds room keeps its place while FAULT is reported (R124). -/
theorem itemWritten_room {p : Port} (ha : y.answer = true) (hp : y.item.port = some p)
    (hr : (s.port p).output.length < Config.outputPlaces) :
    ((itemWritten x y s).port p).output.length = (s.port p).output.length := by
  have hport : (writeClosed y.item.target s).port p = s.port p := (writeClosed_frame s _).port p
  have hdef := itemDeferral_some (writeClosed y.item.target s) ha hp (by rw [hport]; exact hr)
  rw [itemWritten, (writeOutcome_delivers _ _ _ _ _ _).held p hdef, hport]

/-- The response of an item begins no restart (R138, R181). -/
theorem itemWritten_respond_restart (hi : ItemsHeld s) (hy : s.acts.running = some y) (r : Reply) :
    (respondItem y r (itemWritten x y s)).restart = (itemWritten x y s).restart := by
  cases ha : y.answer with
  | false => rw [respondItem_none _ (.inl ha)]
  | true =>
    cases hp : y.item.port with
    | none => rw [respondItem_none _ (.inr hp)]
    | some p =>
      obtain ⟨-, req, he, hk⟩ := hi.running hy ha hp
      rw [respondItem_some _ ha hp, respond_restart_of_kind _ ((itemWritten_executor s x y p).trans he) hk]

end written

/-- The unit asks for the bus for what still waits (R138). -/
theorem itemAnswered_requests (y : RunningItem) (r : Reply) (ht : s.arb.tenure ≠ some .actuatorUnit)
    (hw : (itemAnswered y r s).acts.workList ≠ []) : (itemAnswered y r s).arb.waiting.actuatorUnit = true := by
  have hresp := respondItem_frame s y r
  rw [itemAnswered, (decideHreq_frame _).acts, requestActuator_acts] at hw
  rw [itemAnswered, (decideHreq_frame _).arb, requestActuator, if_pos ⟨hw, by rw [hresp.arb]; exact ht⟩]
  rfl

/-- Settles O43: an exchange's write counts and its tenure goes on; another item's write counts once its tenure is closed, and its
response has kept its place. -/
theorem actuatorWriteCompletes : Obligations.ActuatorWriteCompletes := by
  intro s x y i hp he hy hx hk hi hexp hitems
  subst hi
  have hexec : exec .actuatorWriteCompletion s = _ := execActuatorWriteCompletion_eq hp he hy hx hk
  cases hw : x.exchangeWrite with
  | true =>
    rw [hw, if_pos rfl] at hexec
    have hhreq := decideHreq_frame (completeExchangeWrite x y s)
    have hparts := completeExchangeWrite_parts s x y
    obtain ⟨hcounted, hothers, htimer, hwork, hentered, hquiet, hreturned⟩ :=
      (completeExchangeWrite_taken s x y).congr hhreq.actuator (by rw [hhreq.acts]) hhreq.notices
    refine ⟨_, hexec, hparts.comp hhreq, ?_, hcounted, hothers, htimer, hwork, hentered, hquiet, hreturned,
      fun _ => ⟨?_, ?_, ?_⟩, nofun⟩
    · rw [hhreq.bus, completeExchangeWrite_bus]
    · rw [hhreq.acts]
      rfl
    · rw [hhreq.arb, hparts.arb]
    · rw [hhreq.actuator]
      exact (writeOutcome_flight (takeEnded s) none y.item y.item.target y.value x.failure).1
  | false =>
    rw [hw, if_neg (by decide), completeItemWrite_eq s x y hexp] at hexec
    generalize hreply : Reply.mk (txResult x)
      (commandPart y.item.target ((itemWritten x y s).actuator y.item.target) y.value x.answered) = reply at hexec
    have hresp : ChangesOnly [.ports, .routes] (itemWritten x y s) (respondItem y reply (itemWritten x y s)) :=
      (respondItem_frame _ y reply).without (b := .restart) (itemWritten_respond_restart s x y hitems hy reply)
    have hrest : ChangesOnly [.arb, .hreq] (respondItem y reply (itemWritten x y s)) (itemAnswered y reply (itemWritten x y s)) :=
      (requestActuator_frame _).comp (decideHreq_frame _)
    have hlast : ChangesOnly [.ports, .routes, .arb, .hreq] (itemWritten x y s) (itemAnswered y reply (itemWritten x y s)) :=
      hresp.comp hrest
    have htenure := (itemAnswered_tenureKept (itemWritten x y s) y reply).tenure
    rw [itemWritten_arb] at htenure
    obtain ⟨hflight, hrunning⟩ := itemWritten_flight s x y
    obtain ⟨hcounted, hothers, htimer, hwork, hentered, hquiet, hreturned⟩ :=
      (itemWritten_taken s x y).congr hlast.actuator (by rw [hlast.acts]) hlast.notices
    refine ⟨_, hexec, (itemWritten_frame s x y).comp hlast, ?_, hcounted, hothers, htimer, hwork, hentered, hquiet, hreturned,
      nofun, fun _ => ⟨?_, htenure, ?_, itemAnswered_requests _ y reply ?_, fun p req ha hport hserving hroom => ?_⟩⟩
    · rw [hlast.bus, itemWritten_bus]
    · rw [hlast.acts, hrunning]
    · rw [hlast.actuator, hflight]
    · rw [itemWritten_arb]
      nofun
    · obtain ⟨-, req', he', hkind⟩ := hitems.running hy ha hport
      obtain rfl : req' = req := by
        rw [hserving] at he'
        exact (Executor.serving.inj he').symm
      have hans := respond_answers (itemWritten x y s) ((itemWritten_executor s x y p).trans hserving)
        (by rw [itemWritten_room s x y ha hport hroom]; exact hroom) hkind reply
      rw [← respondItem_some _ ha hport] at hans
      rw [hlast.actuator]
      subst hreply
      exact hans.of_frame hrest

end Sys2Proof.Machine
end

section
/-! SUPPORT. The end of claims as a port sees it: the port whose waiting command is dismissed, and a port that is no former holder
(R147, R148); and how far a report can fill an output queue (R127). -/

set_option Elab.async false

namespace Sys2Proof.Machine

variable (s : State)

/-! ## A report adds at most one frame to an output queue (R124, R127) -/

theorem refreshAttention_length (r : RoutePort) (q : Port) :
    ((refreshAttention r s).port q).output.length = (s.port q).output.length :=
  (refreshAttention_delivers s (some q) r).held q rfl

theorem decideAttention_length (r : RoutePort) (q : Port) : ((decideAttention r s).port q).output.length
    ≤ (s.port q).output.length + if q = toPort r then 1 else 0 := by
  unfold decideAttention
  simp only []
  split
  · rw [refreshAttention_length]
    omega
  · split
    · split
      · rw [pushFrame_port]
        split
        · next e => simp [e]
        · omega
      · rw [(setOwed_frame s _ _).port]
        omega
    · rw [(setOwed_frame s _ _).port]
      omega

theorem recompute_length (d : Option Port) (p q : Port) : ((recompute d p s).port q).output.length
    ≤ (s.port q).output.length + if q = p then 1 else 0 := by
  unfold recompute decideAttentionOf
  split
  · omega
  · have hlow : ((lowerReported p (topPriority s p) (s.setPort p { s.port p with summary := topPriority s p })).port q).output
        = (s.port q).output := by
      rw [(lowerReported_frame _ _ _).port, setPort_port]
      split
      · next e => rw [e]
      · rfl
    split
    · rw [hlow]
      omega
    · next r hr =>
      split
      · rw [refreshAttention_length, hlow]
        omega
      · have hdecide := decideAttention_length
          (lowerReported p (topPriority s p) (s.setPort p { s.port p with summary := topPriority s p })) r q
        rwa [hlow, toPort_of_routeOf hr] at hdecide

theorem settle_length (d : Option Port) (q : Port) : ((settle d s).port q).output.length ≤ (s.port q).output.length + 1 := by
  have heast := recompute_length s d .east q
  have hwest := recompute_length (recompute d .east s) d .west q
  have hhut := recompute_length (recompute d .west (recompute d .east s)) d .hut q
  have hone : (if q = .east then 1 else 0) + (if q = .west then 1 else 0) + (if q = .hut then 1 else 0) = 1 := by
    cases q <;> rfl
  unfold settle
  omega

theorem report_length (d : Option Port) (id : NoticeId) (r : Report) (q : Port) :
    ((report d id r s).port q).output.length ≤ (s.port q).output.length + 1 := by
  have h := settle_length (applyReport id r s) d q
  rwa [(applyReport_frame s id r).port] at h

theorem reportEconomy_length (d : Option Port) (active : Bool) (q : Port) :
    ((reportEconomy d active s).port q).output.length ≤ (s.port q).output.length + 1 := by
  unfold reportEconomy
  split
  · omega
  · exact report_length (economyNoted active s) d _ _ q

/-- A re-evaluation of the clock makes one report at most. -/
theorem reevaluateClock_length (d : Option Port) (q : Port) :
    ((reevaluateClock d s).port q).output.length ≤ (s.port q).output.length + 1 := by
  unfold reevaluateClock actOnWanted
  split
  · omega
  · split
    · exact Nat.le_succ _
    · exact reportEconomy_length (beginSwitch .toFull (wantedNoted s)) d false q
    · exact Nat.le_succ _
    · exact reportEconomy_length (abandonSwitch .economy (wantedNoted s)) d true q
    · exact Nat.le_succ _

/-! ## The items of the work list at the end of a claim (R147) -/

theorem isCommandOf_iff {p : Port} {i : ActIx} {w : WorkItem} : isCommandOf p i w = true ↔ w.port = some p ∧ w.target = i := by
  cases w <;> simp [isCommandOf, WorkItem.port, WorkItem.target]

theorem dismissCommand_none {p : Port} {i : ActIx} (h : ∀ w ∈ s.acts.workList, isCommandOf p i w = false) :
    dismissCommand p i s = s := by
  unfold dismissCommand
  rw [if_neg]
  intro hany
  obtain ⟨w, hw, hc⟩ := List.any_eq_true.1 hany
  rw [h w hw] at hc
  cases hc

/-- The dismissal takes out the command that it answers and no other item. -/
theorem dismissCommand_work (p : Port) (i : ActIx) :
    (dismissCommand p i s).acts.workList = s.acts.workList.filter fun w => !isCommandOf p i w := by
  unfold dismissCommand
  split
  · rw [(respond_frame _ p _).acts]
    rfl
  · next h =>
    refine (List.filter_eq_self.2 fun w hw => ?_).symm
    simpa using fun hc => h (List.any_eq_true.2 ⟨w, hw, hc⟩)

theorem queuePolicy_items (m : Nat) (i : ActIx) {w : WorkItem} (hp : w.port.isSome = true) :
    w ∈ (queuePolicy m i s).acts.workList ↔ w ∈ s.acts.workList := by
  refine ⟨fun h => (queuePolicy_workKept s m i).1.items w h hp, fun h => ?_⟩
  unfold queuePolicy
  split
  · rwa [requestActuator_acts]
  · have hne : w ≠ .refresh i := by
      rintro rfl
      cases hp
    rw [requestActuator_acts]
    exact List.mem_append_left _ (List.mem_filter.2 ⟨h, decide_eq_true hne⟩)

theorem applyPolicy_items (m : Nat) (i : ActIx) {w : WorkItem} (hp : w.port.isSome = true) :
    w ∈ (applyPolicy m i s).acts.workList ↔ w ∈ s.acts.workList := by
  unfold applyPolicy
  split
  · rfl
  · split
    · exact queuePolicy_items s m i hp
    · rfl

/-- The entry freed, before the holder's command is dismissed. -/
def claimFreed (i : ActIx) (s : State) : State := s.setActuator i { s.actuator i with holder := none, lease := 0 }

theorem endClaim_held {i : ActIx} {p : Port} (h : (s.actuator i).holder = some p) (m : Nat) :
    endClaim m i s = applyPolicy m i (dismissCommand p i (claimFreed i s)) := by
  simp only [endClaim, h]
  rfl

/-- Of the items of ports the end of a claim takes out those that it dismisses. -/
theorem endClaim_items {i : ActIx} {p : Port} (h : (s.actuator i).holder = some p) (m : Nat) {w : WorkItem}
    (hw : w.port.isSome = true) :
    w ∈ (endClaim m i s).acts.workList ↔ w ∈ s.acts.workList ∧ isCommandOf p i w = false := by
  rw [endClaim_held s h, applyPolicy_items _ m i hw, dismissCommand_work, List.mem_filter, Bool.not_eq_true']
  rfl

/-! ## A port that the end of a claim leaves alone (R147) -/

theorem respond_port_ne {p q : Port} (h : p ≠ q) (r : Reply) : (respond q r s).port p = s.port p := by
  unfold respond
  split
  · split
    · simp only [State.port, placeReply_ports, PerPort.get_set, if_neg h]
    · rw [setExecutor_port, if_neg h]
  · rfl

theorem dismissCommand_port_ne {p q : Port} (h : p ≠ q) (i : ActIx) : (dismissCommand q i s).port p = s.port p := by
  unfold dismissCommand
  split
  · rw [respond_port_ne _ h]
    rfl
  · rfl

/-- A port that has no command waiting for an actuator is left alone by the end of its claim. -/
theorem endClaim_port {p : Port} {i : ActIx} (h : ∀ w ∈ s.acts.workList, isCommandOf p i w = false) (m : Nat) :
    (endClaim m i s).port p = s.port p := by
  cases hh : (s.actuator i).holder with
  | none => simp only [endClaim, hh]
  | some q =>
    rw [endClaim_held s hh, (applyPolicy_frame _ m i).port]
    by_cases hq : p = q
    · subst hq
      rw [dismissCommand_none (claimFreed i s) h]
      rfl
    · rw [dismissCommand_port_ne _ hq]
      rfl

theorem endClaimOf_port {p : Port} {i : ActIx} (h : ∀ w ∈ s.acts.workList, isCommandOf p i w = false) (m : Nat)
    (who : Port → Bool) : (endClaimOf m who s i).port p = s.port p := by
  unfold endClaimOf
  split
  · rfl
  · split
    · exact endClaim_port s h m
    · rfl

/-- A port that has no items is left alone by every end of claims. -/
theorem endClaims_list_port {p : Port} (m : Nat) (who : Port → Bool) (l : List ActIx) (s : State) (h : NoItems p s) :
    (l.foldl (endClaimOf m who) s).port p = s.port p := by
  induction l generalizing s with
  | nil => rfl
  | cons i l ih =>
    have hnone : ∀ w ∈ s.acts.workList, isCommandOf p i w = false := fun w hw =>
      Bool.eq_false_iff.2 fun hc => h w hw (port_of_isCommandOf hc)
    rw [List.foldl_cons, ih _ (h.of_workKept (endClaimOf_claimsEnd s h m who i).work), endClaimOf_port s hnone]

/-- A port that is not named keeps its request while the claims of those named end (R148). -/
theorem endClaimOf_keepsRequest {p : Port} {who : Port → Bool} (h : who p = false) (m : Nat) (i : ActIx) :
    KeepsRequest p s (endClaimOf m who s i) := by
  unfold endClaimOf
  split
  · exact .refl s p
  · next q hq =>
    split
    · next hwho =>
      have hne : q ≠ p := by
        rintro rfl
        rw [h] at hwho
        cases hwho
      have hdismiss : KeepsRequest p (claimFreed i s) (dismissCommand q i (claimFreed i s)) := by
        unfold dismissCommand
        split
        · exact (KeepsRequest.of_frame (setWorkList_frame _ _)).trans (respond_keepsRequest _ hne _)
        · exact .refl _ p
      rw [endClaim_held s hq]
      exact ((KeepsRequest.of_frame (setActuator_frame s i _)).trans hdismiss).trans (.of_frame (applyPolicy_frame _ m i))
    · exact .refl s p

theorem endClaims_keepsRequest {p : Port} {who : Port → Bool} (h : who p = false) (m : Nat) :
    KeepsRequest p s (endClaims m who s) := by
  rw [endClaims_eq]
  generalize actIndices = l
  induction l generalizing s with
  | nil => exact .refl s p
  | cons i l ih => exact (endClaimOf_keepsRequest s h m i).trans (ih _)

/-! ## The port whose command is dismissed (R147) -/

/-- Port p holds actuator i, and waits for a COMMAND or EXCHANGE of it with room for the answer. -/
structure WaitsFor (p : Port) (i : ActIx) (w : WorkItem) (req : Request) (s : State) : Prop where
  holder : (s.actuator i).holder = some p
  mem : w ∈ s.acts.workList
  port : w.port = some p
  target : w.target = i
  only : ∀ v ∈ s.acts.workList, v.port = some p → v = w
  serving : (s.port p).executor = .serving req
  room : (s.port p).output.length < Config.outputPlaces

section waits
variable {s} {p : Port} {i : ActIx} {w : WorkItem} {req : Request}

/-- The end of another claim lets the port wait. -/
theorem WaitsFor.other (h : WaitsFor p i w req s) {j : ActIx} (hj : i ≠ j) (m : Nat) (who : Port → Bool) :
    WaitsFor p i w req (endClaimOf m who s j) := by
  have hnone : ∀ v ∈ s.acts.workList, isCommandOf p j v = false := fun v hv => Bool.eq_false_iff.2 fun hc => by
    obtain ⟨hvp, hvt⟩ := isCommandOf_iff.1 hc
    rw [h.only v hv hvp, h.target] at hvt
    exact hj hvt
  have hport := endClaimOf_port s hnone m who
  have hsome : ∀ {v : WorkItem}, v.port = some p → v.port.isSome = true := fun hv => by rw [hv]; rfl
  have hwork : ∀ v, v.port = some p → (v ∈ (endClaimOf m who s j).acts.workList ↔ v ∈ s.acts.workList) := fun v hv => by
    unfold endClaimOf
    split
    · rfl
    · next q hq =>
      split
      · rw [endClaim_items s hq m (hsome hv)]
        refine ⟨And.left, fun hm => ⟨hm, Bool.eq_false_iff.2 fun hc => ?_⟩⟩
        obtain ⟨-, hvt⟩ := isCommandOf_iff.1 hc
        rw [h.only v hm hv, h.target] at hvt
        exact hj hvt
      · rfl
  exact ⟨by rw [endClaimOf_actuator_ne s m who hj]; exact h.holder, (hwork w h.port).2 h.mem, h.port, h.target,
    fun v hv hvp => h.only v ((hwork v hvp).1 hv) hvp, by rw [hport]; exact h.serving, by rw [hport]; exact h.room⟩

/-- The end of the claim answers the port NOT_HOLDER, and leaves it with no items. -/
theorem WaitsFor.dismissed (h : WaitsFor p i w req s) (m : Nat) :
    HeldAnswered p req .notHolder ([natByte i.val, 3] ++ sendNat16 0) (endClaim m i s) ∧ NoItems p (endClaim m i s) := by
  have hcommand : isCommandOf p i w = true := isCommandOf_iff.2 ⟨h.port, h.target⟩
  refine ⟨?_, fun v hv hvp => ?_⟩
  · have hany : (claimFreed i s).acts.workList.any (isCommandOf p i) = true := List.any_eq_true.2 ⟨w, h.mem, hcommand⟩
    have hans := respond_refuses
      ((claimFreed i s).setWorkList ((claimFreed i s).acts.workList.filter fun v => !isCommandOf p i v)) h.serving h.room
      (r := ⟨.notHolder, claimPart i ((claimFreed i s).actuator i)⟩) nofun
    have hpart : claimPart i ((claimFreed i s).actuator i) = [natByte i.val, 3] ++ sendNat16 0 := by
      rw [claimFreed, setActuator_actuator_self]
      rfl
    rw [endClaim_held s h.holder, dismissCommand, if_pos hany]
    rw [hpart] at hans ⊢
    exact hans.of_frame (applyPolicy_frame _ m i)
  · obtain ⟨hmem, hno⟩ := (endClaim_items s h.holder m (by rw [hvp]; rfl)).1 hv
    rw [h.only v hmem hvp, hcommand] at hno
    cases hno

/-- The ends of the claims of those named answer a port that waits among them. -/
theorem WaitsFor.answered (m : Nat) {who : Port → Bool} (hwho : who p = true) (l : List ActIx) (hi : i ∈ l) {s : State}
    (h : WaitsFor p i w req s) :
    HeldAnswered p req .notHolder ([natByte i.val, 3] ++ sendNat16 0) (l.foldl (endClaimOf m who) s) := by
  induction l generalizing s with
  | nil => cases hi
  | cons j l ih =>
    by_cases hj : i = j
    · subst hj
      have hturn : endClaimOf m who s i = endClaim m i s := by simp only [endClaimOf, h.holder, hwho, if_true]
      obtain ⟨hans, hnone⟩ := h.dismissed m
      unfold HeldAnswered at hans ⊢
      rw [List.foldl_cons, hturn, endClaims_list_port m who l _ hnone]
      exact hans
    · exact ih ((List.mem_cons.1 hi).resolve_left hj) (h.other hj m who)

end waits

end Sys2Proof.Machine
end

section
/-! PROOFS. SET PERMISSIONS, SET SITE POINTS and IDENTIFY (O50). -/

set_option Elab.async false

namespace Sys2Proof.Machine

variable (s : State)

/-! ## SET PERMISSIONS (R178) -/

/-- A hut request that may change settings of the routes: the response joins the hut's queue, and the Hut Port has no last reported
summary to set (R121, R125). -/
theorem serve_hut_answered {s u : State} {req : Request} {accept : Request → Bool}
    {f : Option Port → Request → State → Served} {reply : Reply} (h : Ready s .hut req) (ha : accept req = true)
    (hf : f (some .hut) req (takeHead .hut s) = (u, some reply)) (hp : u.ports = (takeHead .hut s).ports)
    (hm : req.kind ≠ Config.restartSupervisionKind ∨ reply.result ≠ .ok) :
    ∃ t, serve .hut accept f s = .next t ∧ ChangesOnly [.ports, .hreq] u t
      ∧ t.ports = s.ports.set .hut (answeredPort (s.port .hut)
        (responseFrame req.kind req.tag reply.result.code (s.port .hut).summary reply.body .response)) := by
  have hport : u.port .hut = { s.port .hut with requests := (s.port .hut).requests.tail, executor := .serving req } :=
    (congrArg (fun x => x.get .hut) hp).trans ((takeHead_port h.queue .hut).trans (if_pos rfl))
  have hplaced : respond .hut reply u = placeReply .hut req reply u :=
    respond_room reply (by rw [hport]) (by rw [hport]; exact h.room)
  have hframe : ChangesOnly [.ports] u (placeReply .hut req reply u) := by
    refine ((placeReply_frame u .hut req reply).without (n := [.ports, .routes]) (b := .restart) ?_).without (b := .routes) ?_
    · exact (placeReply_restart u .hut req reply).trans (if_neg (by simp [markOf_response hm]))
    · exact placeReply_routes u .hut req reply
  refine ⟨_, serve_eq h.toTaken ha, ?_, ?_⟩
  · rw [deferral_room h.room, hf]
    simp only [finishService, hplaced]
    exact hframe.comp (decideHreq_frame _)
  · rw [deferral_room h.room, hf]
    simp only [finishService, hplaced]
    rw [(decideHreq_frame _).ports, placeReply_ports, hport, hp, takeHead_eq h.queue, setPort_ports, replyFrame,
      markOf_response hm]
    rfl

theorem serveSetPermissions_refused {d : Option Port} {req : Request}
    (h : permissionOf req.body 0 = none ∨ permissionOf req.body 3 = none) :
    serveSetPermissions d req s = (s, some ⟨.outOfRange, []⟩) := by
  unfold serveSetPermissions
  split
  · next e w he hw =>
    rcases h with h | h
    · rw [h] at he
      cases he
    · rw [h] at hw
      cases hw
  · rfl

/-- The state with both blocks of settings applied. -/
def permissionsSet (e w : Bool × Bool × Option (ModIx × ModIx)) (s : State) : State :=
  setPermission .west w (setPermission .east e s)

theorem permissionsSet_frame (e w : Bool × Bool × Option (ModIx × ModIx)) : ChangesOnly [.routes] s (permissionsSet e w s) :=
  (setRoute_frame s .east _).comp (setRoute_frame _ .west _)

theorem setPermissions_accepted {s : State} {req : Request} (h : Asked .setPermissions .hut s req)
    {e w : Bool × Bool × Option (ModIx × ModIx)} (he : permissionOf req.body 0 = some e) (hw : permissionOf req.body 3 = some w) :
    ∃ t, exec .setPermissions s = .next t ∧ ChangesOnly [.ports, .routes, .hreq] s t
      ∧ t.route .east = { s.route .east with config := e.1, mayRestart := e.2.1, window := e.2.2 }
      ∧ t.route .west = { s.route .west with config := w.1, mayRestart := w.2.1, window := w.2.2 }
      ∧ t.ports = s.ports.set .hut (answeredPort (s.port .hut) (responseFrame req.kind req.tag 0 (s.port .hut).summary
        (permissionBytes (t.route .east) ++ permissionBytes (t.route .west)) .response)) := by
  have hf : serveSetPermissions (some .hut) req (takeHead .hut s) = (permissionsSet e w (takeHead .hut s),
      some ⟨.ok, permissionBytes ((permissionsSet e w (takeHead .hut s)).route .east)
        ++ permissionBytes ((permissionsSet e w (takeHead .hut s)).route .west)⟩) := by
    simp only [serveSetPermissions, he, hw]
    rfl
  have hset := permissionsSet_frame (takeHead .hut s) e w
  obtain ⟨t, ht, hk, hports⟩ := serve_hut_answered h.1 (ofKind_of_asked h) hf hset.ports (.inl (kind_ne_restart h.2 (by decide)))
  have heast : (permissionsSet e w (takeHead .hut s)).route .east
      = { s.route .east with config := e.1, mayRestart := e.2.1, window := e.2.2 } := by
    rw [← takeHead_route s .hut]
    rfl
  have hwest : (permissionsSet e w (takeHead .hut s)).route .west
      = { s.route .west with config := w.1, mayRestart := w.2.1, window := w.2.2 } := by
    rw [← takeHead_route s .hut]
    rfl
  refine ⟨t, ht, ((takeHead_frame s .hut).comp hset (n := [.ports, .routes])).comp hk, ?_, ?_, ?_⟩
  · rw [hk.route, heast]
  · rw [hk.route, hwest]
  · rw [hk.route, hk.route]
    exact hports

/-! ## The references of SET SITE POINTS (R179) -/

theorem refDefined_iff (x : Option PointIx) : refDefined s x = true ↔ ∀ i, x = some i → (s.descOf i).isSome = true := by
  cases x <;> simp [refDefined]

theorem refOfKind_iff (x : Option PointIx) (k : Bool) :
    refOfKind s x k = true ↔ ∀ i, x = some i → ∃ d, s.descOf i = some d ∧ d.isDiscrete = k := by
  cases x with
  | none => simp [refOfKind]
  | some i =>
    simp only [refOfKind, Option.some.injEq, forall_eq']
    cases s.descOf i <;> simp

theorem refDefined_congr {s t : State} (h : ∀ i, t.descOf i = s.descOf i) (x : Option PointIx) :
    refDefined t x = refDefined s x := by
  cases x <;> simp only [refDefined, h]

theorem refOfKind_congr {s t : State} (h : ∀ i, t.descOf i = s.descOf i) (x : Option PointIx) (k : Bool) :
    refOfKind t x k = refOfKind s x k := by
  cases x <;> simp only [refOfKind, h]

section checks
variable {s} {d : Option Port} {req : Request} {x y : Option PointIx}

theorem serveSetSitePoints_undefined (hx : sitePointOf req.body 0 = x) (hy : sitePointOf req.body 2 = y)
    (h : refDefined s x = false ∨ refDefined s y = false) :
    serveSetSitePoints d req s = (s, some ⟨.notDefined, []⟩) := by
  simp only [serveSetSitePoints, hx, hy]
  rw [if_pos (by rcases h with h | h <;> simp [h])]
  rfl

theorem serveSetSitePoints_wrongKind (hx : sitePointOf req.body 0 = x) (hy : sitePointOf req.body 2 = y)
    (hdx : refDefined s x = true) (hdy : refDefined s y = true) (h : refOfKind s x true = false ∨ refOfKind s y false = false) :
    serveSetSitePoints d req s = (s, some ⟨.badLimits, []⟩) := by
  simp only [serveSetSitePoints, hx, hy]
  rw [if_neg (by simp [hdx, hdy]), if_pos (by rcases h with h | h <;> simp [h])]
  rfl

theorem serveSetSitePoints_accepted (hx : sitePointOf req.body 0 = x) (hy : sitePointOf req.body 2 = y)
    (hkx : refOfKind s x true = true) (hky : refOfKind s y false = true) :
    serveSetSitePoints d req s = (acceptSitePoints d x y s, some ⟨.ok, sitePointBytes x ++ sitePointBytes y⟩) := by
  have defined_of : ∀ {z : Option PointIx} {k : Bool}, refOfKind s z k = true → refDefined s z = true := fun hz =>
    (refDefined_iff s _).2 fun i hi => by
      obtain ⟨e, he, -⟩ := (refOfKind_iff s _ _).1 hz i hi
      simp [he]
  simp only [serveSetSitePoints, hx, hy]
  rw [if_neg (by simp [defined_of hkx, defined_of hky]), if_neg (by simp [hkx, hky])]
  rfl

end checks

theorem setSitePoints_undefined {s : State} {req : Request} {x y : Option PointIx} (h : Asked .setSitePoints .hut s req)
    (hx : sitePointOf req.body 0 = x) (hy : sitePointOf req.body 2 = y)
    (hd : (∃ i, x = some i ∧ s.descOf i = none) ∨ ∃ i, y = some i ∧ s.descOf i = none) :
    AnswersOnly .setSitePoints .hut req .notDefined [] s := by
  have undefined : ∀ {z : Option PointIx}, (∃ i, z = some i ∧ s.descOf i = none) → refDefined (takeHead .hut s) z = false :=
    fun ⟨i, hz, hi⟩ => by simp [refDefined, hz, hi]
  exact answersOnly_of_kind h (by decide) rfl (serveSetSitePoints_undefined hx hy (hd.imp undefined undefined))

theorem setSitePoints_wrongKind {s : State} {req : Request} {x y : Option PointIx} (h : Asked .setSitePoints .hut s req)
    (hx : sitePointOf req.body 0 = x) (hy : sitePointOf req.body 2 = y)
    (hd : ∀ i, x = some i ∨ y = some i → (s.descOf i).isSome = true)
    (hk : (∃ i d, x = some i ∧ s.descOf i = some d ∧ d.isDiscrete = false)
      ∨ ∃ i d, y = some i ∧ s.descOf i = some d ∧ d.isDiscrete = true) :
    AnswersOnly .setSitePoints .hut req .badLimits [] s := by
  have defined_of : ∀ {z : Option PointIx}, (∀ i, z = some i → (s.descOf i).isSome = true) →
      refDefined (takeHead .hut s) z = true := fun hz =>
    (refDefined_congr (takeHead_descOf s .hut) _).trans ((refDefined_iff s _).2 hz)
  refine answersOnly_of_kind h (by decide) rfl (serveSetSitePoints_wrongKind hx hy (defined_of fun i hi => hd i (.inl hi))
    (defined_of fun i hi => hd i (.inr hi)) (hk.imp ?_ ?_))
  · rintro ⟨i, d, hi, hdesc, hdisc⟩
    simp [refOfKind, hi, hdesc, hdisc]
  · rintro ⟨i, d, hi, hdesc, hdisc⟩
    simp [refOfKind, hi, hdesc, hdisc]

/-! ## The new references take effect (R91, R148, R179) -/

/-- The state with both references replaced. -/
def referencesSet (x y : Option PointIx) (s : State) : State := { s with siteLocal := x, economyTrigger := y }

theorem referencesSet_frame (x y : Option PointIx) : ChangesOnly [.site] s (referencesSet x y s) := by
  intro b hb
  cases b <;> simp_all [Block.same, referencesSet]

/-- The state in which the claims of the route ports end, if they do: a changed trigger has had the clock re-evaluated. -/
def siteClocked (d : Option Port) (x y : Option PointIx) (s : State) : State :=
  if y ≠ s.economyTrigger then reevaluateClock d (referencesSet x y s) else referencesSet x y s

theorem acceptSitePoints_eq (d : Option Port) (x y : Option PointIx) : acceptSitePoints d x y s
    = if x ≠ s.siteLocal ∧ siteAsserted (siteClocked d x y s) = true then endRouteClaims (siteClocked d x y s)
      else siteClocked d x y s := rfl

theorem siteAsserted_congr {s t : State} (hp : ∀ i, t.point i = s.point i) (hl : t.siteLocal = s.siteLocal) :
    siteAsserted t = siteAsserted s := by
  simp only [siteAsserted, hl, hp]

theorem wantedClock_congr {s t : State} (hm : t.clock.mode = s.clock.mode) (ht : t.economyTrigger = s.economyTrigger)
    (hp : ∀ i, t.point i = s.point i) : wantedClock t = wantedClock s := by
  simp only [wantedClock, hm, ht, hp]

section clocked
variable (d : Option Port) (x y : Option PointIx)

theorem siteClocked_frame : ChangesOnly [.site, .arb, .clock, .notices, .ports, .routes] s (siteClocked d x y s) := by
  unfold siteClocked
  split
  · exact (referencesSet_frame s x y).comp (reevaluateClock_frame _ d)
  · exact (referencesSet_frame s x y).mono

theorem siteClocked_site : (siteClocked d x y s).siteLocal = x ∧ (siteClocked d x y s).economyTrigger = y := by
  unfold siteClocked
  split
  · have h := reevaluateClock_frame (referencesSet x y s) d
    exact ⟨h.siteLocal, h.economyTrigger⟩
  · exact ⟨rfl, rfl⟩

theorem siteClocked_delivers : Delivers d s (siteClocked d x y s) := by
  unfold siteClocked
  split
  · exact (Delivers.of_frame (referencesSet_frame s x y)).trans (reevaluateClock_delivers _ d)
  · exact .of_frame (referencesSet_frame s x y)

/-- The report of ECONOMY that a changed trigger can bring is all that joins an output queue. -/
theorem siteClocked_length (p : Port) :
    ((siteClocked d x y s).port p).output.length ≤ (s.port p).output.length + 1 := by
  unfold siteClocked
  split
  · exact reevaluateClock_length (referencesSet x y s) d p
  · exact Nat.le_succ _

theorem siteClocked_same (h : y = s.economyTrigger) : siteClocked d x y s = referencesSet x y s := if_neg fun hn => hn h

/-- A changed trigger leaves the wanted state of R91. -/
theorem siteClocked_wanted (h : y ≠ s.economyTrigger) :
    (siteClocked d x y s).clock.wanted = wantedClock (siteClocked d x y s) := by
  have hclock : siteClocked d x y s = reevaluateClock d (referencesSet x y s) := if_pos h
  have hframe := reevaluateClock_frame (referencesSet x y s) d
  have hacted := reevaluateClock_acted (referencesSet x y s) d
  rw [hclock, hacted.wanted, wantedClock_congr hacted.mode hframe.economyTrigger hframe.point]
  rfl

end clocked

/-! ## SET SITE POINTS (R143, R147, R148, R179) -/

/-- What the new references leave, seen from the state before: the rest of the part, the clock, and the claims. -/
structure SitePointsSet (x y : Option PointIx) (s u : State) : Prop where
  frame : ChangesOnly [.site, .acts, .clock, .arb, .notices, .ports, .routes, .hreq] s u
  siteLocal : u.siteLocal = x
  economyTrigger : u.economyTrigger = y
  ended : x ≠ s.siteLocal → siteAsserted u = true → ∀ i, ((s.actuator i).holder = some .east
    ∨ (s.actuator i).holder = some .west) → ClaimEnded i s u
  answered : x ≠ s.siteLocal → siteAsserted u = true → ∀ i p w held, p ≠ .hut → (s.actuator i).holder = some p →
    w ∈ s.acts.workList → w.port = some p → w.target = i → (∀ v ∈ s.acts.workList, v.port = some p → v = w) →
    (s.port p).executor = .serving held → (s.port p).output.length < 7 →
    HeldAnswered p held .notHolder ([natByte i.val, 3] ++ sendNat16 0) u
  acts : (x = s.siteLocal ∨ siteAsserted u = false) → u.acts = s.acts
  clock : y = s.economyTrigger → u.clock = s.clock ∧ u.notices = s.notices
  wanted : y ≠ s.economyTrigger → u.clock.wanted = wantedClock u

/-- A new reference whose point is not asserted, or the old one again: no claim ends. -/
theorem siteClocked_set {x y : Option PointIx}
    (h : ¬ (x ≠ s.siteLocal ∧ siteAsserted (siteClocked (some .hut) x y s) = true)) :
    SitePointsSet x y s (siteClocked (some .hut) x y s) := by
  have hframe := siteClocked_frame s (some .hut) x y
  obtain ⟨hlocal, htrigger⟩ := siteClocked_site s (some .hut) x y
  refine ⟨hframe.mono, hlocal, htrigger, fun hx hu => absurd ⟨hx, hu⟩ h,
    fun hx hu => absurd ⟨hx, hu⟩ h, fun _ => hframe.acts, fun hy => ?_, fun hy => siteClocked_wanted s _ x y hy⟩
  rw [siteClocked_same s _ x y hy]
  exact ⟨rfl, rfl⟩

/-- A route port that waits for its command still waits once the clock is re-evaluated: one frame at most has joined its queue. -/
theorem siteClocked_waitsFor (d : Option Port) (x y : Option PointIx) {p : Port} {i : ActIx} {w : WorkItem} {held : Request}
    (hh : (s.actuator i).holder = some p) (hw : w ∈ s.acts.workList) (hp : w.port = some p) (ht : w.target = i)
    (hv : ∀ v ∈ s.acts.workList, v.port = some p → v = w) (he : (s.port p).executor = .serving held)
    (hr : (s.port p).output.length < 7) : WaitsFor p i w held (siteClocked d x y s) := by
  have hframe := siteClocked_frame s d x y
  obtain ⟨-, -, hexec, -⟩ := (siteClocked_delivers s d x y).ports p
  have hlength := siteClocked_length s d x y p
  refine ⟨by rw [hframe.actuator]; exact hh, by rw [hframe.acts]; exact hw, hp, ht, by rw [hframe.acts]; exact hv,
    hexec.trans he, ?_⟩
  rw [Config.outputPlaces]
  omega

/-- A new site-local point that is asserted: the claims of the route ports end. -/
theorem endRouteClaims_set {x y : Option PointIx}
    (h : x ≠ s.siteLocal ∧ siteAsserted (siteClocked (some .hut) x y s) = true) :
    SitePointsSet x y s (endRouteClaims (siteClocked (some .hut) x y s)) := by
  have hclocked := siteClocked_frame s (some .hut) x y
  obtain ⟨hlocal, htrigger⟩ := siteClocked_site s (some .hut) x y
  have hwanted := siteClocked_wanted s (some .hut) x y
  have hsame := siteClocked_same s (some .hut) x y
  have hwaits := @siteClocked_waitsFor s (some .hut) x y
  generalize siteClocked (some .hut) x y s = v at *
  have hends : ChangesOnly [.arb, .acts, .ports, .routes] v (endRouteClaims v) :=
    (endRouteClaims_frame v).without (b := .restart) (endRouteClaims_holdersOnly v).restart
  have hasserted : siteAsserted (endRouteClaims v) = true := (siteAsserted_congr hends.point hends.siteLocal).trans h.2
  refine ⟨hclocked.comp hends, hends.siteLocal.trans hlocal, hends.economyTrigger.trans htrigger, fun _ _ i hi => ?_,
    fun _ _ i p w held hp hh hw hwp hwt hv he hr => ?_, fun hno => ?_, fun hy => ?_, fun hy => ?_⟩
  · have hend : ∀ q, (s.actuator i).holder = some q → isRoute q = true → ClaimEnded i s (endRouteClaims v) := fun q hq hr =>
      (endClaims_ended v (nextMoment v) (by rw [hclocked.actuator]; exact hq) hr).congr (hclocked.actuator i) rfl
    rcases hi with hi | hi
    · exact hend .east hi rfl
    · exact hend .west hi rfl
  · have hroute : isRoute p = true := by
      cases p with
      | east => rfl
      | west => rfl
      | hut => exact absurd rfl hp
    exact (hwaits hh hw hwp hwt hv he hr).answered (nextMoment v) hroute actIndices (List.mem_finRange i)
  · rcases hno with hno | hno
    · exact absurd hno h.1
    · rw [hasserted] at hno
      cases hno
  · rw [hends.clock, hends.notices, hsame hy]
    exact ⟨rfl, rfl⟩
  · rw [hends.clock, hwanted hy, wantedClock_congr (t := endRouteClaims v) (by rw [hends.clock]) hends.economyTrigger hends.point]

theorem acceptSitePoints_set (x y : Option PointIx) : SitePointsSet x y s (acceptSitePoints (some .hut) x y s) := by
  rw [acceptSitePoints_eq]
  split
  · next h => exact endRouteClaims_set s h
  · next h => exact siteClocked_set s h

/-- The hut's own request keeps its place: the claims that end are those of the route ports. -/
theorem acceptSitePoints_keepsRequest (x y : Option PointIx) : KeepsRequest .hut s (acceptSitePoints (some .hut) x y s) := by
  have hclocked := (siteClocked_delivers s (some .hut) x y).keepsRequest
  rw [acceptSitePoints_eq]
  split
  · exact hclocked.trans (endClaims_keepsRequest _ rfl _)
  · exact hclocked

/-- A served request leaves the other ports as its service does. -/
theorem serve_port_ne {s t u : State} {p q : Port} {req : Request} {accept : Request → Bool}
    {f : Option Port → Request → State → Served} {reply : Reply} (h : Ready s p req) (ha : accept req = true)
    (hf : f (some p) req (takeHead p s) = (u, some reply)) (ht : serve p accept f s = .next t) (hq : q ≠ p) :
    t.port q = u.port q := by
  rw [serve_eq h.toTaken ha, deferral_room h.room, hf] at ht
  injection ht with ht
  rw [← ht, (decideHreq_frame _).port]
  exact respond_port_ne u hq reply

/-- The taking of the hut's request before and its response after are no part of what the new references leave. -/
theorem SitePointsSet.served {x y : Option PointIx} {s u t : State} {req : Request}
    (h : SitePointsSet x y (takeHead .hut s) u) (hq : (s.port .hut).requests.head? = some req)
    (hk : ChangesOnly [.ports, .routes, .hreq] u t) (hp : ∀ p, p ≠ .hut → t.port p = u.port p) : SitePointsSet x y s t := by
  obtain ⟨hframe, hlocal, htrigger, hended, hanswered, hacts, hclock, hwanted⟩ := h
  have htake := takeHead_frame s .hut
  have hasserted := siteAsserted_congr hk.point hk.siteLocal
  rw [htake.siteLocal, ← hasserted] at hended hanswered hacts
  rw [htake.economyTrigger] at hclock hwanted
  refine ⟨(htake.comp hframe (n := [.site, .acts, .clock, .arb, .notices, .ports, .routes, .hreq])).comp hk,
    hk.siteLocal.trans hlocal, hk.economyTrigger.trans htrigger, fun hx hu i hi => ?_,
    fun hx hu i p w held hne hh hw hwp hwt hv he hr => ?_, fun hno => ?_, fun hsame => ?_, fun hnew => ?_⟩
  · exact (hended hx hu i (by simpa using hi)).congr (htake.actuator i) hk.acts
  · have hport : (takeHead .hut s).port p = s.port p := by rw [takeHead_port hq, if_neg hne]
    have hans := hanswered hx hu i p w held hne (by simpa using hh) (by simpa using hw) hwp hwt (by simpa using hv)
      (by rw [hport]; exact he) (by rw [hport]; exact hr)
    unfold HeldAnswered at hans ⊢
    rw [hp p hne]
    exact hans
  · rw [hk.acts, hacts hno, htake.acts]
  · obtain ⟨hsame_clock, hsame_notices⟩ := hclock hsame
    exact ⟨hk.clock.trans (hsame_clock.trans htake.clock), hk.notices.trans (hsame_notices.trans htake.notices)⟩
  · rw [hk.clock, hwanted hnew, wantedClock_congr (by rw [hk.clock]) hk.economyTrigger hk.point]

theorem setSitePoints_accepted {s : State} {req : Request} {x y : Option PointIx} (h : Asked .setSitePoints .hut s req)
    (hx : sitePointOf req.body 0 = x) (hy : sitePointOf req.body 2 = y) (hkx : refOfKind s x true = true)
    (hky : refOfKind s y false = true) :
    ∃ t, exec .setSitePoints s = .next t ∧ SitePointsSet x y s t
      ∧ AnsweredLast .hut req .ok (sitePointBytes x ++ sitePointBytes y) s t := by
  have hf := serveSetSitePoints_accepted (s := takeHead .hut s) (d := some .hut) hx hy
    ((refOfKind_congr (takeHead_descOf s .hut) x true).trans hkx) ((refOfKind_congr (takeHead_descOf s .hut) y false).trans hky)
  have hset := acceptSitePoints_set (takeHead .hut s) x y
  obtain ⟨t, ht, hlast, hk⟩ := serve_answeredLast h.1 (ofKind_of_asked h) hf (acceptSitePoints_keepsRequest _ x y)
    (.inl (kind_ne_restart h.2 (by decide)))
  exact ⟨t, ht, hset.served h.1.queue hk fun p hp => serve_port_ne h.1 (ofKind_of_asked h) hf ht hp, hlast⟩

/-! ## IDENTIFY (R180) -/

/-- The identity record byte by byte (R180, R187). -/
theorem identityBytes_eq (b : Baud) (u : Word32) : identityBytes b u
    = [(0x4B : Byte), 0x57, 0x04, 0x40, 0x01, 1, 0, 1, 0, 128, 8, 32, 64, 8, 4, 4, 8, 244, b.code] ++ send32 u := by
  have hcounts : sendNat16 Config.points ++ sendNat16 256 = [(1 : Byte), 0, 1, 0] := by decide
  rw [identityBytes, List.append_assoc [(0x4B : Byte), 0x57, 0x04, 0x40, 0x01], hcounts]
  rfl

/-- Settles O50: SET PERMISSIONS writes both routes, SET SITE POINTS checks its references before they take effect, and IDENTIFY
answers with the identity record. -/
theorem settingsReplacedAndIdentified : Obligations.SettingsReplacedAndIdentified := by
  refine ⟨fun s req h => ⟨fun hno => answersOnly_of_kind h (by decide) rfl (serveSetPermissions_refused _ hno),
    fun e w he hw => setPermissions_accepted h he hw⟩,
    fun s req x y h hx hy => ⟨setSitePoints_undefined h hx hy, setSitePoints_wrongKind h hx hy, fun hkx hky => ?_⟩,
    fun p s req h => ?_⟩
  · obtain ⟨t, ht, ⟨hframe, hlocal, htrigger, hended, hanswered, hacts, hclock, hwanted⟩, hlast⟩ :=
      setSitePoints_accepted h hx hy ((refOfKind_iff s x true).2 hkx) ((refOfKind_iff s y false).2 hky)
    exact ⟨t, ht, hframe, hlocal, htrigger, hlast, hended, hanswered, hacts, hclock, hwanted⟩
  · have hserve : serveIdentify (some p) req (takeHead p s) = (takeHead p s, some ⟨.ok, identityBytes s.baud s.uptime⟩) := by
      simp [serveIdentify, answer]
    rw [identityBytes_eq] at hserve
    exact answersOnly_of_kind (c := .identify p) h (by decide) rfl hserve

end Sys2Proof.Machine
end

section
/-! SUPPORT. What a report does to the Notice Table, row by row (R105 to R108, R111, R112), and that it keeps the table sound
(R101). -/

set_option Elab.async false

namespace Sys2Proof.Machine

variable (s : State)

/-! ## The entry of an identity, and the first of an order (R100, R101, R111, R131) -/

theorem findNotice_absent {s : State} {id : NoticeId} (h : findNotice s id = none) : ∀ n ∈ s.notices.entries, n.id ≠ id := by
  simpa [findNotice] using h

theorem findNotice_some {s : State} {n : Notice} (h : NoticesSound s) (hn : n ∈ s.notices.entries) :
    findNotice s n.id = some n := by
  cases hf : findNotice s n.id with
  | none => exact absurd rfl (findNotice_absent hf n hn)
  | some m =>
    have hm : m.id = n.id := by simpa using List.find?_some hf
    rw [List.inj_on_of_nodup_map h.2 (List.mem_of_find?_eq_some hf) hn hm]

/-- The first of a list by an order of which no two entries stand both ways is the one that stands before all others. -/
theorem firstBy_eq {before : Notice → Notice → Bool} (hasymm : ∀ a b, before a b = true → before b a = false) {v : Notice} :
    ∀ {l : List Notice}, v ∈ l → (∀ n ∈ l, n = v ∨ before v n = true) → firstBy before l = some v
  | [], hv, _ => by cases hv
  | m :: rest, hv, hall => by
    have hrest : ∀ n ∈ rest, n = v ∨ before v n = true := fun n hn => hall n (List.mem_cons_of_mem _ hn)
    unfold firstBy
    by_cases hmem : v ∈ rest
    · simp only [firstBy_eq hasymm hmem hrest]
      rcases hall m List.mem_cons_self with rfl | hm
      · exact ite_self _
      · exact if_pos hm
    · obtain rfl : v = m := (List.mem_cons.1 hv).resolve_right hmem
      cases hk : firstBy before rest with
      | none => rfl
      | some k =>
        have hkm := firstBy_mem hk
        have hb : before v k = true := (hrest k hkm).resolve_left fun e => hmem (e ▸ hkm)
        simp [hasymm v k hb]

theorem olderThan_iff {a b : Notice} : olderThan a b = true
    ↔ a.stamp.toNat < b.stamp.toNat ∨ a.stamp = b.stamp ∧ identityKey a.id < identityKey b.id := by
  simp [olderThan]

theorem fetchedBefore_iff {a b : Notice} :
    fetchedBefore a b = true ↔ b.priority < a.priority ∨ a.priority = b.priority ∧ olderThan a b = true := by
  simp [fetchedBefore]

theorem evictedBefore_iff {a b : Notice} :
    evictedBefore a b = true ↔ a.priority < b.priority ∨ a.priority = b.priority ∧ olderThan a b = true := by
  simp [evictedBefore]

theorem olderThan_asymm {a b : Notice} (h : olderThan a b = true) : ¬ olderThan b a = true := by
  rw [olderThan_iff, ← BitVec.toNat_inj] at h ⊢
  omega

theorem fetchedBefore_asymm (a b : Notice) (h : fetchedBefore a b = true) : fetchedBefore b a = false := by
  refine Bool.eq_false_iff.2 fun hba => ?_
  rw [fetchedBefore_iff] at h hba
  rcases h with h | ⟨he, h⟩
  · omega
  · exact olderThan_asymm h (hba.resolve_left (by omega)).2

theorem evictedBefore_asymm (a b : Notice) (h : evictedBefore a b = true) : evictedBefore b a = false := by
  refine Bool.eq_false_iff.2 fun hba => ?_
  rw [evictedBefore_iff] at h hba
  rcases h with h | ⟨he, h⟩
  · omega
  · exact olderThan_asymm h (hba.resolve_left (by omega)).2

/-- The victim is the entry that R111 names. -/
theorem victim_eq {s : State} {p : Nat} {v : Notice} (h : NoticesSound s) (hv : VictimFor p s v) :
    victim s.notices.entries p = some v := by
  obtain ⟨hmem, hret, hle, hall⟩ := hv
  refine firstBy_eq evictedBefore_asymm (List.mem_filter.2 ⟨hmem, by simp [hret, hle]⟩) fun n hn => ?_
  obtain ⟨hn, hs⟩ := List.mem_filter.1 hn
  simp only [Bool.and_eq_true, decide_eq_true_eq] at hs
  rw [evictedBefore_iff, olderThan_iff]
  exact (hall n hn hs.1).imp_left (List.inj_on_of_nodup_map h.2 hn hmem)

/-- There is no victim where every RETURNED entry has a higher priority (R111). -/
theorem victim_none {l : List Notice} {p : Nat} (h : ∀ n ∈ l, n.state = .returned → p < n.priority) : victim l p = none := by
  have hnone : l.filter (fun n => decide (n.state = .returned) && decide (n.priority ≤ p)) = [] :=
    List.filter_eq_nil_iff.2 fun n hn => by
      simp only [Bool.and_eq_true, decide_eq_true_eq, not_and]
      exact fun hs => Nat.not_le.2 (h n hn hs)
  rw [victim, hnone]
  rfl

/-! ## A new entry (R102, R105, R111, R112) -/

theorem newNotice_eq (id : NoticeId) (sev : Option Severity) : newNotice s id sev = raisedNotice s id sev := rfl

section insert
variable {s} {n : Notice}

theorem insertNotice_free (hl : s.notices.entries.length < 64) :
    EntriesBecome (s.notices.entries ++ [n]) s (insertNotice n s) := if_pos hl

theorem insertNotice_victim (h : NoticesSound s) (hl : s.notices.entries.length = 64) {v : Notice}
    (hv : VictimFor n.priority s v) :
    EntriesBecome (s.notices.entries.map fun m => if m.id = v.id then n else m) s (insertNotice n s) := by
  rw [insertNotice, if_neg (by rw [hl]; decide), victim_eq h hv]
  rfl

theorem insertNotice_lost (hl : s.notices.entries.length = 64)
    (hv : ∀ m ∈ s.notices.entries, m.state = .returned → n.priority < m.priority) :
    insertNotice n s = { s with notices := { s.notices with lost := .all } } := by
  rw [insertNotice, if_neg (by rw [hl]; decide), victim_none hv]
  rfl

end insert

/-! ## The rows of a report (R105 to R108) -/

/-- An entry updated: what its identity's entry becomes. -/
theorem updateNotice_becomes {id : NoticeId} {f g : Notice → Notice} (h : ∀ m, m.id = id → f m = g m) :
    EntryBecomes id g s (updateNotice id f s) := by
  have hmap : (s.notices.entries.map fun m => if m.id = id then g m else m)
      = s.notices.entries.map fun m => if m.id = id then f m else m := by
    refine List.map_congr_left fun m _ => ?_
    split
    · next he => rw [h m he]
    · rfl
  rw [EntryBecomes, EntriesBecome, hmap]
  rfl

theorem removeNotice_removed (id : NoticeId) : EntryRemoved id s (removeNotice id s) := rfl

theorem applyReport_absent {s : State} {id : NoticeId} (h : ∀ n ∈ s.notices.entries, n.id ≠ id) {r : Report}
    {sev : Option Severity} (hr : r = .start sev ∨ ∃ v, r = .change v ∧ sev = some v) :
    applyReport id r s = enterNotice id sev s := by
  rcases hr with rfl | ⟨v, rfl, rfl⟩ <;> simp only [applyReport, findNotice_none s h]

section present
variable {s} {n : Notice} (h : NoticesSound s) (hn : n ∈ s.notices.entries)
include h hn

theorem applyReport_returned (hs : n.state = .returned) {r : Report} {sev : Option Severity}
    (hr : r = .start sev ∨ ∃ v, r = .change v ∧ sev = some v) : applyReport n.id r s = reraiseNotice n.id sev s := by
  rcases hr with rfl | ⟨v, rfl, rfl⟩ <;> simp only [applyReport, findNotice_some h hn, hs]

theorem applyReport_severity (hs : n.state ≠ .returned) {r : Report} {v : Severity}
    (hr : r = .start (some v) ∨ r = .change v) : applyReport n.id r s = changeNotice n v s := by
  cases hst : n.state with
  | returned => exact absurd hst hs
  | raised => rcases hr with rfl | rfl <;> simp only [applyReport, findNotice_some h hn, hst]
  | acked => rcases hr with rfl | rfl <;> simp only [applyReport, findNotice_some h hn, hst]

theorem applyReport_start_none (hs : n.state ≠ .returned) : applyReport n.id (.start none) s
    = updateNotice n.id (fun m => { m with value := reportValue s m.id }) s := by
  cases hst : n.state with
  | returned => exact absurd hst hs
  | raised => simp only [applyReport, findNotice_some h hn, hst]
  | acked => simp only [applyReport, findNotice_some h hn, hst]

theorem applyReport_finish : applyReport n.id .finish s = match n.state with
    | .raised => updateNotice n.id (returnedNotice s) s
    | .acked => removeNotice n.id s
    | .returned => s := by
  cases hst : n.state <;> simp only [applyReport, findNotice_some h hn, hst]

end present

/-- A re-raised entry has the fields of a new one, but keeps the code and the mask of a posting (R105, R106). -/
theorem reraised_eq (sev : Option Severity) {m : Notice} {id : NoticeId} (h : m.id = id) :
    reraised s sev m = { raisedNotice s id sev with code := m.code, postedMask := m.postedMask } := by
  subst h
  rfl

theorem reraiseNotice_becomes {id : NoticeId} {sev : Option Severity} (hp : priorityOf s id sev ≠ 0) :
    EntryBecomes id (fun m => { raisedNotice s id sev with code := m.code, postedMask := m.postedMask }) s
      (reraiseNotice id sev s) := by
  rw [reraiseNotice, if_neg hp]
  exact updateNotice_becomes s fun m => reraised_eq s sev

theorem reraiseNotice_removed {id : NoticeId} {sev : Option Severity} (hp : priorityOf s id sev = 0) :
    EntryRemoved id s (reraiseNotice id sev s) := by
  rw [reraiseNotice, if_pos hp]
  exact removeNotice_removed s id

theorem ofRankTwo_iff (v : Severity) : OfRankTwo v ↔ v.rank = 2 := by
  cases v <;> simp [OfRankTwo, Severity.rank]

theorem onLowSide_iff (v : Severity) : OnLowSide v ↔ v.lowSide = true := by
  cases v <;> simp [OnLowSide, Severity.lowSide]

theorem rank_one_or_two (v : Severity) : v.rank = 1 ∨ v.rank = 2 := by
  cases v <;> simp [Severity.rank]

/-- A change of severity re-raises where it comes to rank 2 or to the other side (R106). -/
theorem isReraise_iff (old new : Severity) : isReraise (some old) new = true
    ↔ ¬ OfRankTwo old ∧ OfRankTwo new ∨ ¬ (OnLowSide old ↔ OnLowSide new) := by
  have hrank : old.rank < new.rank ↔ ¬ old.rank = 2 ∧ new.rank = 2 := by
    rcases rank_one_or_two old with ho | ho <;> rcases rank_one_or_two new with hn | hn <;> omega
  have hside : old.lowSide ≠ new.lowSide ↔ ¬ (old.lowSide = true ↔ new.lowSide = true) := not_congr Bool.eq_iff_iff
  simp only [isReraise, ofRankTwo_iff, onLowSide_iff, Bool.or_eq_true, decide_eq_true_eq, hrank, hside]

section change
variable {n : Notice} {old new : Severity} (hold : n.severity = some old)
include hold

theorem changeNotice_same (h : old = new) :
    EntryBecomes n.id (fun m => { m with value := reportValue s n.id }) s (changeNotice n new s) := by
  rw [changeNotice, if_pos (by rw [hold, h])]
  exact updateNotice_becomes s fun m hm => by rw [hm]

theorem changeNotice_removed (h : old ≠ new) (hp : priorityOf s n.id (some new) = 0) :
    EntryRemoved n.id s (changeNotice n new s) := by
  rw [changeNotice, if_neg (by simpa [hold] using h), if_pos hp]
  exact removeNotice_removed s n.id

theorem changeNotice_reraises (hp : priorityOf s n.id (some new) ≠ 0) (hr : isReraise (some old) new = true) :
    EntryBecomes n.id (fun m => { raisedNotice s n.id (some new) with code := m.code, postedMask := m.postedMask }) s
      (changeNotice n new s) := by
  have hne : old ≠ new := by
    rintro rfl
    simp [isReraise] at hr
  rw [changeNotice, if_neg (by simpa [hold] using hne), if_neg hp, hold, if_pos hr]
  exact updateNotice_becomes s fun m => reraised_eq s _

theorem changeNotice_lowers (hne : old ≠ new) (hp : priorityOf s n.id (some new) ≠ 0) (hr : ¬ isReraise (some old) new = true) :
    EntryBecomes n.id (fun m => { m with
      tag := tagOf s n.id
      severity := some new
      priority := priorityOf s n.id (some new)
      group := groupOf s n.id
      value := reportValue s n.id
      delivered := .empty }) s (changeNotice n new s) := by
  rw [changeNotice, if_neg (by simpa [hold] using hne), if_neg hp, hold, if_neg hr]
  exact updateNotice_becomes s fun m hm => by rw [← hm]; rfl

end change

/-! ## The table stays sound (R101) -/

/-- Soundness reads the identities of the entries alone. -/
theorem NoticesSound.of_ids {s t : State} (h : NoticesSound s)
    (hi : t.notices.entries.map (·.id) = s.notices.entries.map (·.id)) : NoticesSound t := by
  obtain ⟨hl, hn⟩ := h
  refine ⟨?_, hi ▸ hn⟩
  rwa [← List.length_map (f := (·.id)), hi, List.length_map]

theorem NoticesSound.congr {s t : State} (h : NoticesSound s) (he : t.notices.entries = s.notices.entries) : NoticesSound t :=
  h.of_ids (by rw [he])

theorem updateNotice_sound {id : NoticeId} {f : Notice → Notice} (hf : ∀ n, (f n).id = n.id) (h : NoticesSound s) :
    NoticesSound (updateNotice id f s) := by
  refine h.of_ids ?_
  simp only [updateNotice, setEntries_notices, List.map_map]
  refine List.map_congr_left fun n _ => ?_
  simp only [Function.comp_apply]
  split
  · exact hf n
  · rfl

theorem removeNotice_sound (id : NoticeId) (h : NoticesSound s) : NoticesSound (removeNotice id s) :=
  ⟨(List.length_filter_le _ _).trans h.1, h.2.sublist (List.filter_sublist.map _)⟩

/-- A new entry of an identity that has none keeps the table sound. -/
theorem insertNotice_sound {n : Notice} (hn : ∀ m ∈ s.notices.entries, m.id ≠ n.id) (h : NoticesSound s) :
    NoticesSound (insertNotice n s) := by
  obtain ⟨hl, hd⟩ := h
  unfold insertNotice
  split
  · next hlt =>
    refine ⟨by simpa using hlt, ?_⟩
    rw [setEntries_notices, List.map_append, List.nodup_append]
    refine ⟨hd, List.nodup_singleton _, fun a ha b hb => ?_⟩
    obtain ⟨m, hm, rfl⟩ := List.mem_map.1 ha
    rw [List.mem_singleton.1 hb]
    exact hn m hm
  · split
    · exact ⟨hl, hd⟩
    · next v _ =>
      refine ⟨by simpa using hl, ?_⟩
      have hids : (s.notices.entries.map fun m => if m.id = v.id then n else m).map (·.id)
          = (s.notices.entries.map (·.id)).map fun i => if i = v.id then n.id else i := by
        simp only [List.map_map]
        refine List.map_congr_left fun m _ => ?_
        simp only [Function.comp_apply]
        split <;> rfl
      rw [setEntries_notices, hids]
      refine hd.map_on fun a ha b hb he => ?_
      obtain ⟨x, hx, rfl⟩ := List.mem_map.1 ha
      obtain ⟨y, hy, rfl⟩ := List.mem_map.1 hb
      have := hn x hx
      have := hn y hy
      grind

theorem enterNotice_sound {id : NoticeId} (hn : ∀ m ∈ s.notices.entries, m.id ≠ id) (v : Option Severity)
    (h : NoticesSound s) : NoticesSound (enterNotice id v s) := by
  unfold enterNotice
  split
  · exact h
  · exact insertNotice_sound s hn h

theorem reraiseNotice_sound (id : NoticeId) (v : Option Severity) (h : NoticesSound s) :
    NoticesSound (reraiseNotice id v s) := by
  unfold reraiseNotice
  split
  · exact removeNotice_sound s id h
  · exact updateNotice_sound s (fun _ => rfl) h

theorem changeNotice_sound (n : Notice) (v : Severity) (h : NoticesSound s) : NoticesSound (changeNotice n v s) := by
  unfold changeNotice
  repeat' split
  · exact updateNotice_sound s (fun _ => rfl) h
  · exact removeNotice_sound s _ h
  · exact updateNotice_sound s (fun _ => rfl) h
  · exact updateNotice_sound s (fun _ => rfl) h

theorem applyReport_sound (id : NoticeId) (r : Report) (h : NoticesSound s) : NoticesSound (applyReport id r s) := by
  cases hf : findNotice s id with
  | none =>
    cases r with
    | start sev =>
      simp only [applyReport, hf]
      exact enterNotice_sound s (findNotice_absent hf) _ h
    | change v =>
      simp only [applyReport, hf]
      exact enterNotice_sound s (findNotice_absent hf) _ h
    | finish =>
      simp only [applyReport, hf]
      exact h
  | some n =>
    have hmem : n ∈ s.notices.entries := List.mem_of_find?_eq_some hf
    obtain rfl : n.id = id := by simpa using List.find?_some hf
    by_cases hs : n.state = .returned
    · cases r with
      | start sev =>
        rw [applyReport_returned h hmem hs (.inl rfl)]
        exact reraiseNotice_sound s _ _ h
      | change v =>
        rw [applyReport_returned h hmem hs (.inr ⟨v, rfl, rfl⟩)]
        exact reraiseNotice_sound s _ _ h
      | finish =>
        rw [applyReport_finish h hmem, hs]
        exact h
    · cases r with
      | start sev =>
        cases sev with
        | none =>
          rw [applyReport_start_none h hmem hs]
          exact updateNotice_sound s (fun _ => rfl) h
        | some v =>
          rw [applyReport_severity h hmem hs (.inl rfl)]
          exact changeNotice_sound s n v h
      | change v =>
        rw [applyReport_severity h hmem hs (.inr rfl)]
        exact changeNotice_sound s n v h
      | finish =>
        rw [applyReport_finish h hmem]
        split
        · exact updateNotice_sound s (fun _ => rfl) h
        · exact removeNotice_sound s _ h
        · exact h

end Sys2Proof.Machine
end

section
/-! SUPPORT. What every operation keeps of the Notice Table (R101) and of the summaries (R122). -/

set_option Elab.async false

namespace Sys2Proof.Machine

variable (s : State)

/-- From s to t the Notice Table stays sound (R101) and the summaries those of R122, each where it was so in s. -/
structure NoticesKept (s t : State) : Prop where
  sound : NoticesSound s → NoticesSound t
  follow : SummariesFollow s → SummariesFollow t

theorem NoticesKept.refl : NoticesKept s s := ⟨id, id⟩

theorem NoticesKept.trans {s t u : State} (h : NoticesKept s t) (k : NoticesKept t u) : NoticesKept s u :=
  ⟨fun x => k.sound (h.sound x), fun x => k.follow (h.follow x)⟩

theorem NoticesKept.foldl {α : Type} {f : State → α → State} (h : ∀ s a, NoticesKept s (f s a)) (xs : List α) (s : State) :
    NoticesKept s (xs.foldl f s) := by
  induction xs generalizing s with
  | nil => exact .refl s
  | cons a xs ih => exact (h s a).trans (ih (f s a))

theorem NoticesKept.ite {c : Prop} [Decidable c] {s t u : State} (h : NoticesKept s t) (k : NoticesKept s u) :
    NoticesKept s (if c then t else u) := by
  split
  · exact h
  · exact k

/-! ## What the summaries read -/

/-- The entries and thresholds, the masks of the points and actuators, and each port's level and summary are the same in s and t. -/
structure OffersSame (s t : State) : Prop where
  entries : t.notices.entries = s.notices.entries
  thresholds : t.notices.thresholds = s.notices.thresholds
  points : ∀ i, t.descOf i = s.descOf i
  actuators : ∀ i, (t.actuator i).desc = (s.actuator i).desc
  levels : ∀ p, (t.port p).level = (s.port p).level
  summaries : ∀ p, (t.port p).summary = (s.port p).summary

/-- An entry's mask is that of its point's or actuator's descriptor, or its own (R103). -/
theorem maskOfNotice_congr {s t : State} (hd : ∀ i, t.descOf i = s.descOf i)
    (ha : ∀ i, (t.actuator i).desc = (s.actuator i).desc) (n : Notice) : maskOfNotice t n = maskOfNotice s n := by
  cases hid : n.id <;> simp [maskOfNotice, hid, hd, ha]

/-- Suppression reads the entries and the thresholds (R114). -/
theorem suppressed_congr {s t : State} (ht : t.notices.thresholds = s.notices.thresholds)
    (he : t.notices.entries = s.notices.entries) (n : Notice) : suppressed t n = suppressed s n := by
  have hthreshold : ∀ g, groupThreshold t g = groupThreshold s g := fun g => by simp only [groupThreshold, ht]
  simp only [suppressed, hthreshold, he]

theorem OffersSame.offerable {s t : State} (h : OffersSame s t) (p : Port) (n : Notice) : offerable t p n = offerable s p n := by
  have hmask := maskOfNotice_congr h.points h.actuators n
  have hsuppressed := suppressed_congr h.thresholds h.entries n
  simp only [Machine.offerable, hmask, hsuppressed, h.levels]

theorem NoticesKept.of_same {s t : State} (h : OffersSame s t) : NoticesKept s t := by
  refine ⟨fun hs => hs.congr h.entries, fun hs p => ?_⟩
  have hoffered : offered t p = offered s p := by
    unfold offered
    rw [h.entries]
    exact List.filter_congr fun n _ => h.offerable p n
  rw [h.summaries, hs p, topPriority, topPriority, hoffered]

/-- A change elsewhere than in the Notice Table and the points, of the actuators no descriptor, of the ports no level and no
summary. -/
theorem NoticesKept.of_fields {l : List Block} {s t : State} (h : ChangesOnly l s t)
    (ha : ∀ i, (t.actuator i).desc = (s.actuator i).desc)
    (hp : ∀ p, (t.port p).level = (s.port p).level ∧ (t.port p).summary = (s.port p).summary)
    (hn : Block.notices ∉ l := by decide) (hd : Block.points ∉ l := by decide) : NoticesKept s t :=
  .of_same ⟨by rw [h.notices hn], by rw [h.notices hn], fun i => h.descOf i hd, ha, fun p => (hp p).1, fun p => (hp p).2⟩

theorem NoticesKept.of_acts {l : List Block} {s t : State} (h : ChangesOnly l s t)
    (ha : ∀ i, (t.actuator i).desc = (s.actuator i).desc) (hn : Block.notices ∉ l := by decide)
    (hd : Block.points ∉ l := by decide) (hp : Block.ports ∉ l := by decide) : NoticesKept s t :=
  .of_fields h ha (fun p => by rw [h.port p hp]; exact ⟨rfl, rfl⟩) hn hd

theorem NoticesKept.of_ports {l : List Block} {s t : State} (h : ChangesOnly l s t)
    (hp : ∀ p, (t.port p).level = (s.port p).level ∧ (t.port p).summary = (s.port p).summary)
    (hn : Block.notices ∉ l := by decide) (hd : Block.points ∉ l := by decide) (ha : Block.acts ∉ l := by decide) :
    NoticesKept s t :=
  .of_fields h (fun i => by rw [h.actuator i ha]) hp hn hd

/-- A change elsewhere keeps both. -/
theorem NoticesKept.of_frame {l : List Block} {s t : State} (h : ChangesOnly l s t) (hn : Block.notices ∉ l := by decide)
    (hd : Block.points ∉ l := by decide) (ha : Block.acts ∉ l := by decide) (hp : Block.ports ∉ l := by decide) :
    NoticesKept s t :=
  .of_acts h (fun i => by rw [h.actuator i ha]) hn hd hp

theorem setPort_noticesKept (p : Port) (x : PortState) (hl : x.level = (s.port p).level := by rfl)
    (hs : x.summary = (s.port p).summary := by rfl) : NoticesKept s (s.setPort p x) :=
  .of_ports (setPort_frame s p x) fun q => by
    rw [setPort_port]
    split
    · next e => subst e; exact ⟨hl, hs⟩
    · exact ⟨rfl, rfl⟩

theorem setActuator_noticesKept (i : ActIx) (x : ActuatorEntry) (h : x.desc = (s.actuator i).desc := by rfl) :
    NoticesKept s (s.setActuator i x) :=
  .of_acts (setActuator_frame s i x) fun j => by
    rw [setActuator_actuator]
    split
    · next e => subst e; exact h
    · rfl

theorem setPoint_noticesKept (i : PointIx) (x : PointEntry) (h : x.desc = (s.point i).desc := by rfl) : NoticesKept s (s.setPoint i x) := by
  refine .of_same ⟨rfl, rfl, fun j => ?_, fun _ => rfl, fun _ => rfl, fun _ => rfl⟩
  rw [State.descOf, setPoint_point]
  split
  · next e => subst e; exact h
  · rfl

/-! ## Reports and recomputations (R104 to R108, R124) -/

/-- A recomputation leaves the summaries of R122, whatever was done before it; so the table alone has to be sound. -/
theorem settle_noticesKept (d : Option Port) {t : State} (h : NoticesSound s → NoticesSound t) : NoticesKept s (settle d t) :=
  ⟨fun hs => (h hs).congr (by rw [(settle_frame t d).notices]), fun _ => settle_follows t d⟩

theorem report_noticesKept (d : Option Port) (id : NoticeId) (r : Report) : NoticesKept s (report d id r s) :=
  settle_noticesKept s d (applyReport_sound s id r)

theorem reportActivity_noticesKept (d : Option Port) (id : NoticeId) (a : Bool) : NoticesKept s (reportActivity d id a s) :=
  report_noticesKept s d id _

/-! ## Frames, responses and requests -/

theorem pushFrame_noticesKept (p : Port) (f : OutFrame) (v : Nat) : NoticesKept s (pushFrame p f v s) :=
  NoticesKept.trans (setPort_noticesKept s p _) (.of_frame (setReported_frame _ p v))

theorem setExecutor_noticesKept (p : Port) (x : Executor) : NoticesKept s (s.setExecutor p x) := setPort_noticesKept s p _

theorem placeReply_noticesKept (p : Port) (q : Request) (r : Reply) : NoticesKept s (placeReply p q r s) := by
  have placed : NoticesKept s ((placeResponse p q.kind q.tag r.result.code r.body (markOf q r) s).setExecutor p .idle) :=
    (pushFrame_noticesKept s p _ _).trans (setExecutor_noticesKept _ p .idle)
  exact .ite (placed.trans (.of_frame (setRestart_frame _ _))) placed

theorem respond_noticesKept (p : Port) (r : Reply) : NoticesKept s (respond p r s) := by
  unfold respond
  split
  · exact .ite (placeReply_noticesKept s p _ r) (setExecutor_noticesKept s p _)
  · exact .refl s

theorem placeIfRoom_noticesKept (p : Port) (k t : Byte) (r : Result) : NoticesKept s (placeIfRoom p k t r s) :=
  .ite (pushFrame_noticesKept s p _ _) (.refl s)

theorem takeHead_noticesKept (p : Port) : NoticesKept s (takeHead p s) := by
  unfold takeHead
  split
  · exact .refl s
  · exact setPort_noticesKept s p _

theorem finishService_noticesKept (p : Port) (x : Served) : NoticesKept x.1 (finishService p x) := by
  obtain ⟨u, r⟩ := x
  cases r with
  | none => exact .refl u
  | some reply => exact respond_noticesKept u p reply

/-! ## Clock Control -/

theorem reportEconomy_noticesKept (d : Option Port) (a : Bool) : NoticesKept s (reportEconomy d a s) := by
  unfold reportEconomy
  split
  · exact .refl s
  · exact (NoticesKept.of_frame (setClock_frame s _)).trans (reportActivity_noticesKept _ d _ a)

theorem actOnWanted_noticesKept (d : Option Port) : NoticesKept s (actOnWanted d s) := by
  unfold actOnWanted
  split
  · exact .of_frame (beginSwitch_frame s _)
  · exact (NoticesKept.of_frame (beginSwitch_frame s _)).trans (reportEconomy_noticesKept _ d _)
  · exact .of_frame (abandonSwitch_frame s _)
  · exact (NoticesKept.of_frame (abandonSwitch_frame s _)).trans (reportEconomy_noticesKept _ d _)
  · exact .refl s

theorem reevaluateClock_noticesKept (d : Option Port) : NoticesKept s (reevaluateClock d s) := by
  unfold reevaluateClock
  split
  · exact .refl s
  · exact (NoticesKept.of_frame (setClock_frame s _)).trans (actOnWanted_noticesKept _ d)

theorem enterClock_noticesKept : NoticesKept s (enterClock s) := by
  have entered : ∀ c, ChangesOnly [.clock, .arb] s (setHold false (s.setClock { s.clock with clockState := c, handover := none })) :=
    fun c => (setClock_frame s _).comp (setHold_frame _ false)
  unfold enterClock
  split
  · exact (NoticesKept.of_frame (entered .economy)).trans (reportEconomy_noticesKept _ none true)
  · exact .of_frame (entered .full)
  · exact .refl s

theorem restartClock_noticesKept : NoticesKept s (restartClock s) := by
  have clock := reevaluateClock_noticesKept s none
  exact .ite (clock.trans (reportEconomy_noticesKept _ none true)) clock

/-! ## Claims and writes -/

theorem requestActuator_noticesKept : NoticesKept s (requestActuator s) := .of_frame (requestActuator_frame s)

theorem applyPolicy_noticesKept (m : Nat) (i : ActIx) : NoticesKept s (applyPolicy m i s) :=
  .of_acts (applyPolicy_frame s m i) fun a => by rw [applyPolicy_actuator]

theorem setWorkList_noticesKept (l : List WorkItem) : NoticesKept s (s.setWorkList l) :=
  .of_acts (setWorkList_frame s l) fun _ => rfl

theorem setRunning_noticesKept (x : Option RunningItem) : NoticesKept s (s.setRunning x) :=
  .of_acts (setRunning_frame s x) fun _ => rfl

theorem setInFlight_noticesKept (i : ActIx) (x : InFlight) : NoticesKept s (setInFlight i x s) :=
  setActuator_noticesKept s i _

theorem queuePolicy_noticesKept (m : Nat) (i : ActIx) : NoticesKept s (queuePolicy m i s) :=
  .of_acts (queuePolicy_frame s m i) fun a => by rw [queuePolicy_actuator]

theorem queueRefresh_noticesKept (i : ActIx) : NoticesKept s (queueRefresh i s) := by
  unfold queueRefresh
  split
  · exact .refl s
  · exact (NoticesKept.of_acts (recordMoment_frame s _ i) fun _ => rfl).trans
      ((setWorkList_noticesKept _ _).trans (requestActuator_noticesKept _))

theorem dismissCommand_noticesKept (p : Port) (i : ActIx) : NoticesKept s (dismissCommand p i s) := by
  unfold dismissCommand
  split
  · exact (setWorkList_noticesKept s _).trans (respond_noticesKept _ p _)
  · exact .refl s

theorem endClaim_noticesKept (m : Nat) (i : ActIx) : NoticesKept s (endClaim m i s) := by
  unfold endClaim
  split
  · exact .refl s
  · have cleared : NoticesKept s (s.setActuator i { s.actuator i with holder := none, lease := 0 }) :=
      setActuator_noticesKept s i _
    exact (cleared.trans (dismissCommand_noticesKept _ _ i)).trans (applyPolicy_noticesKept _ m i)

theorem endClaims_noticesKept (m : Nat) (who : Port → Bool) : NoticesKept s (endClaims m who s) := by
  rw [endClaims_eq]
  refine NoticesKept.foldl (fun s i => ?_) _ s
  unfold endClaimOf
  split
  · exact .refl s
  · exact .ite (endClaim_noticesKept s m i) (.refl s)

theorem takeExpiry_noticesKept (i : ActIx) : NoticesKept s (takeExpiry i s) := .ite (endClaim_noticesKept s _ i) (.refl s)

theorem takeExpiries_noticesKept : NoticesKept s (takeExpiries s) := NoticesKept.foldl (fun s i => takeExpiry_noticesKept s i) _ s

theorem restartRefresh_noticesKept (i : ActIx) : NoticesKept s (restartRefresh i s) :=
  .of_acts (restartRefresh_frame s i) fun a => by
    rw [restartRefresh_actuator]
    split
    · next e => subst e; rfl
    · rfl

theorem writeSucceeded_noticesKept (d : Option Port) (i : ActIx) (v : Word16) : NoticesKept s (writeSucceeded d i v s) := by
  have set : NoticesKept s (s.setActuator i (succeededEntry v (s.actuator i))) := setActuator_noticesKept s i _
  exact .ite (set.trans (report_noticesKept _ d _ .finish)) set

theorem writeFailed_noticesKept (d : Option Port) (i : ActIx) : NoticesKept s (writeFailed d i s) := by
  have set : NoticesKept s (s.setActuator i (failedEntry (s.actuator i))) := setActuator_noticesKept s i _
  exact .ite (set.trans (report_noticesKept _ d _ (.start none))) set

theorem writeOutcome_noticesKept (d : Option Port) (w : WorkItem) (i : ActIx) (v : Word16) (f : Option FailReason) :
    NoticesKept s (writeOutcome d w i v f s) := by
  cases f with
  | some why => exact writeFailed_noticesKept s d i
  | none =>
    have timed := NoticesKept.ite (c := restartsTimer w = true)
      ((writeSucceeded_noticesKept s d i v).trans (restartRefresh_noticesKept _ i)) (writeSucceeded_noticesKept s d i v)
    exact .ite (timed.trans (setWorkList_noticesKept _ _)) timed

/-! ## Live records and samples -/

theorem setReportedAsserted_noticesKept (i : PointIx) (b : Bool) : NoticesKept s (setReportedAsserted i b s) :=
  setPoint_noticesKept s i _

theorem reevaluateAsserted_noticesKept (d : Option Port) (i : PointIx) : NoticesKept s (reevaluateAsserted d s i) := by
  unfold reevaluateAsserted
  split
  · exact .refl s
  · exact (setReportedAsserted_noticesKept s i _).trans (reportActivity_noticesKept _ d _ _)

theorem reevaluateGated_noticesKept (d : Option Port) (i : PointIx) : NoticesKept s (reevaluateGated d i s) :=
  NoticesKept.foldl (fun s i => reevaluateAsserted_noticesKept s d i) _ s

theorem reportFailed_noticesKept (d : Option Port) (i : PointIx) (a b : Quality) : NoticesKept s (reportFailed d i a b s) :=
  .ite (report_noticesKept s d _ _) (.ite (report_noticesKept s d _ _) (.refl s))

theorem reportBand_noticesKept (d : Option Port) (i : PointIx) (a b : Band) : NoticesKept s (reportBand d i a b s) := by
  unfold reportBand
  split
  · exact .refl s
  · split
    · exact report_noticesKept s d _ _
    · exact report_noticesKept s d _ _
    · exact report_noticesKept s d _ _

theorem reportAsserted_noticesKept (d : Option Port) (i : PointIx) (a b : Bool) : NoticesKept s (reportAsserted d i a b s) :=
  .ite (.refl s) ((reevaluateAsserted_noticesKept s d i).trans (reevaluateGated_noticesKept _ d i))

theorem reportLive_noticesKept (d : Option Port) (i : PointIx) (x : LiveRecord) : NoticesKept s (reportLive d i x s) := by
  have set : NoticesKept s (s.setPoint i { s.point i with live := x }) := setPoint_noticesKept s i _
  exact ((set.trans (reportFailed_noticesKept _ d i _ _)).trans (reportBand_noticesKept _ d i _ _)).trans
    (reportAsserted_noticesKept _ d i _ _)

theorem handOff_noticesKept (d : Option Port) (i : PointIx) (a b : LiveRecord) : NoticesKept s (handOff d i a b s) := by
  have clock : NoticesKept s (handClock d i a b s) := .ite (reevaluateClock_noticesKept s d) (.refl s)
  rw [handOff_eq]
  exact .ite (clock.trans (endClaims_noticesKept _ _ _)) clock

theorem commitLive_noticesKept (d : Option Port) (i : PointIx) (x : LiveRecord) : NoticesKept s (commitLive d i x s) := by
  rw [commitLive_eq]
  exact (reportLive_noticesKept s d i x).trans (handOff_noticesKept _ d i _ x)

theorem marked_noticesKept (i : PointIx) (x : Sample) : NoticesKept s (marked i x s) := setPoint_noticesKept s i _

theorem takeSample_noticesKept (d : Option Port) (i : PointIx) (x : Sample) : NoticesKept s (takeSample d i x s) := by
  cases h : s.descOf i with
  | none =>
    rw [takeSample_none s h]
    exact .refl s
  | some desc =>
    rw [takeSample_some s h]
    exact (marked_noticesKept s i x).trans (commitLive_noticesKept _ d i _)

/-! ## The Scanner -/

theorem endOverrun_noticesKept (d : Option Port) : NoticesKept s (endOverrun d s) :=
  .ite ((NoticesKept.of_frame (setScan_frame s _)).trans (reportActivity_noticesKept _ d _ false)) (.refl s)

theorem completeCycle_noticesKept (d : Option Port) : NoticesKept s (completeCycle d s) :=
  .ite (.of_frame (setScan_frame s _)) ((NoticesKept.of_frame (setScan_frame s _)).trans (endOverrun_noticesKept _ d))

theorem walk_noticesKept (d : Option Port) : NoticesKept s (walk d s) := by
  have once : ∀ u, NoticesKept u (walkOnce d u) := fun u =>
    .ite (.of_frame (setScannerWaiting_frame u true)) (completeCycle_noticesKept u d)
  unfold walk
  split
  · exact .ite (.of_frame (setScannerWaiting_frame s true)) (.ite (((completeCycle_noticesKept s d).trans
      (.of_frame (beginCycle_frame _))).trans (once _)) (completeCycle_noticesKept s d))
  · exact .refl s

theorem startCycle_noticesKept (d : Option Port) : NoticesKept s (startCycle d s) :=
  (NoticesKept.of_frame (beginCycle_frame s)).trans (walk_noticesKept _ d)

theorem periodExpired_noticesKept : NoticesKept s (periodExpired s) := by
  have held : NoticesKept s (s.setScan { s.scan with heldStart := true, periodTimer := none }) := .of_frame (setScan_frame s _)
  exact .ite (startCycle_noticesKept s none)
    (.ite held ((held.trans (.of_frame (setScan_frame _ _))).trans (reportActivity_noticesKept _ none _ true)))

theorem handOver_noticesKept (t : Transaction) (e : ServedEntry) : NoticesKept s (handOver t s e) := by
  unfold handOver
  split
  · exact .refl s
  · split
    · exact .refl s
    · exact takeSample_noticesKept s none _ _

theorem dropGrant_noticesKept : NoticesKept s (dropGrant s) := .of_frame (dropGrant_frame s)

theorem takeEnded_noticesKept : NoticesKept s (takeEnded s) := .of_frame (setBus_frame s _)

theorem completeRead_noticesKept (t : Transaction) : NoticesKept s (completeRead t s) := by
  have taken : NoticesKept s (dropGrant (takeEnded s)) := (takeEnded_noticesKept s).trans (dropGrant_noticesKept _)
  exact ((taken.trans (NoticesKept.foldl (fun s e => handOver_noticesKept s t e) _ _)).trans
    (.of_frame (setScan_frame _ _))).trans (walk_noticesKept _ none)

theorem grantScanner_noticesKept : NoticesKept s (grantScanner s) := by
  unfold grantScanner
  simp only []
  generalize examine s s.scan.ahead = x
  have sampled : NoticesKept s (x.unreadable.foldl (fun s i => takeSample none i (.failed .address) s) s) :=
    NoticesKept.foldl (fun s i => takeSample_noticesKept s none i _) _ s
  generalize x.unreadable.foldl (fun s i => takeSample none i (.failed .address) s) s = u at sampled
  have passed : NoticesKept s (walk none (dropGrant (u.setScan (passAll u.scan)))) :=
    ((sampled.trans (.of_frame (setScan_frame u _))).trans (dropGrant_noticesKept _)).trans (walk_noticesKept _ none)
  split
  · exact passed
  · split
    · exact passed
    · exact (sampled.trans (.of_frame (setScan_frame u _))).trans (.of_frame (beginTransaction_frame _ _))

/-! ## Transactions, the unit's writes and exchanges -/

theorem dropRunning_noticesKept : NoticesKept s (dropRunning s) := by
  unfold dropRunning
  split
  · exact .refl s
  · exact (setInFlight_noticesKept s _ _).trans (setRunning_noticesKept _ _)

theorem closeTenure_noticesKept : NoticesKept s (closeTenure s) := by
  have closed : ChangesOnly [.bus, .arb, .scan] s (((takeEnded s).setArb { s.arb with tenure := none, locked := .closed }).setScan
      { s.scan with inFlight := none }) :=
    ((setBus_frame s _).comp (setArb_frame _ _) (n := [.bus, .arb, .scan])).comp (setScan_frame _ _)
  exact ((NoticesKept.of_frame closed).trans (dropRunning_noticesKept _)).trans (requestActuator_noticesKept _)

theorem endTransaction_noticesKept (t : Transaction) : NoticesKept s (endTransaction t s) := by
  have ended : ∀ x, NoticesKept s (s.setBus x) := fun x => .of_frame (setBus_frame s x)
  exact .ite ((ended _).trans (closeTenure_noticesKept _)) (ended _)

theorem endBeat_noticesKept (t : Transaction) (b : Beat) (a e i : Bool) (x : Word16) :
    NoticesKept s (endBeat t b a e i x s) := by
  unfold endBeat
  split
  · exact endTransaction_noticesKept s _
  · simp only []
    split
    · exact .of_frame (setBus_frame s _)
    · exact endTransaction_noticesKept s _

theorem completeDirect_noticesKept (p : Port) (t : Transaction) : NoticesKept s (completeDirect p t s) := by
  have taken : NoticesKept s (dropGrant (takeEnded s)) := (takeEnded_noticesKept s).trans (dropGrant_noticesKept _)
  have answered : ∀ u, NoticesKept u (respondDirect p t u) := fun u => by
    unfold respondDirect
    split
    · split
      · exact .refl u
      · exact respond_noticesKept u p _
    · exact .refl u
  exact .ite taken (taken.trans (answered _))

theorem respondItem_noticesKept (x : RunningItem) (r : Reply) : NoticesKept s (respondItem x r s) := by
  unfold respondItem
  split
  · split
    · exact .refl s
    · exact respond_noticesKept s _ r
  · exact .refl s

theorem finishExchange_noticesKept (x : RunningItem) (o : WriteOutcome) (z : Sample) : NoticesKept s (finishExchange x o z s) := by
  have closed : NoticesKept s ((setInFlight x.item.target .no (closeLocked s)).setRunning none) :=
    ((NoticesKept.of_frame (closeLocked_frame s)).trans (setInFlight_noticesKept _ x.item.target .no)).trans
      (setRunning_noticesKept _ none)
  have fed : ∀ d i u, NoticesKept u (takeFeedback d i z u) := fun d i u => by
    unfold takeFeedback
    split
    · exact .refl u
    · exact takeSample_noticesKept u d _ z
  exact (((closed.trans (takeExpiry_noticesKept _ _)).trans (fed _ _ _)).trans (respondItem_noticesKept _ _ _)).trans
    (requestActuator_noticesKept _)

theorem beginFeedback_noticesKept (x : RunningItem) (o : WriteOutcome) : NoticesKept s (beginFeedback x o s) := by
  unfold beginFeedback
  split
  · exact (setRunning_noticesKept s _).trans (.of_frame (beginTransaction_frame _ _))
  · exact finishExchange_noticesKept s x o _

theorem completeExchangeWrite_noticesKept (t : Transaction) (x : RunningItem) : NoticesKept s (completeExchangeWrite t x s) :=
  ((takeEnded_noticesKept s).trans (writeOutcome_noticesKept _ _ _ _ _ _)).trans (setRunning_noticesKept _ _)

theorem completeItemWrite_noticesKept (t : Transaction) (x : RunningItem) : NoticesKept s (completeItemWrite t x s) := by
  have closed : NoticesKept s ((setInFlight x.item.target .no (dropGrant (takeEnded s))).setRunning none) :=
    (((takeEnded_noticesKept s).trans (dropGrant_noticesKept _)).trans (setInFlight_noticesKept _ x.item.target .no)).trans
      (setRunning_noticesKept _ none)
  exact (((closed.trans (takeExpiry_noticesKept _ _)).trans (writeOutcome_noticesKept _ _ _ _ _ _)).trans
    (respondItem_noticesKept _ _ _)).trans (requestActuator_noticesKept _)

/-! ## Grants -/

theorem beginWrite_noticesKept (x : RunningItem) (t : Transaction) : NoticesKept s (beginWrite x t s) := by
  have ran : NoticesKept s ((setInFlight x.item.target (if isExchange x.item then .exchange else .write) s).setRunning (some x)) :=
    (setInFlight_noticesKept s _ _).trans (setRunning_noticesKept _ _)
  exact (NoticesKept.ite (c := isExchange x.item = true) (ran.trans (.of_frame (setArb_frame _ _))) ran).trans
    (.of_frame (beginTransaction_frame _ _))

theorem runItem_noticesKept (w : WorkItem) (d : ActDescriptor) : NoticesKept s (runItem w d s) := by
  have failed : ∀ x, NoticesKept s (failWrite x s) := fun x =>
    (((dropGrant_noticesKept s).trans (writeOutcome_noticesKept _ _ _ _ _ _)).trans (respondItem_noticesKept _ _ _)).trans
      (requestActuator_noticesKept _)
  have exchanged : ∀ x, NoticesKept s (failExchangeWrite x s) := fun x =>
    ((writeOutcome_noticesKept s _ _ _ _ _).trans (setInFlight_noticesKept _ _ _)).trans (beginFeedback_noticesKept _ _ _)
  unfold runItem
  simp only []
  split
  · exact beginWrite_noticesKept s _ _
  · exact .ite (exchanged _) (failed _)

theorem grantActuator_noticesKept : NoticesKept s (grantActuator s) := by
  unfold grantActuator
  split
  · exact dropGrant_noticesKept s
  · simp only []
    split
    · exact ((setWorkList_noticesKept s _).trans (dropGrant_noticesKept _)).trans (requestActuator_noticesKept _)
    · exact (setWorkList_noticesKept s _).trans (runItem_noticesKept _ _ _)

theorem grantDirect_noticesKept (p : Port) : NoticesKept s (grantDirect p s) := by
  unfold grantDirect
  split
  · split
    · exact dropGrant_noticesKept s
    · split
      · exact .of_frame (beginTransaction_frame s _)
      · exact (dropGrant_noticesKept s).trans (respond_noticesKept _ p _)
  · exact dropGrant_noticesKept s

theorem composeFor_noticesKept (who : Requester) : NoticesKept s (composeFor who s) := by
  cases who with
  | actuatorUnit => exact grantActuator_noticesKept s
  | direct p => exact grantDirect_noticesKept s p
  | scanner => exact grantScanner_noticesKept s

theorem freeGrant_noticesKept : NoticesKept s (freeGrant s) := by
  have expired := takeExpiries_noticesKept s
  unfold freeGrant
  simp only []
  split
  · exact expired
  · exact (expired.trans (.of_frame (setArb_frame _ _))).trans (composeFor_noticesKept _ _)

end Sys2Proof.Machine
end

section
/-! SUPPORT. The requests, the ports, the hut link and the restarts keep the Notice Table sound and the summaries those of R122. -/

set_option Elab.async false

namespace Sys2Proof.Machine

variable (s : State)

/-! ## Requests of the Point Table and the Scanner -/

theorem removePointNotices_sound (i : PointIx) (h : NoticesSound s) : NoticesSound (removePointNotices i s) :=
  removeNotice_sound _ _ (removeNotice_sound _ _ (removeNotice_sound s _ h))

theorem acceptDefine_noticesKept (d : Option Port) (i : PointIx) (new : Descriptor) :
    NoticesKept s (acceptDefine d i new s) := by
  have removed : NoticesSound s → NoticesSound (if (s.point i).desc.isSome then removePointNotices i s else s) := fun h => by
    split
    · exact removePointNotices_sound s i h
    · exact h
  unfold acceptDefine
  simp only []
  generalize (if (s.point i).desc.isSome then removePointNotices i s else s) = s1 at removed ⊢
  have settled : NoticesKept s (settle d (s1.setPoint i ((s.point i).resetRecord (.defined new)))) :=
    settle_noticesKept s d fun h => (removed h).congr rfl
  generalize settle d (s1.setPoint i ((s.point i).resetRecord (.defined new))) = s2 at settled ⊢
  have gated : NoticesKept s (if (s.point i).live.asserted then reevaluateGated d i s2 else s2) :=
    .ite (settled.trans (reevaluateGated_noticesKept s2 d i)) settled
  generalize (if (s.point i).live.asserted then reevaluateGated d i s2 else s2) = s3 at gated ⊢
  exact .ite (gated.trans (reevaluateClock_noticesKept s3 d)) gated

theorem serveDefinePoint_noticesKept (d : Option Port) (req : Request) : NoticesKept s (serveDefinePoint d req s).1 := by
  unfold serveDefinePoint
  simp only []
  repeat' split
  · exact .refl s
  · exact .refl s
  · exact .refl s
  · exact .refl s
  · exact acceptDefine_noticesKept s d _ _

theorem serveSetLimits_noticesKept (d : Option Port) (req : Request) : NoticesKept s (serveSetLimits d req s).1 := by
  have accepted : ∀ i old new, NoticesKept s (acceptLimits d i old new s) := fun i old new => by
    have settled : NoticesKept s (settle d (s.setPoint i (limitedEntry (s.point i) new))) :=
      settle_noticesKept s d fun h => h.congr rfl
    rw [acceptLimits_eq]
    exact .ite settled (settled.trans (reevaluateAsserted_noticesKept _ d i))
  unfold serveSetLimits
  simp only []
  repeat' split
  · exact .refl s
  · exact .refl s
  · exact accepted _ _ _
  · exact .refl s

theorem serveUndefinePoint_noticesKept (d : Option Port) (req : Request) : NoticesKept s (serveUndefinePoint d req s).1 := by
  unfold serveUndefinePoint
  simp only []
  repeat' split
  · exact .refl s
  · exact .refl s
  · simp only [answer_fst]
    exact settle_noticesKept s d fun h => (removePointNotices_sound s _ h).congr rfl

theorem serveForcePoint_noticesKept (p : Port) (d : Option Port) (req : Request) :
    NoticesKept s (serveForcePoint p d req s).1 := by
  unfold serveForcePoint
  simp only []
  repeat' split
  · exact .refl s
  · exact .refl s
  · exact .refl s
  · exact commitLive_noticesKept s d _ _

theorem serveUnforcePoint_noticesKept (p : Port) (d : Option Port) (req : Request) :
    NoticesKept s (serveUnforcePoint p d req s).1 := by
  unfold serveUnforcePoint
  simp only []
  split
  · exact .refl s
  · split
    · exact .refl s
    · exact .ite (commitLive_noticesKept s d _ _) (.refl s)

theorem serveClearAsserted_noticesKept (p : Port) (d : Option Port) (req : Request) :
    NoticesKept s (serveClearAsserted p d req s).1 := by
  unfold serveClearAsserted
  simp only []
  repeat' split
  · exact .refl s
  · exact .refl s
  · exact .refl s
  · exact commitLive_noticesKept s d _ _

theorem serveStartScan_noticesKept (d : Option Port) (req : Request) : NoticesKept s (serveStartScan d req s).1 := by
  unfold serveStartScan
  simp only [scanAnswer]
  repeat' split
  · exact .refl s
  · exact (NoticesKept.of_frame (setScan_frame s _)).trans (startCycle_noticesKept _ d)
  · exact .of_frame (setScan_frame s _)

theorem serveStopScan_noticesKept (d : Option Port) (req : Request) : NoticesKept s (serveStopScan d req s).1 := by
  have stopped := NoticesKept.of_frame (setScan_frame s
    { s.scan with scanState := .stopped, periodTimer := none, heldStart := false })
  unfold serveStopScan
  simp only [scanAnswer]
  split
  · exact .refl s
  · exact .ite (stopped.trans (endOverrun_noticesKept _ d)) stopped

/-- A DEFINED or SCANNED point keeps its descriptor when it joins or leaves the scan list. -/
theorem serveScanAdd_noticesKept (d : Option Port) (req : Request) : NoticesKept s (serveScanAdd d req s).1 := by
  unfold serveScanAdd
  simp only []
  split
  · exact .refl s
  · exact .refl s
  · next desc hs =>
    have set := setPoint_noticesKept s (pointIxOf (byteAt req.body 0))
      { s.point (pointIxOf (byteAt req.body 0)) with state := .scanned desc, scanMark := true }
      (by simp only [PointEntry.desc, hs])
    exact (set.trans (.of_frame (setScan_frame _ _))).trans (walk_noticesKept _ d)

theorem serveScanRemove_noticesKept (d : Option Port) (req : Request) : NoticesKept s (serveScanRemove d req s).1 := by
  unfold serveScanRemove
  simp only []
  split
  · exact .refl s
  · exact .refl s
  · next desc hs =>
    have set := setPoint_noticesKept s (pointIxOf (byteAt req.body 0))
      { s.point (pointIxOf (byteAt req.body 0)) with
        state := .defined desc, live := leftLive (s.point (pointIxOf (byteAt req.body 0))).live }
      (by simp only [PointEntry.desc, hs])
    exact set.trans (.of_frame (setScan_frame _ _))

/-! ## Requests of the Actuator Unit, Clock Control and the Site -/

theorem clearFault_noticesKept (d : Option Port) (i : ActIx) : NoticesKept s (clearFault d i s) := by
  have cleared : NoticesKept s (s.setActuator i { s.actuator i with fault := false }) := setActuator_noticesKept s i _
  exact .ite (cleared.trans (report_noticesKept _ d _ .finish)) (.refl s)

theorem dropPending_noticesKept (i : ActIx) : NoticesKept s (dropPending i s) := setWorkList_noticesKept s _

theorem startHeld_noticesKept (i : ActIx) (x : ActDescriptor) : NoticesKept s (startHeld i x s) :=
  .ite ((restartRefresh_noticesKept s i).trans (queuePolicy_noticesKept _ _ i)) (.refl s)

theorem acceptActuator_noticesKept (d : Option Port) (i : ActIx) (x : ActDescriptor) :
    NoticesKept s (acceptActuator d i x s) := by
  have cleared := (clearFault_noticesKept s d i).trans (dropPending_noticesKept _ i)
  have settled : NoticesKept s
      (settle d ((dropPending i (clearFault d i s)).setActuator i { ActuatorEntry.initial with desc := some x })) :=
    settle_noticesKept s d fun h => (cleared.sound h).congr rfl
  exact settled.trans (startHeld_noticesKept _ i x)

theorem serveDefineActuator_noticesKept (d : Option Port) (req : Request) : NoticesKept s (serveDefineActuator d req s).1 := by
  unfold serveDefineActuator
  simp only []
  repeat' split
  · exact takeExpiry_noticesKept s _
  · exact takeExpiry_noticesKept s _
  · exact (takeExpiry_noticesKept s _).trans (acceptActuator_noticesKept _ d _ _)
  · exact .refl s

theorem acceptUndefineActuator_noticesKept (d : Option Port) (i : ActIx) : NoticesKept s (acceptUndefineActuator d i s) :=
  settle_noticesKept s d fun h => (removeNotice_sound s (.actuator i) h).congr rfl

theorem serveUndefineActuator_noticesKept (d : Option Port) (req : Request) :
    NoticesKept s (serveUndefineActuator d req s).1 := by
  unfold serveUndefineActuator
  simp only []
  repeat' split
  · exact .refl s
  · exact takeExpiry_noticesKept s _
  · exact takeExpiry_noticesKept s _
  · simp only [answer_fst]
    exact (takeExpiry_noticesKept s _).trans (acceptUndefineActuator_noticesKept _ d _)

theorem serveReadActuator_noticesKept (d : Option Port) (req : Request) : NoticesKept s (serveReadActuator d req s).1 := by
  unfold serveReadActuator
  simp only []
  repeat' split
  · exact .refl s
  · exact takeExpiry_noticesKept s _
  · exact takeExpiry_noticesKept s _

theorem serveActuator_noticesKept (p : Port) (k : ActRequest) (v : Word16) (req : Request) (accept : ActIx → State → Served)
    (h : ∀ i s, NoticesKept s (accept i s).1) : NoticesKept s (serveActuator p k v req accept s).1 := by
  unfold serveActuator
  simp only []
  repeat' split
  · exact .refl s
  · exact takeExpiry_noticesKept s _
  · exact (takeExpiry_noticesKept s _).trans (h _ _)

theorem takeClaim_noticesKept (i : ActIx) (p : Port) (n : Nat) : NoticesKept s (takeClaim i p n s) :=
  setActuator_noticesKept s i _

theorem queueItem_noticesKept (i : ActIx) (v : Word16) (w : WorkItem) : NoticesKept s (queueItem i v w s) := by
  have requested : NoticesKept s (s.setActuator i { s.actuator i with requested := some v }) := setActuator_noticesKept s i _
  exact (requested.trans (setWorkList_noticesKept _ _)).trans (requestActuator_noticesKept _)

theorem serveSetEconomy_noticesKept (d : Option Port) (req : Request) : NoticesKept s (serveSetEconomy d req s).1 := by
  unfold serveSetEconomy
  split
  · exact .refl s
  · exact (NoticesKept.of_frame (setClock_frame s _)).trans (reevaluateClock_noticesKept _ d)

theorem acceptSitePoints_noticesKept (d : Option Port) (x y : Option PointIx) :
    NoticesKept s (acceptSitePoints d x y s) := by
  have named : ChangesOnly [.site] s { s with siteLocal := x, economyTrigger := y } := by
    intro b hb; cases b <;> simp_all [Block.same]
  have clock := NoticesKept.ite (c := y ≠ s.economyTrigger)
    ((NoticesKept.of_frame named).trans (reevaluateClock_noticesKept _ d)) (.of_frame named)
  exact .ite (clock.trans (endClaims_noticesKept _ _ _)) clock

theorem serveSetSitePoints_noticesKept (d : Option Port) (req : Request) : NoticesKept s (serveSetSitePoints d req s).1 := by
  unfold serveSetSitePoints
  simp only []
  repeat' split
  · exact .refl s
  · exact .refl s
  · exact acceptSitePoints_noticesKept s d _ _

/-! ## Requests of the Point Bus Controller -/

theorem serveSetModuleClass_noticesKept (d : Option Port) (req : Request) :
    NoticesKept s (serveSetModuleClass d req s).1 := by
  unfold serveSetModuleClass
  split
  · exact .of_frame (setBus_frame s _)
  · exact .refl s

theorem serveAssignModuleClass_noticesKept (d : Option Port) (req : Request) :
    NoticesKept s (serveAssignModuleClass d req s).1 := by
  unfold serveAssignModuleClass
  split
  · exact .of_frame (setBus_frame s _)
  · exact .refl s

theorem serveDirect_noticesKept (p : Port) (d : Option Port) (req : Request) : NoticesKept s (serveDirect p d req s).1 := by
  unfold serveDirect
  repeat' split
  · exact .refl s
  · exact .refl s
  · exact .refl s
  · exact .of_frame (setDirectWaiting_frame s p true)

/-! ## Requests of the Notice Table (R109, R115, R118, R119, R130, R131, R134) -/

theorem acknowledge_noticesKept (p : Port) (d : Option Port) (n : Notice) : NoticesKept s (acknowledge p d n s).1 := by
  unfold acknowledge
  split
  · exact .refl s
  · simp only [answer_fst]
    exact settle_noticesKept s d (updateNotice_sound s fun _ => rfl)
  · simp only [answer_fst]
    exact settle_noticesKept s d (removeNotice_sound s n.id)

theorem serveAckNotice_noticesKept (p : Port) (d : Option Port) (req : Request) :
    NoticesKept s (serveAckNotice p d req s).1 := by
  unfold serveAckNotice
  repeat' split
  · exact .refl s
  · exact .refl s
  · exact acknowledge_noticesKept s p d _
  · exact .refl s

theorem postEntry_sound (k : SlotIx) (x : Posting) (h : NoticesSound s) : NoticesSound (postEntry k x s) := by
  unfold postEntry
  split
  · next hn => exact insertNotice_sound s (findNotice_absent hn) h
  · exact updateNotice_sound s (fun _ => rfl) h

theorem servePost_noticesKept (p : Port) (d : Option Port) (req : Request) : NoticesKept s (servePost p d req s).1 := by
  have posted : ∀ k x, NoticesKept s (settle d (postEntry k x (setPosting k (some x) s))) := fun k x =>
    settle_noticesKept s d fun h => postEntry_sound _ k x (h.congr rfl)
  unfold servePost
  simp only []
  repeat' split
  · exact .refl s
  · simp only [answer_fst]
    exact posted _ _
  · exact .refl s
  · simp only [answer_fst]
    exact posted _ _

theorem serveUnpost_noticesKept (p : Port) (d : Option Port) (req : Request) : NoticesKept s (serveUnpost p d req s).1 := by
  unfold serveUnpost
  repeat' split
  · exact .refl s
  · exact .refl s
  · simp only [answer_fst]
    exact settle_noticesKept s d fun h => applyReport_sound _ _ _ (h.congr rfl)
  · exact .refl s

theorem serveSetGroupThreshold_noticesKept (d : Option Port) (req : Request) :
    NoticesKept s (serveSetGroupThreshold d req s).1 := by
  unfold serveSetGroupThreshold
  simp only []
  split
  · simp only [answer_fst]
    exact settle_noticesKept s d fun h => h.congr rfl
  · exact .refl s

theorem serveFetchNotice_noticesKept (p : Port) (d : Option Port) (req : Request) :
    NoticesKept s (serveFetchNotice p d req s).1 := by
  unfold serveFetchNotice
  split
  · exact .refl s
  · simp only [answer_fst]
    exact settle_noticesKept s d (updateNotice_sound s fun _ => rfl)

theorem serveSetLevel_noticesKept (p : Port) (d : Option Port) (req : Request) : NoticesKept s (serveSetLevel p d req s).1 := by
  simp only [serveSetLevel, answer_fst]
  exact settle_noticesKept s d fun h => h.congr rfl

theorem serveReadSummary_noticesKept (p : Port) (d : Option Port) (req : Request) :
    NoticesKept s (serveReadSummary p d req s).1 :=
  .of_same ⟨rfl, rfl, fun _ => rfl, fun _ => rfl, fun _ => rfl, fun _ => rfl⟩

/-! ## The hut link (R159, R165 to R167) -/

theorem setSlot_noticesKept (k : ReferralIx) (x : ReferralSlot) : NoticesKept s (s.setSlot k x) := .of_frame (setSlot_frame s k x)

theorem placeAnswer_noticesKept (k : ReferralIx) (r : Referral) (c : Byte) (b : List Byte) :
    NoticesKept s (placeAnswer k r c b s) := by
  unfold placeAnswer
  split
  · exact NoticesKept.trans (pushFrame_noticesKept s _ _ _) (setSlot_noticesKept _ k _)
  · exact setSlot_noticesKept s k _

theorem answerNoAnswer_noticesKept (k : ReferralIx) : NoticesKept s (answerNoAnswer s k) := by
  unfold answerNoAnswer
  split
  · exact placeAnswer_noticesKept s k _ _ _
  · exact placeAnswer_noticesKept s k _ _ _
  · exact .refl s

theorem serveReferral_noticesKept (r : RoutePort) (d : Option Port) (req : Request) :
    NoticesKept s (serveReferral r d req s).1 := by
  unfold serveReferral
  repeat' split
  · exact .refl s
  · exact .refl s
  · exact .refl s
  · exact (NoticesKept.of_frame (fillSlot_frame s _ r req)).trans (setExecutor_noticesKept _ _ _)

theorem serveTakeReferral_noticesKept (d : Option Port) (req : Request) : NoticesKept s (serveTakeReferral d req s).1 := by
  unfold serveTakeReferral
  repeat' split
  · exact .refl s
  · exact setSlot_noticesKept s _ _
  · exact .refl s

theorem serveAnswerReferral_noticesKept (d : Option Port) (req : Request) :
    NoticesKept s (serveAnswerReferral d req s).1 := by
  unfold serveAnswerReferral
  repeat' split
  · exact .refl s
  · exact .refl s
  · exact placeAnswer_noticesKept s _ _ _ _
  · exact .refl s

theorem clearHutPort_noticesKept : NoticesKept s (clearHutPort s) := setPort_noticesKept s .hut _

theorem endHutClaims_noticesKept : NoticesKept s (endHutClaims s) :=
  ((setWorkList_noticesKept s _).trans (setRunning_noticesKept _ _)).trans (endClaims_noticesKept _ _ _)

theorem restartHut_noticesKept : NoticesKept s (restartHut s) := by
  have pulse : NoticesKept s (startPulse s) := .of_frame (setLink_frame s _)
  have withdrawn : ∀ u, NoticesKept u (withdrawHutDirect u) := fun u =>
    (NoticesKept.of_frame (setDirectWaiting_frame u .hut false)).trans (.of_frame (setBus_frame _ _))
  exact (((pulse.trans (clearHutPort_noticesKept _)).trans (withdrawn _)).trans (endHutClaims_noticesKept _)).trans
    (NoticesKept.foldl (fun u k => answerNoAnswer_noticesKept u k) slotIndices _)

theorem serveRestartHut_noticesKept (r : RoutePort) (d : Option Port) (req : Request) :
    NoticesKept s (serveRestartHut r d req s).1 := by
  unfold serveRestartHut
  split
  · exact .refl s
  · simp only []
    exact (respond_noticesKept s _ _).trans (restartHut_noticesKept _)

theorem serveSetPermissions_noticesKept (d : Option Port) (req : Request) :
    NoticesKept s (serveSetPermissions d req s).1 := .of_frame (serveSetPermissions_frame s d req)

/-! ## The ports -/

theorem setReceiver_noticesKept (p : Port) (x : Receiver) : NoticesKept s (setReceiver p x s) := setPort_noticesKept s p _

theorem enqueue_noticesKept (p : Port) (req : Request) : NoticesKept s (enqueue p req s) := by
  unfold enqueue
  split
  · exact setPort_noticesKept s p _
  · exact placeIfRoom_noticesKept s p _ _ _

theorem checkRequest_noticesKept (p : Port) (req : Request) : NoticesKept s (checkRequest p req s) := by
  unfold checkRequest
  repeat' split
  · exact placeIfRoom_noticesKept s p _ _ _
  · exact placeIfRoom_noticesKept s p _ _ _
  · exact enqueue_noticesKept s p req
  · exact enqueue_noticesKept s p req
  · exact placeIfRoom_noticesKept s p _ _ _

theorem validFrame_noticesKept (p : Port) : NoticesKept s (validFrame p s) := by
  have hut : NoticesKept s (s.setLink { s.link with silenceTimer := some Config.silenceTime, silence := false }) :=
    .of_frame (setLink_frame s _)
  have route : ∀ r, NoticesKept s (s.setRoute r { s.route r with linkUp := true, linkTimer := some Config.linkTime }) := fun r =>
    .of_frame (setRoute_frame s r _)
  unfold validFrame
  split
  · exact .ite (hut.trans (reportActivity_noticesKept _ none _ false)) hut
  · exact .ite (route _) ((route _).trans (reportActivity_noticesKept _ none _ false))

theorem checkFrame_noticesKept (p : Port) (b : List Byte) : NoticesKept s (checkFrame p b s) :=
  .ite ((validFrame_noticesKept s p).trans (checkRequest_noticesKept _ p _)) (.refl s)

theorem takeFrameByte_noticesKept (p : Port) (b : List Byte) : NoticesKept s (takeFrameByte p b s) := by
  unfold takeFrameByte
  split
  · exact setReceiver_noticesKept s p _
  · split
    · exact setReceiver_noticesKept s p _
    · exact (setReceiver_noticesKept s p _).trans (checkFrame_noticesKept _ p _)

theorem takeByte_noticesKept (p : Port) (b : Byte) : NoticesKept s (takeByte p b s) := by
  unfold takeByte
  split
  · exact .ite (setReceiver_noticesKept s p _) (.refl s)
  · exact takeFrameByte_noticesKept s p _

theorem releaseChipSelect_noticesKept (mosi : List Byte) (fill : Nat) : NoticesKept s (releaseChipSelect mosi fill s) := by
  have clocked : NoticesKept s (s.setPort .hut { s.port .hut with
      transmitter := hutTransmitter (mosi.length - (s.port .hut).clocked - fill) s
      clocked := 0 }) := setPort_noticesKept s .hut _
  unfold releaseChipSelect
  simp only []
  split
  · exact clocked
  · split
    · exact clocked.trans (checkFrame_noticesKept _ .hut _)
    · exact clocked

theorem linkDown_noticesKept (r : RoutePort) : NoticesKept s (linkDown r s) :=
  ((NoticesKept.of_frame (setRoute_frame s r _)).trans (reportActivity_noticesKept _ none _ _)).trans
    (endClaims_noticesKept _ _ _)

theorem placeHeld_noticesKept (p : Port) : NoticesKept s (placeHeld p s) := by
  unfold placeHeld
  repeat' split
  · exact .refl s
  · exact placeAnswer_noticesKept s _ _ _ _
  · exact .refl s

theorem placeWaiting_noticesKept (p : Port) : NoticesKept s (placeWaiting p s) := by
  unfold placeWaiting
  split
  · exact placeReply_noticesKept s p _ _
  · exact placeHeld_noticesKept s p

theorem fillFreed_noticesKept (p : Port) : NoticesKept s (fillFreed p s) := by
  unfold fillFreed
  simp only []
  repeat' split
  · exact placeWaiting_noticesKept s p
  · exact (NoticesKept.of_frame (setOwed_frame s _ false)).trans (pushFrame_noticesKept _ p _ _)
  · exact (NoticesKept.of_frame (setOwed_frame s _ false)).trans (placeWaiting_noticesKept _ p)
  · exact placeWaiting_noticesKept s p

theorem beginFrame_noticesKept (p : Port) (b : List Byte) : NoticesKept s (beginFrame p b s) := by
  have sending : NoticesKept s (s.setPort p { s.port p with transmitter := .sending b 1 }) := setPort_noticesKept s p _
  unfold beginFrame
  split
  · exact sending.trans (.of_frame (setRoute_frame _ _ _))
  · exact setPort_noticesKept s p _

theorem sendHead_noticesKept (p : Port) : NoticesKept s (sendHead p s) := by
  unfold sendHead
  split
  · exact .refl s
  · next rest _ =>
    have left : NoticesKept s (s.setPort p { s.port p with output := rest }) := setPort_noticesKept s p _
    exact (left.trans (beginFrame_noticesKept _ p _)).trans (fillFreed_noticesKept _ p)

/-! ## Restarts and the passing of time -/

theorem powerOnReset_noticesKept {s t : State} (h : execPowerOnReset s = .next t) : NoticesKept s t := by
  injection h with h
  subst h
  have ⟨_, hsound, _, hfollow, _⟩ := resetMeetsInvariants
  exact ⟨fun _ => hsound, fun _ => hfollow⟩

theorem porRelease_noticesKept {a b : Bool} {s t : State} (h : execPorRelease a b s = .next t) : NoticesKept s t := by
  unfold execPorRelease at h
  split at h
  · injection h with h
    exact h ▸ ⟨id, id⟩
  · injection h with h
    exact h ▸ .refl s

theorem beginRestart_noticesKept (p : Port) : NoticesKept s (beginRestart p s) := by
  have begun : NoticesKept s (restartBegun p s) := .of_acts (restartBegun_frame s p) fun _ => rfl
  rw [beginRestart_eq]
  exact .ite begun (begun.trans (closeTenure_noticesKept _))

/-- With no entry left and every summary 0, both hold whatever they were before (R181 steps 2 and 3). -/
theorem restartNotices_noticesKept (p : Port) : NoticesKept s (restartNotices (restartPorts p s)) := by
  refine ⟨fun _ => ⟨Nat.zero_le _, List.nodup_nil⟩, fun _ q => ?_⟩
  show ((restartPorts p s).port q).summary = 0
  rw [restartPorts_port]
  rfl

theorem restartActuators_noticesKept : NoticesKept s (restartActuators s) :=
  .of_acts (restartActuators_frame s) fun a => by rw [restartActuators_actuator]; rfl

theorem restartLink_noticesKept : NoticesKept s (restartLink s) := by
  have cleared : NoticesKept s (s.setLink (clearedLink s)) := .of_frame (setLink_frame s _)
  rw [restartLink_eq]
  exact .ite (cleared.trans (reportActivity_noticesKept _ none _ _)) cleared

theorem restartPoints_noticesKept : NoticesKept s (restartPoints s) :=
  .of_same ⟨rfl, rfl, fun i => by rw [State.descOf, restartPoints_point]; rfl, fun _ => rfl, fun _ => rfl, fun _ => rfl⟩

theorem restartScan_noticesKept : NoticesKept s (restartScan s) := by
  rw [restartScan_eq]
  exact .ite ((NoticesKept.of_frame (restartedScan_frame s)).trans (startCycle_noticesKept _ none))
    (.of_frame (restartedScan_frame s))

theorem finishRestart_noticesKept (p : Port) : NoticesKept s (finishRestart p s) := by
  have cleared : NoticesKept s (restartLink (restartActuators (restartNotices (restartPorts p s)))) :=
    ((restartNotices_noticesKept s p).trans (restartActuators_noticesKept _)).trans (restartLink_noticesKept _)
  exact (((cleared.trans (restartPoints_noticesKept _)).trans (restartScan_noticesKept _)).trans
    (restartClock_noticesKept _)).trans (.of_frame (setRestart_frame _ _))

/-- A millisecond lowers timers and sends bytes: it changes no level, no summary and no descriptor. -/
theorem tick_noticesKept : NoticesKept s (tick s) :=
  .of_fields (tick_frame s) (fun i => by rw [tick_actuator]) fun p => by cases p <;> exact ⟨rfl, rfl⟩

theorem secondTick_noticesKept {s t : State} (h : execSecondTick s = .next t) : NoticesKept s t := by
  rcases event_cases h with rfl | ⟨-, -, rfl⟩
  · exact .refl _
  · refine .of_acts ((secondTick_frame s).comp (decideHreq_frame _) (n := [.acts, .uptime, .hreq])) fun i => ?_
    simp [State.actuator, decideHreq, tickEntry, Vector.get_eq_getElem]

end Sys2Proof.Machine
end

section
/-! PROOFS. Every step keeps the Notice Table sound and the summaries those of R122; the rows of a report (O54) and of a route port's
ATTENTION (O56). -/

set_option Elab.async false

namespace Sys2Proof.Machine

variable (s : State)

/-! ## Events and rows -/

theorem event_noticesKept {e : Bool} {f : State → State} {s t : State} (h : event e f s = .next t)
    (hf : NoticesKept s (f s)) : NoticesKept s t := by
  rcases event_cases h with rfl | ⟨-, -, rfl⟩
  · exact .refl _
  · exact hf.trans (.of_frame (decideHreq_frame _))

theorem serve_noticesKept {p : Port} {accept : Request → Bool} {f : Option Port → Request → State → Served} {s t : State}
    (h : serve p accept f s = .next t) (hf : ∀ d req s, NoticesKept s (f d req s).1) : NoticesKept s t := by
  rcases serve_cases h with rfl | ⟨req, -, -, rfl⟩
  · exact .refl _
  · exact (((takeHead_noticesKept s p).trans (hf _ req _)).trans (finishService_noticesKept p _)).trans
      (.of_frame (decideHreq_frame _))

/-- A request row whose service changes nothing. -/
theorem serve_noticesKept_of_read {p : Port} {accept : Request → Bool} {f : Option Port → Request → State → Served}
    {s t : State} (h : serve p accept f s = .next t) (hf : ∀ d req s, (f d req s).1 = s) : NoticesKept s t :=
  serve_noticesKept h fun d req s => by rw [hf]; exact .refl s

theorem execBeatEnd_noticesKept {clock : Nat} {a e i : Bool} {x : Word16} {s t : State}
    (h : execBeatEnd clock a e i x s = .next t) : NoticesKept s t := by
  unfold execBeatEnd at h
  split at h
  · exact event_noticesKept h (.refl s)
  · split at h
    · exact event_noticesKept h (.refl s)
    · exact event_noticesKept h (endBeat_noticesKept s _ _ _ _ _ _)

theorem execBusRecoveryEnd_noticesKept {s t : State} (h : execBusRecoveryEnd s = .next t) : NoticesKept s t := by
  unfold execBusRecoveryEnd at h
  exact event_noticesKept h (.of_frame (setBus_frame s _))

theorem execReservedGrant_noticesKept {s t : State} (h : execReservedGrant s = .next t) : NoticesKept s t := by
  unfold execReservedGrant at h
  split at h
  · exact event_noticesKept h (.refl s)
  · exact event_noticesKept h ((NoticesKept.of_frame (setArb_frame s _)).trans (beginFeedback_noticesKept _ _ _))

theorem execReadCompletion_noticesKept {s t : State} (h : execReadCompletion s = .next t) : NoticesKept s t := by
  unfold execReadCompletion at h
  split at h
  · exact event_noticesKept h (.refl s)
  · exact event_noticesKept h (completeRead_noticesKept s _)

theorem execActuatorWriteCompletion_noticesKept {s t : State} (h : execActuatorWriteCompletion s = .next t) :
    NoticesKept s t := by
  unfold execActuatorWriteCompletion at h
  split at h
  · exact event_noticesKept h (.refl s)
  · refine event_noticesKept h ?_
    split
    · exact completeExchangeWrite_noticesKept s _ _
    · exact completeItemWrite_noticesKept s _ _

theorem execExchangeReadCompletion_noticesKept {s t : State} (h : execExchangeReadCompletion s = .next t) :
    NoticesKept s t := by
  unfold execExchangeReadCompletion at h
  split at h
  · exact event_noticesKept h (.refl s)
  · exact event_noticesKept h ((takeEnded_noticesKept s).trans (finishExchange_noticesKept _ _ _ _))

theorem execDirectTransferCompletion_noticesKept {s t : State} (h : execDirectTransferCompletion s = .next t) :
    NoticesKept s t := by
  unfold execDirectTransferCompletion at h
  split at h
  · exact event_noticesKept h (.refl s)
  · split at h
    · exact event_noticesKept h (completeDirect_noticesKept s _ _)
    · exact event_noticesKept h (.refl s)

theorem execSupervisionRestart_noticesKept {s t : State} (h : execSupervisionRestart s = .next t) : NoticesKept s t := by
  unfold execSupervisionRestart at h
  split at h
  · exact event_noticesKept h (beginRestart_noticesKept s _)
  · exact event_noticesKept h (.refl s)

theorem execSupervisionRestartSteps_noticesKept {s t : State} (h : execSupervisionRestartSteps s = .next t) :
    NoticesKept s t := by
  unfold execSupervisionRestartSteps at h
  split at h
  · exact event_noticesKept h (finishRestart_noticesKept s _)
  · exact event_noticesKept h (.refl s)

theorem execLeaseExpiry_noticesKept {i : Nat} {s t : State} (h : execLeaseExpiry i s = .next t) : NoticesKept s t := by
  unfold execLeaseExpiry at h
  split at h
  · exact event_noticesKept h (takeExpiry_noticesKept s _)
  · exact event_noticesKept h (.refl s)

theorem execRefreshTimerExpiry_noticesKept {i : Nat} {s t : State} (h : execRefreshTimerExpiry i s = .next t) :
    NoticesKept s t := by
  unfold execRefreshTimerExpiry at h
  split at h
  · exact event_noticesKept h ((restartRefresh_noticesKept s _).trans (queueRefresh_noticesKept _ _))
  · exact event_noticesKept h (.refl s)

theorem execReferralTimeout_noticesKept {k : Nat} {s t : State} (h : execReferralTimeout k s = .next t) :
    NoticesKept s t := by
  unfold execReferralTimeout at h
  split at h
  · exact event_noticesKept h (answerNoAnswer_noticesKept s _)
  · exact event_noticesKept h (.refl s)

theorem execSilenceTimerExpiry_noticesKept {s t : State} (h : execSilenceTimerExpiry s = .next t) : NoticesKept s t := by
  have stopped : NoticesKept s (s.setLink { s.link with silenceTimer := none, silence := true }) := .of_frame (setLink_frame s _)
  exact event_noticesKept h (stopped.trans (reportActivity_noticesKept _ none _ true))

/-! ## Every command -/

theorem exec_noticesKept {c : Instr} {s t : State} (h : exec c s = .next t) : NoticesKept s t := by
  cases c with
  | powerOnReset => exact powerOnReset_noticesKept h
  | porRelease a b => exact porRelease_noticesKept h
  | routeFrameComplete r b => exact event_noticesKept h (takeByte_noticesKept s _ b)
  | interByteTimeout r => exact event_noticesKept h (setReceiver_noticesKept s _ _)
  | framingError r => exact event_noticesKept h (setReceiver_noticesKept s _ _)
  | chipSelectRelease m n => exact event_noticesKept h (releaseChipSelect_noticesKept s m n)
  | linkTimeout r => exact event_noticesKept h (linkDown_noticesKept s r)
  | frameSent p => exact event_noticesKept h (sendHead_noticesKept s p)
  | definePoint p => exact serve_noticesKept h fun d req s => serveDefinePoint_noticesKept s d req
  | setLimits p => exact serve_noticesKept h fun d req s => serveSetLimits_noticesKept s d req
  | undefinePoint p => exact serve_noticesKept h fun d req s => serveUndefinePoint_noticesKept s d req
  | readPoint p => exact serve_noticesKept_of_read h fun d req s => serveReadPoint_fst s d req
  | readPoints p => exact serve_noticesKept_of_read h fun d req s => serveReadPoints_fst s d req
  | findTag p => exact serve_noticesKept_of_read h fun d req s => serveFindTag_fst s d req
  | forcePoint p => exact serve_noticesKept h fun d req s => serveForcePoint_noticesKept s p d req
  | unforcePoint p => exact serve_noticesKept h fun d req s => serveUnforcePoint_noticesKept s p d req
  | clearAsserted p => exact serve_noticesKept h fun d req s => serveClearAsserted_noticesKept s p d req
  | startScan => exact serve_noticesKept h fun d req s => serveStartScan_noticesKept s d req
  | stopScan => exact serve_noticesKept h fun d req s => serveStopScan_noticesKept s d req
  | setScanPeriod p => exact serve_noticesKept h fun d req s => .of_frame (setScan_frame s _)
  | scanAdd p => exact serve_noticesKept h fun d req s => serveScanAdd_noticesKept s d req
  | scanRemove p => exact serve_noticesKept h fun d req s => serveScanRemove_noticesKept s d req
  | readScanList p => exact serve_noticesKept_of_read h fun _ _ _ => rfl
  | setModuleClass p => exact serve_noticesKept h fun d req s => serveSetModuleClass_noticesKept s d req
  | assignModuleClass p => exact serve_noticesKept h fun d req s => serveAssignModuleClass_noticesKept s d req
  | readModuleClasses p => exact serve_noticesKept_of_read h fun _ _ _ => rfl
  | readModule p => exact serve_noticesKept h fun d req s => serveDirect_noticesKept s p d req
  | writeModule p => exact serve_noticesKept h fun d req s => serveDirect_noticesKept s p d req
  | setEconomy => exact serve_noticesKept h fun d req s => serveSetEconomy_noticesKept s d req
  | ackNotice p => exact serve_noticesKept h fun d req s => serveAckNotice_noticesKept s p d req
  | post p => exact serve_noticesKept h fun d req s => servePost_noticesKept s p d req
  | unpost p => exact serve_noticesKept h fun d req s => serveUnpost_noticesKept s p d req
  | setGroupThreshold p => exact serve_noticesKept h fun d req s => serveSetGroupThreshold_noticesKept s d req
  | fetchNotice p => exact serve_noticesKept h fun d req s => serveFetchNotice_noticesKept s p d req
  | fetchNoticeIdentity p => exact serve_noticesKept_of_read h fun d req s => serveFetchNoticeIdentity_fst s p d req
  | setLevel p => exact serve_noticesKept h fun d req s => serveSetLevel_noticesKept s p d req
  | readSummary p => exact serve_noticesKept h fun d req s => serveReadSummary_noticesKept s p d req
  | defineActuator p => exact serve_noticesKept h fun d req s => serveDefineActuator_noticesKept s d req
  | undefineActuator p => exact serve_noticesKept h fun d req s => serveUndefineActuator_noticesKept s d req
  | readActuator p => exact serve_noticesKept h fun d req s => serveReadActuator_noticesKept s d req
  | claim p =>
    exact serve_noticesKept h fun d req s => serveActuator_noticesKept s p _ _ req _ fun i u => takeClaim_noticesKept u i p _
  | release p =>
    exact serve_noticesKept h fun d req s => serveActuator_noticesKept s p _ _ req _ fun i u => endClaim_noticesKept u _ i
  | command p =>
    exact serve_noticesKept h fun d req s => serveActuator_noticesKept s p _ _ req _ fun i u => queueItem_noticesKept u i _ _
  | exchange p =>
    exact serve_noticesKept h fun d req s => serveActuator_noticesKept s p _ _ req _ fun i u =>
      (takeClaim_noticesKept u i p _).trans (queueItem_noticesKept _ i _ _)
  | takeReferral => exact serve_noticesKept h fun d req s => serveTakeReferral_noticesKept s d req
  | answerReferral => exact serve_noticesKept h fun d req s => serveAnswerReferral_noticesKept s d req
  | referral r => exact serve_noticesKept h fun d req s => serveReferral_noticesKept s r d req
  | restartHutController r => exact serve_noticesKept h fun d req s => serveRestartHut_noticesKept s r d req
  | setPermissions => exact serve_noticesKept h fun d req s => serveSetPermissions_noticesKept s d req
  | setSitePoints => exact serve_noticesKept h fun d req s => serveSetSitePoints_noticesKept s d req
  | identify p => exact serve_noticesKept_of_read h fun _ _ _ => rfl
  | restartSupervision p => exact serve_noticesKept_of_read h fun _ _ _ => rfl
  | supervisionRestart => exact execSupervisionRestart_noticesKept h
  | supervisionRestartSteps => exact execSupervisionRestartSteps_noticesKept h
  | freeGrant => exact event_noticesKept h (freeGrant_noticesKept s)
  | reservedGrant => exact execReservedGrant_noticesKept h
  | beatEnd c a e i x => exact execBeatEnd_noticesKept h
  | busRecoveryEnd => exact execBusRecoveryEnd_noticesKept h
  | readCompletion => exact execReadCompletion_noticesKept h
  | periodTimerExpiry => exact event_noticesKept h (periodExpired_noticesKept s)
  | handoverBegin => exact .of_frame (execHandoverBegin_frame h)
  | handoverEnd => exact event_noticesKept h (enterClock_noticesKept s)
  | actuatorWriteCompletion => exact execActuatorWriteCompletion_noticesKept h
  | exchangeReadCompletion => exact execExchangeReadCompletion_noticesKept h
  | directTransferCompletion => exact execDirectTransferCompletion_noticesKept h
  | secondTick => exact secondTick_noticesKept h
  | leaseExpiry i => exact execLeaseExpiry_noticesKept h
  | refreshTimerExpiry i => exact execRefreshTimerExpiry_noticesKept h
  | referralTimeout k => exact execReferralTimeout_noticesKept h
  | pulseTimerExpiry => exact .of_frame (execPulseTimerExpiry_frame h)
  | silenceTimerExpiry => exact execSilenceTimerExpiry_noticesKept h
  | rxdByte r b => exact event_noticesKept h (takeByte_noticesKept s _ b)

theorem step_noticesKept {s t : State} (h : step s = .next t) : NoticesKept s t := by
  unfold step at h
  split at h
  · injection h with h
    subst h
    exact .ite (.refl s) (tick_noticesKept s)
  · next c rest _ => exact NoticesKept.trans (t := { s with pending := rest }) ⟨id, id⟩ (exec_noticesKept h)

/-! ## The rows of a report (R105 to R108) -/

/-- Row 1 of R105 and the rows of R111 for an identity that has no entry. -/
theorem report_enters {s : State} {id : NoticeId} (h : NoticesSound s) (hn : ∀ n ∈ s.notices.entries, n.id ≠ id) {r : Report}
    {sev : Option Severity} (hr : r = .start sev ∨ ∃ v, r = .change v ∧ sev = some v) :
    (priorityOf s id sev = 0 → applyReport id r s = s)
    ∧ (priorityOf s id sev ≠ 0 → s.notices.entries.length < 64 →
      EntriesBecome (s.notices.entries ++ [raisedNotice s id sev]) s (applyReport id r s))
    ∧ (priorityOf s id sev ≠ 0 → s.notices.entries.length = 64 → ∀ v, VictimFor (priorityOf s id sev) s v →
      EntriesBecome (s.notices.entries.map fun m => if m.id = v.id then raisedNotice s id sev else m) s (applyReport id r s))
    ∧ (priorityOf s id sev ≠ 0 → s.notices.entries.length = 64 →
      (∀ n ∈ s.notices.entries, n.state = .returned → priorityOf s id sev < n.priority) →
      applyReport id r s = { s with notices := { s.notices with lost := .all } }) := by
  have entered : priorityOf s id sev ≠ 0 → enterNotice id sev s = insertNotice (raisedNotice s id sev) s := fun hp => by
    rw [enterNotice, if_neg hp, newNotice_eq]
  rw [applyReport_absent hn hr]
  refine ⟨fun hp => by rw [enterNotice, if_pos hp], fun hp hl => ?_, fun hp hl v hv => ?_, fun hp hl hv => ?_⟩
  · rw [entered hp]
    exact insertNotice_free hl
  · rw [entered hp]
    exact insertNotice_victim h hl hv
  · rw [entered hp]
    exact insertNotice_lost hl hv

section present
variable {s} {n : Notice} (h : NoticesSound s) (hn : n ∈ s.notices.entries)
include h hn

theorem report_ends (hs : n.state = .raised) : EntryBecomes n.id (fun m => { m with
    state := .returned
    value := reportValue s n.id
    delivered := .empty }) s (applyReport n.id .finish s) := by
  rw [applyReport_finish h hn, hs]
  exact updateNotice_becomes s fun m hm => by rw [← hm]; rfl

theorem report_closes (hs : n.state = .acked) : EntryRemoved n.id s (applyReport n.id .finish s) := by
  rw [applyReport_finish h hn, hs]
  exact removeNotice_removed s n.id

theorem report_repeats (hs : n.state ≠ .returned) :
    EntryBecomes n.id (fun m => { m with value := reportValue s n.id }) s (applyReport n.id (.start none) s) := by
  rw [applyReport_start_none h hn hs]
  exact updateNotice_becomes s fun m hm => by rw [hm]

/-- The rows of R106 for a severity reported to a RAISED or ACKED entry. -/
theorem report_severity (hs : n.state ≠ .returned) {r : Report} {old new : Severity} (hold : n.severity = some old)
    (hr : r = .start (some new) ∨ r = .change new) :
    (old = new → EntryBecomes n.id (fun m => { m with value := reportValue s n.id }) s (applyReport n.id r s))
    ∧ (old ≠ new → priorityOf s n.id (some new) = 0 → EntryRemoved n.id s (applyReport n.id r s))
    ∧ (priorityOf s n.id (some new) ≠ 0 → (¬ OfRankTwo old ∧ OfRankTwo new ∨ ¬ (OnLowSide old ↔ OnLowSide new)) →
      EntryBecomes n.id (fun m => { raisedNotice s n.id (some new) with
        code := m.code
        postedMask := m.postedMask }) s (applyReport n.id r s))
    ∧ (priorityOf s n.id (some new) ≠ 0 → OfRankTwo old → ¬ OfRankTwo new → (OnLowSide old ↔ OnLowSide new) →
      EntryBecomes n.id (fun m => { m with
        tag := tagOf s n.id
        severity := some new
        priority := priorityOf s n.id (some new)
        group := groupOf s n.id
        value := reportValue s n.id
        delivered := .empty }) s (applyReport n.id r s)) := by
  rw [applyReport_severity h hn hs hr]
  refine ⟨changeNotice_same s hold, changeNotice_removed s hold, fun hp hre => ?_, fun hp hto hlow hside => ?_⟩
  · exact changeNotice_reraises s hold hp ((isReraise_iff old new).2 hre)
  · refine changeNotice_lowers s hold (fun e => hlow (e ▸ hto)) hp fun hre => ?_
    rcases (isReraise_iff old new).1 hre with ⟨hno, -⟩ | hno
    · exact hno hto
    · exact hno hside

end present

/-- Settles O54: a table of distinct identities stays one, since a report adds an entry only where its identity has none and there is
room or a victim. -/
theorem noticeTableStaysSound : Obligations.NoticeTableStaysSound := by
  refine ⟨fun s t hs h => (step_noticesKept h).sound hs,
    fun s id h hn => ⟨by simp only [applyReport, findNotice_none s hn], fun r sev => report_enters h hn⟩,
    fun s n h hn hs => ⟨by rw [applyReport_finish h hn, hs], fun r sev hr => ?_⟩,
    fun s n h hn hs => ⟨report_ends h hn, report_closes h hn, report_repeats h hn hs,
      fun r old new hold hr => report_severity h hn hs hold hr⟩,
    fun s i k sev d hd => ?_⟩
  · rw [applyReport_returned h hn hs hr]
    exact ⟨reraiseNotice_removed s, reraiseNotice_becomes s⟩
  · refine ⟨by simp [tagOf, hd], by simp [groupOf, hd], rfl, ?_, ?_⟩
    · rintro (rfl | rfl) <;> simp [priorityOf, hd]
    · rintro (rfl | rfl | rfl) <;> simp [priorityOf, hd]

/-! ## The summary is the greatest priority offerable (R122, R124) -/

theorem foldl_max_bounds (l : List Nat) (a : Nat) : a ≤ l.foldl max a ∧ (∀ x ∈ l, x ≤ l.foldl max a)
    ∧ (l.foldl max a = a ∨ l.foldl max a ∈ l) := by
  induction l generalizing a with
  | nil => simp
  | cons x xs ih =>
    obtain ⟨hle, hall, hval⟩ := ih (max a x)
    simp only [List.foldl_cons, List.mem_cons, forall_eq_or_imp]
    refine ⟨by omega, ⟨by omega, hall⟩, ?_⟩
    rcases hval with hv | hv
    · rcases Nat.le_total a x with hax | hax
      · exact .inr (.inl (by rw [hv, Nat.max_eq_right hax]))
      · exact .inl (by rw [hv, Nat.max_eq_left hax])
    · exact .inr (.inr hv)

theorem le_topPriority {s : State} {p : Port} {n : Notice} (hn : n ∈ s.notices.entries) (ho : offerable s p n = true) :
    n.priority ≤ topPriority s p :=
  (foldl_max_bounds _ 0).2.1 _ (List.mem_map.2 ⟨n, List.mem_filter.2 ⟨hn, ho⟩, rfl⟩)

theorem topPriority_attained (p : Port) : topPriority s p = 0
    ∨ ∃ n ∈ s.notices.entries, offerable s p n = true ∧ n.priority = topPriority s p := by
  refine (foldl_max_bounds _ 0).2.2.imp_right fun hm => ?_
  obtain ⟨n, hn, he⟩ := List.mem_map.1 hm
  obtain ⟨hn, ho⟩ := List.mem_filter.1 hn
  exact ⟨n, hn, ho, he⟩

/-! ## Offerable entries (R103, R114, R122) -/

theorem offerable_iff {s : State} {p : Port} {n : Notice} : offerable s p n = true
    ↔ (maskOfNotice s n).get p = true ∧ (n.state = .raised ∨ n.state = .returned) ∧ n.delivered.get p = false
      ∧ (s.port p).level < n.priority ∧ suppressed s n = false := by
  simp [offerable, and_assoc]

theorem groupThreshold_succ (k : Fin 7) : groupThreshold s (k.val + 1) = s.notices.thresholds.get k := by
  simp [groupThreshold, Vector.get_eq_getElem]

theorem suppressed_iff {s : State} {n : Notice} : suppressed s n = true ↔ groupThreshold s n.group ≠ 0
    ∧ ∃ m ∈ s.notices.entries, m.group = n.group ∧ (m.state = .raised ∨ m.state = .acked)
      ∧ groupThreshold s n.group ≤ m.priority ∧ n.priority < m.priority := by
  simp [suppressed, and_assoc]

/-! ## A route port's ATTENTION (R127) -/

theorem attentionWaits_iff {s : State} {p : Port} :
    attentionWaits s p = true ↔ ∃ f ∈ (s.port p).output, f.mark = .attention := by
  simp [attentionWaits, isAttention]

theorem setReported_toPort (r : RoutePort) (v : Nat) :
    setReported (toPort r) v s = s.setRoute r { s.route r with lastReported := v } := by
  simp [setReported, routeOf_toPort]

/-- Rows 1 and 2 of R127: an ATTENTION that waits takes the summary as its body, where it has another. -/
theorem decideAttention_waiting {s : State} {r : RoutePort} (h : ∃ f ∈ (s.port (toPort r)).output, f.mark = .attention) :
    decideAttention r s = refreshAttention r s := if_pos (attentionWaits_iff.2 h)

theorem refreshAttention_differs {s : State} {r : RoutePort}
    (h : ∃ f ∈ (s.port (toPort r)).output, f.mark = .attention ∧ f.body ≠ [natByte (s.port (toPort r)).summary]) :
    refreshAttention r s = (s.setPort (toPort r) { s.port (toPort r) with
      output := replaceAttention (s.port (toPort r)).summary (s.port (toPort r)).output }).setRoute r
        { s.route r with lastReported := (s.port (toPort r)).summary } := by
  rw [refreshAttention]
  simp only []
  rw [if_pos (by simpa [isAttention] using h), setReported_toPort]
  rfl

theorem refreshAttention_same {s : State} {r : RoutePort}
    (h : ∀ f ∈ (s.port (toPort r)).output, f.mark = .attention → f.body = [natByte (s.port (toPort r)).summary]) :
    refreshAttention r s = s := if_neg (by simpa [isAttention] using h)

section noneWaits
variable {s} {r : RoutePort} (h : ∀ f ∈ (s.port (toPort r)).output, f.mark ≠ .attention)
include h

/-- With no ATTENTION waiting, the summary is compared with the last reported one (R127). -/
theorem decideAttention_none : decideAttention r s
    = if (s.route r).lastReported < (s.port (toPort r)).summary then
        if hasRoom s (toPort r) then
          pushFrame (toPort r) (attentionFrame (s.port (toPort r)).summary) (s.port (toPort r)).summary s
        else setOwed r true s
      else setOwed r false s :=
  if_neg fun hw => by
    obtain ⟨f, hf, hm⟩ := attentionWaits_iff.1 hw
    exact h f hf hm

theorem decideAttention_queues (hv : (s.route r).lastReported < (s.port (toPort r)).summary)
    (hl : (s.port (toPort r)).output.length < 8) :
    decideAttention r s = (s.setPort (toPort r) { s.port (toPort r) with
      output := (s.port (toPort r)).output ++ [attentionFrame (s.port (toPort r)).summary] }).setRoute r
        { s.route r with lastReported := (s.port (toPort r)).summary } := by
  rw [decideAttention_none h, if_pos hv, if_pos (by simpa [hasRoom] using hl), pushFrame, setReported_toPort]
  rfl

theorem decideAttention_owes (hv : (s.route r).lastReported < (s.port (toPort r)).summary)
    (hl : 8 ≤ (s.port (toPort r)).output.length) :
    decideAttention r s = s.setRoute r { s.route r with attentionOwed := true } := by
  rw [decideAttention_none h, if_pos hv, if_neg (by simpa [hasRoom] using hl)]
  rfl

theorem decideAttention_rests (hv : (s.port (toPort r)).summary ≤ (s.route r).lastReported) :
    decideAttention r s = s.setRoute r { s.route r with attentionOwed := false } := by
  rw [decideAttention_none h, if_neg (Nat.not_lt.2 hv)]
  rfl

end noneWaits

/-- Settles O56: every change of the table, a level, a mask or a threshold is followed by a recomputation, and nothing else moves what
the summaries read. -/
theorem summariesFollowEveryStep : Obligations.SummariesFollowEveryStep := by
  refine ⟨fun s t hs h => (step_noticesKept h).follow hs, fun s p hs => ?_,
    fun s p n => ⟨offerable_iff, fun hg => ?_, fun k hg => ?_, fun i k d hid hd => ?_, fun i d hid hd => ?_, fun k hid => ?_,
      fun k m hid hm => ?_⟩, ?_⟩
  · rw [hs p]
    exact ⟨fun n => le_topPriority, topPriority_attained s p⟩
  · rw [Bool.eq_false_iff, Ne, suppressed_iff, hg]
    exact fun h => h.1 rfl
  · rw [suppressed_iff, hg, groupThreshold_succ]
  · simp [maskOfNotice, hid, hd]
  · simp [maskOfNotice, hid, hd]
  · simp [maskOfNotice, hid]
  · simp [maskOfNotice, hid, hm]
  · rintro s r p v rfl rfl
    refine ⟨fun h => ?_, fun h hb => ?_, fun h => ⟨decideAttention_queues h, decideAttention_owes h, decideAttention_rests h⟩⟩
    · obtain ⟨f, hf, hm, -⟩ := id h
      rw [decideAttention_waiting ⟨f, hf, hm⟩, refreshAttention_differs h]
      simp [replaceAttention, isAttention, attentionFrame]
    · rw [decideAttention_waiting h, refreshAttention_same hb]

end Sys2Proof.Machine
end

section
/-! PROOFS. The pulse and the silence timer (O49). -/

set_option Elab.async false

namespace Sys2Proof.Machine

variable (s : State)

/-- The start of an internal condition with no entry, where there is room, makes the entry of its priority (R105, R111, R116). -/
theorem reportActivity_start_entered (d : Option Port) {k : InternalSource}
    (h : ∀ n ∈ s.notices.entries, n.id ≠ .internal k) (hl : s.notices.entries.length < 64) :
    Entered (.internal k) k.priority s (reportActivity d (.internal k) true s) :=
  report_start_enters s d h hl (by rw [priorityOf]; cases k <;> decide)

theorem pulse_not_expired (h : s.link.pulseTimer ≠ some 0) : execPulseTimerExpiry s = .next s :=
  event_none (.inr (timer_not_expired h))

/-- The pulse ends with HCRST released and the silence timer started (R166). -/
theorem pulse_expires (hp : s.por = false) (h : s.link.pulseTimer = some 0) : execPulseTimerExpiry s
    = .next (decideHreq (s.setLink { s.link with
      pulse := false
      hcrst := false
      pulseTimer := none
      silenceTimer := some 60000 })) :=
  event_next hp (timer_expired_iff.2 h)

theorem silence_not_expired (h : s.link.silenceTimer ≠ some 0) : execSilenceTimerExpiry s = .next s :=
  event_none (.inr (timer_not_expired h))

/-- The silence is active and HUT_SILENT starts (R167). -/
theorem silence_expires (hp : s.por = false) (h : s.link.silenceTimer = some 0) : execSilenceTimerExpiry s
    = .next (decideHreq (reportActivity none (.internal .hutSilent) true
      (s.setLink { s.link with silenceTimer := none, silence := true }))) :=
  event_next hp (timer_expired_iff.2 h)

/-- Settles O49: only a timer that stands at 0 has its expiry, and each expiry writes the hut link as R166 and R167 say. -/
theorem pulseAndSilenceExpire : Obligations.PulseAndSilenceExpire := by
  refine ⟨fun s => ⟨fun h => pulse_not_expired s h, fun h => silence_not_expired s h⟩,
    fun s hp => ⟨fun h => ⟨_, pulse_expires s hp h, ?_, ?_⟩, fun h => ⟨_, silence_expires s hp h, ?_, ?_, fun hn hl => ?_⟩⟩⟩
  · exact (setLink_frame s _).comp (decideHreq_frame _)
  · exact (decideHreq_frame _).link
  · exact ((setLink_frame s _).comp (reportActivity_frame _ none _ true) (n := [.link, .notices, .ports, .routes])).comp
      (decideHreq_frame _)
  · exact (decideHreq_frame _).link.trans (reportActivity_frame _ none _ true).link
  · exact (decideHreq_frame _).notices.trans
      (reportActivity_start_entered (s.setLink { s.link with silenceTimer := none, silence := true }) none hn hl)

end Sys2Proof.Machine
end

section
/-! SUPPORT. A request of the Notice Table whose service changes the table and recomputes the summaries. -/

set_option Elab.async false

namespace Sys2Proof.Machine

theorem Delivers.level {d : Option Port} {s t : State} (h : Delivers d s t) (p : Port) : (t.port p).level = (s.port p).level := by
  obtain ⟨-, -, -, -, -, hlevel⟩ := h.ports p
  exact hlevel

/-- A request whose service changes the Notice Table alone and recomputes the summaries is answered after the recomputation (R124),
and leaves the table of that change. -/
theorem serve_settled {s w : State} {p : Port} {req : Request} {accept : Request → Bool}
    {f : Option Port → Request → State → Served} {reply : Reply} (h : Ready s p req) (ha : accept req = true)
    (hm : req.kind ≠ Config.restartSupervisionKind) (hw : ChangesOnly [.notices] (takeHead p s) w)
    (hf : f (some p) req (takeHead p s) = (settle (some p) w, some reply)) :
    ∃ t, serve p accept f s = .next t ∧ AnsweredAfter p req reply.result reply.body s t ∧ SummariesFollow t
      ∧ ChangesOnly [.notices, .ports, .routes, .hreq] s t ∧ t.notices = w.notices
      ∧ ∀ q, (t.port q).level = (s.port q).level := by
  have delivered : Delivers (some p) (takeHead p s) (settle (some p) w) := (Delivers.of_frame hw).trans (settle_delivers w _)
  obtain ⟨t, ht, hans, hsum, hk⟩ := serve_answeredAfter h ha hf delivered (.inl hm)
  refine ⟨t, ht, hans, serve_follows h ha hf ht hsum hk (settle_follows w _), ?_,
    hk.notices.trans (settle_frame w _).notices, fun q => ?_⟩
  · exact (((takeHead_frame s p).comp hw (n := [.notices, .ports])).comp (settle_frame w _)
      (n := [.notices, .ports, .routes])).comp hk
  · rw [serve_level h ha hf ht, delivered.level q, takeHead_port h.queue]
    split
    · next e => rw [e]
    · rfl

end Sys2Proof.Machine
end

section
/-! PROOFS. ACK NOTICE (O34). -/

set_option Elab.async false

namespace Sys2Proof.Machine

variable (s : State)

section served
variable {s} {d : Option Port} {p : Port} {req : Request} {id : NoticeId}
  (hid : noticeIdOf (byteAt req.body 0) (byteAt req.body 1) (byteAt req.body 2) = some id)
include hid

theorem serveAckNotice_notFound (h : ∀ n ∈ s.notices.entries, n.id ≠ id) :
    serveAckNotice p d req s = (s, some ⟨.notFound, []⟩) := by
  simp only [serveAckNotice, hid, findNotice_none s h]
  rfl

/-- The entry of the identity is protected from a port outside its mask, and is else acknowledged (R109). -/
theorem serveAckNotice_found {n : Notice} (h : NoticesSound s) (hn : n ∈ s.notices.entries) (hni : n.id = id) :
    serveAckNotice p d req s
      = if (maskOfNotice s n).get p then acknowledge p d n s else (s, some ⟨.portProtected, []⟩) := by
  subst hni
  simp only [serveAckNotice, hid, findNotice_some h hn]
  rfl

end served

theorem takeHead_noticesSound {p : Port} (h : NoticesSound s) : NoticesSound (takeHead p s) :=
  h.congr (by rw [(takeHead_frame s p).notices])

/-- The taking of a request changes no mask (R103). -/
theorem takeHead_maskOfNotice (p : Port) (n : Notice) : maskOfNotice (takeHead p s) n = maskOfNotice s n :=
  maskOfNotice_congr (takeHead_descOf s p) (fun i => by rw [takeHead_actuator]) n

/-- Settles O34: the identity, its entry, the entry's mask and its state decide in this order. -/
theorem noticeAcknowledgedByRows : Obligations.NoticeAcknowledgedByRows := by
  rintro p s req b h rfl
  refine ⟨fun hid => answersOnly_of_kind h (by decide) rfl (by simp only [serveAckNotice, hid]; rfl), fun id hid => ⟨fun hn => ?_,
    fun n hn hni hs => ?_⟩⟩
  · exact answersOnly_of_kind h (by decide) rfl (serveAckNotice_notFound hid (by rwa [(takeHead_frame s p).notices]))
  · have found := serveAckNotice_found (s := takeHead p s) (d := some p) (p := p) hid (takeHead_noticesSound s hs)
      (by rwa [(takeHead_frame s p).notices]) hni
    rw [takeHead_maskOfNotice] at found
    refine ⟨fun hm => ?_, fun hm hst => ?_, fun hm hst => ?_, fun hm hst => ?_⟩
    · exact answersOnly_of_kind h (by decide) rfl (by rw [found, hm]; rfl)
    · exact answersOnly_of_kind h (by decide) rfl (by rw [found, hm, if_pos rfl, acknowledge, hst]; rfl)
    · subst hni
      obtain ⟨t, ht, hans, hfollow, hk, hnotices, -⟩ := serve_settled h.1 (ofKind_of_asked h) (kind_ne_restart h.2 (by decide))
        (updateNotice_frame (takeHead p s) n.id (ackedNotice p))
        (f := serveAckNotice p) (reply := ⟨.ok, [2]⟩) (by rw [found, hm, if_pos rfl, acknowledge, hst]; rfl)
      exact ⟨t, ht, hans, hfollow, hk, by rw [hnotices, updateNotice, setEntries_notices, (takeHead_frame s p).notices]; rfl⟩
    · subst hni
      obtain ⟨t, ht, hans, hfollow, hk, hnotices, -⟩ := serve_settled h.1 (ofKind_of_asked h) (kind_ne_restart h.2 (by decide))
        (removeNotice_frame (takeHead p s) n.id)
        (f := serveAckNotice p) (reply := ⟨.ok, [0]⟩) (by rw [found, hm, if_pos rfl, acknowledge, hst]; rfl)
      exact ⟨t, ht, hans, hfollow, hk, by rw [hnotices, removeNotice, setEntries_notices, (takeHead_frame s p).notices]⟩

end Sys2Proof.Machine
end

section
/-! PROOFS. SET GROUP THRESHOLD and SET LEVEL (O36). -/

set_option Elab.async false

namespace Sys2Proof.Machine

variable (s : State)

/-! ## SET GROUP THRESHOLD (R115) -/

theorem serveSetGroupThreshold_refused {d : Option Port} {req : Request}
    (h : (byteAt req.body 0).toNat = 0 ∨ 7 < (byteAt req.body 0).toNat ∨ 31 < (byteAt req.body 1).toNat) :
    serveSetGroupThreshold d req s = (s, some ⟨.outOfRange, []⟩) := dif_neg (by show ¬ (_ ∧ _ ∧ _ ≤ 31); omega)

/-- The table with the threshold of group k + 1 replaced. -/
def thresholdSet (k : Fin 7) (n : Nat) (s : State) : State :=
  s.setNotices { s.notices with thresholds := s.notices.thresholds.set k n }

theorem thresholdSet_get (k j : Fin 7) (n : Nat) :
    (thresholdSet k n s).notices.thresholds.get j = if j = k then n else s.notices.thresholds.get j :=
  get_set_vector s.notices.thresholds k j n

theorem serveSetGroupThreshold_accepted {d : Option Port} {req : Request} {k : Fin 7}
    (hg : (byteAt req.body 0).toNat = k.val + 1) (ht : (byteAt req.body 1).toNat ≤ 31) :
    serveSetGroupThreshold d req s = (settle d (thresholdSet k (byteAt req.body 1).toNat s),
      some ⟨.ok, (thresholdSet k (byteAt req.body 1).toNat s).notices.thresholds.toList.map natByte⟩) := by
  have hrange : 1 ≤ (byteAt req.body 0).toNat ∧ (byteAt req.body 0).toNat ≤ 7
      ∧ (byteAt req.body 1).toNat ≤ Config.topLevel := ⟨by omega, by omega, ht⟩
  rw [serveSetGroupThreshold, dif_pos hrange]
  simp only [hg, Nat.add_sub_cancel, answer, (settle_frame _ d).notices]
  rfl

/-! ## SET LEVEL (R130) -/

/-- Port p with another service level. -/
def levelSet (p : Port) (n : Nat) (s : State) : State := s.setPort p { s.port p with level := n }

theorem levelSet_keepsRequest (p : Port) (n : Nat) : KeepsRequest p s (levelSet p n s) := by
  refine ⟨by simp [levelSet], by simp [levelSet], by simp [levelSet], fun q hq => ?_, fun _ => .refl _⟩
  rw [levelSet, setPort_port, if_neg hq]
  exact ⟨rfl, rfl, rfl, rfl⟩

/-- What the service leaves of the table and the summaries, the response and the interrupt line leave. -/
theorem serve_noticesKept_after {s t u : State} {p : Port} {req : Request} {accept : Request → Bool}
    {f : Option Port → Request → State → Served} {r : Option Reply} (h : Ready s p req) (ha : accept req = true)
    (hf : f (some p) req (takeHead p s) = (u, r)) (ht : serve p accept f s = .next t) : NoticesKept u t := by
  rw [serve_eq h.toTaken ha, deferral_room h.room, hf] at ht
  injection ht with ht
  exact ht ▸ (finishService_noticesKept p (u, r)).trans (.of_frame (decideHreq_frame _))

theorem setLevel_sets {p : Port} {req : Request} (h : Asked .setLevel p s req) :
    ∃ t, exec (.setLevel p) s = .next t ∧ SummariesFollow t ∧ ChangesOnly [.ports, .routes, .hreq] s t
      ∧ (t.port p).level = min 31 (byteAt req.body 0).toNat
      ∧ (t.port p).output.getLast? = some (responseFrame req.kind req.tag 0 (t.port p).summary
        [natByte (min 31 (byteAt req.body 0).toNat)] .response)
      ∧ (t.port p).executor = .idle ∧ (t.port p).requests = (s.port p).requests.tail
      ∧ ∀ q, q ≠ p → DeliveryOnly (s.port q) (t.port q) := by
  have hf : serveSetLevel p (some p) req (takeHead p s)
      = (settle (some p) (levelSet p (min 31 (byteAt req.body 0).toNat) (takeHead p s)),
        some ⟨.ok, [natByte (min 31 (byteAt req.body 0).toNat)]⟩) := rfl
  generalize min 31 (byteAt req.body 0).toNat = n at hf ⊢
  have ha := ofKind_of_asked h
  have delivered := settle_delivers (levelSet p n (takeHead p s)) (some p)
  obtain ⟨t, ht, ⟨hout, hreq, hexe, -, -⟩, hk⟩ := serve_answeredLast h.1 ha hf
    ((levelSet_keepsRequest _ p n).trans delivered.keepsRequest) (.inl (kind_ne_restart h.2 (by decide)))
  refine ⟨t, ht, (serve_noticesKept_after h.1 ha hf ht).follow (settle_follows _ _), ?_, ?_, hout, hexe, hreq, fun q hq => ?_⟩
  · exact (((takeHead_frame s p).comp (setPort_frame _ p _) (n := [.ports])).comp (settle_frame _ _)
      (n := [.ports, .routes])).comp hk
  · rw [serve_level h.1 ha hf ht, delivered.level p]
    simp [levelSet]
  · have hq' : (levelSet p n (takeHead p s)).port q = s.port q := by
      rw [levelSet, setPort_port, if_neg hq, takeHead_port h.1.queue, if_neg hq]
    rw [serve_port_ne h.1 ha hf ht hq, ← hq']
    exact delivered.ports q

/-- Settles O36: each setting is replaced before the summaries are recomputed, and the response comes after. -/
theorem thresholdAndLevelSet : Obligations.ThresholdAndLevelSet := by
  rintro p s req b rfl
  refine ⟨fun h => ⟨fun hr => ?_, fun k hg ht => ?_⟩, fun h => setLevel_sets s h⟩
  · exact answersOnly_of_kind h (by decide) rfl (serveSetGroupThreshold_refused _ hr)
  · obtain ⟨t, hexec, hans, hfollow, hk, hnotices, -⟩ := serve_settled h.1 (ofKind_of_asked h)
      (kind_ne_restart h.2 (by decide)) (setNotices_frame (takeHead p s) _)
      (serveSetGroupThreshold_accepted (takeHead p s) (d := some p) hg ht)
    have hthresholds : ∀ j, t.notices.thresholds.get j
        = if j = k then (byteAt req.body 1).toNat else s.notices.thresholds.get j := fun j => by
      rw [hnotices]
      exact (thresholdSet_get (takeHead p s) k j _).trans (by rw [takeHead_notices])
    refine ⟨t, hexec, hfollow, hk, ?_, ?_, ?_, fun j hj => ?_⟩
    · rw [hnotices]
      exact hans
    · rw [hnotices]
      simp
    · rw [hthresholds, if_pos rfl]
    · rw [hthresholds, if_neg hj]

end Sys2Proof.Machine
end

section
/-! PROOFS. FETCH NOTICE without an identity (O37). -/

set_option Elab.async false

namespace Sys2Proof.Machine

variable (s : State)

/-! ## The notice record and the delivered mark (R123, R131) -/

/-- The record reads the Notice Table, the masks and what is offerable to the port. -/
theorem noticeRecord_congr {s t : State} {p : Port} (hn : t.notices = s.notices) (hd : ∀ i, t.descOf i = s.descOf i)
    (ha : ∀ i, (t.actuator i).desc = (s.actuator i).desc) (hl : (t.port p).level = (s.port p).level) (n : Notice) :
    noticeRecord t p n = noticeRecord s p n := by
  have hposter : recordPoster t n = recordPoster s n := by
    cases hid : n.id <;> simp [recordPoster, hid, posterOf, hn]
  have hsuppressed : suppressed t n = suppressed s n := suppressed_congr (by rw [hn]) (by rw [hn]) n
  rw [noticeRecord, noticeRecord, maskOfNotice_congr hd ha, hposter, hsuppressed, offerableCount, offerableCount,
    offered_congr p hn hd ha hl]

/-- No mark of delivery suppresses an entry, or frees one (R114). -/
theorem suppressed_marked {s t : State} {p : Port} {id : NoticeId} (ht : t.notices.thresholds = s.notices.thresholds)
    (he : t.notices.entries = s.notices.entries.map fun m => if m.id = id then markDelivered p m else m) (n : Notice) :
    suppressed t n = suppressed s n := by
  have hthreshold : ∀ g, groupThreshold t g = groupThreshold s g := fun g => by simp only [groupThreshold, ht]
  simp only [suppressed, hthreshold, he, List.any_map]
  refine congrArg _ (congrArg (List.any s.notices.entries) (funext fun m => ?_))
  simp only [Function.comp_apply]
  split <;> rfl

/-- What is offerable after the mark was offerable before it, and is another entry. -/
theorem offered_marked {s t : State} {p : Port} {id : NoticeId} (hd : ∀ i, t.descOf i = s.descOf i)
    (ha : ∀ i, (t.actuator i).desc = (s.actuator i).desc) (hl : (t.port p).level = (s.port p).level)
    (hn : t.notices = { s.notices with
      entries := s.notices.entries.map fun m => if m.id = id then markDelivered p m else m }) :
    ∀ m ∈ offered t p, m ∈ offered s p ∧ m.id ≠ id := by
  have hsuppressed : ∀ n, suppressed t n = suppressed s n :=
    suppressed_marked (p := p) (id := id) (by rw [hn]) (by rw [hn])
  intro m hm
  obtain ⟨hmem, ho⟩ := List.mem_filter.1 hm
  rw [hn] at hmem
  obtain ⟨x, hx, rfl⟩ := List.mem_map.1 hmem
  rw [offerable_iff, maskOfNotice_congr hd ha, hl, hsuppressed] at ho
  by_cases hid : x.id = id
  · obtain ⟨-, -, hdel, -⟩ := ho
    simp [hid, markDelivered] at hdel
  · rw [if_neg hid] at ho ⊢
    exact ⟨List.mem_filter.2 ⟨hx, offerable_iff.2 ho⟩, hid⟩

/-! ## The most urgent entry -/

/-- The most urgent entry is the offerable one of highest priority, then of oldest stamp, then of lowest identity (R131). -/
theorem mostUrgent_eq {s : State} {p : Port} {n : Notice} (h : NoticesSound s) (hn : n ∈ offered s p)
    (hall : ∀ m ∈ offered s p, m.id = n.id ∨ m.priority < n.priority ∨ m.priority = n.priority
      ∧ (n.stamp.toNat < m.stamp.toNat ∨ n.stamp = m.stamp ∧ identityKey n.id < identityKey m.id)) :
    mostUrgent s p = some n := by
  refine firstBy_eq fetchedBefore_asymm hn fun m hm => ?_
  rw [fetchedBefore_iff, olderThan_iff, eq_comm (a := n.priority)]
  exact (hall m hm).imp_left (List.inj_on_of_nodup_map h.2 (List.mem_filter.1 hm).1 (List.mem_filter.1 hn).1)

theorem takeHead_offered {p : Port} {req : Request} (h : (s.port p).requests.head? = some req) :
    offered (takeHead p s) p = offered s p := by
  refine offered_congr p (takeHead_notices s p) (takeHead_descOf s p) (fun i => by rw [takeHead_actuator]) ?_
  rw [takeHead_port h, if_pos rfl]

theorem isFetch_of_asked {s : State} {p : Port} {req : Request} (h : Asked .fetchNotice p s req) (hb : req.body = []) :
    isFetch req = true := by
  rw [isFetch, ofKind_of_asked h, hb]
  rfl

/-- Settles O37: the entry returned stands before every other offerable one, and its mark leaves the others offerable. -/
theorem fetchReturnsMostUrgent : Obligations.FetchReturnsMostUrgent := by
  intro p s req h hb
  have ha := isFetch_of_asked h hb
  have hm := kind_ne_restart h.2 (by decide)
  have hoff := takeHead_offered s h.1.queue
  refine ⟨fun hnone => ?_, fun n hn hall hs => ?_⟩
  · refine answersOnly_of_serve (f := serveFetchNotice p) h.1 ha rfl ?_ (.inl hm)
    rw [serveFetchNotice, mostUrgent, hoff, hnone]
    rfl
  · have found : mostUrgent (takeHead p s) p = some n :=
      mostUrgent_eq (takeHead_noticesSound s hs) (by rwa [hoff]) (by rwa [hoff])
    have hf : serveFetchNotice p (some p) req (takeHead p s)
        = (settle (some p) (updateNotice n.id (markDelivered p) (takeHead p s)),
          some ⟨.ok, noticeRecord (settle (some p) (updateNotice n.id (markDelivered p) (takeHead p s))) p (markDelivered p n)⟩) := by
      rw [serveFetchNotice, found]
      rfl
    have hw := updateNotice_frame (takeHead p s) n.id (markDelivered p)
    obtain ⟨t, ht, hans, hfollow, hk, hnotices, hlevel⟩ := serve_settled h.1 ha hm hw hf
    have hu := hw.comp (settle_frame _ (some p)) (n := [.notices, .ports, .routes])
    have marked : t.notices = { s.notices with
        entries := s.notices.entries.map fun m => if m.id = n.id then markDelivered p m else m } := by
      rw [hnotices, updateNotice, setEntries_notices, takeHead_notices]
    refine ⟨t, ht, hfollow, hk, ?_, marked, offered_marked hk.descOf (fun i => by rw [hk.actuator]) (hlevel p) marked⟩
    have record := noticeRecord_congr (s := settle (some p) (updateNotice n.id (markDelivered p) (takeHead p s))) (t := t) (p := p)
      (hnotices.trans (settle_frame _ _).notices.symm)
      (fun i => by rw [hk.descOf, hu.descOf, takeHead_descOf]) (fun i => by rw [hk.actuator, hu.actuator, takeHead_actuator])
      (by
        rw [hlevel, (settle_delivers _ _).level p, hw.port, takeHead_port h.1.queue, if_pos rfl])
      (markDelivered p n)
    rw [← record] at hans
    exact hans

end Sys2Proof.Machine
end

section
/-! SUPPORT. The posted slots and their entries (R118, R119). -/

set_option Elab.async false

namespace Sys2Proof.Machine

variable (s : State)

/-! ## The fields of the requests -/

theorem slotIxOf_some {b : Byte} {k : SlotIx} (h : b.toNat = k.val) : slotIxOf b = some k := by
  simp [slotIxOf, h]

theorem slotIxOf_none {b : Byte} (h : 7 < b.toNat) : slotIxOf b = none := dif_neg (by omega)

theorem maskOf_none {b : Byte} (h : 7 < b.toNat) : maskOf b = none := if_neg (by omega)

theorem maskOf_zero {b : Byte} (h : b.toNat = 0) : maskOf b = some .empty := by
  obtain rfl : b = 0 := BitVec.eq_of_toNat_eq h
  rfl

theorem postingOf_some {p : Port} {b : List Byte} {k : SlotIx} {m : PortSet} (hk : (byteAt b 0).toNat = k.val)
    (hlow : 1 ≤ (byteAt b 1).toNat) (hhigh : (byteAt b 1).toNat ≤ 31) (hm : maskOf (byteAt b 4) = some m)
    (he : m.isEmpty = false) : postingOf p b = some (k, ⟨p, (byteAt b 1).toNat, word16At b 2, m⟩) := by
  simp [postingOf, slotIxOf_some hk, hm, hlow, hhigh, he, Config.topLevel]

theorem postingOf_none {p : Port} {b : List Byte} (h : 7 < (byteAt b 0).toNat ∨ (byteAt b 1).toNat = 0
    ∨ 31 < (byteAt b 1).toNat ∨ (byteAt b 4).toNat = 0 ∨ 7 < (byteAt b 4).toNat) : postingOf p b = none := by
  cases hk : slotIxOf (byteAt b 0) with
  | none => simp [postingOf, hk]
  | some k =>
    cases hm : maskOf (byteAt b 4) with
    | none => simp [postingOf, hk, hm]
    | some m =>
      have hrange : ¬ (1 ≤ (byteAt b 1).toNat ∧ (byteAt b 1).toNat ≤ 31 ∧ m.isEmpty = false) := by
        rintro ⟨hlow, hhigh, he⟩
        rcases h with h | h | h | h | h
        · rw [slotIxOf_none h] at hk
          cases hk
        · omega
        · omega
        · rw [maskOf_zero h] at hm
          cases hm
          cases he
        · rw [maskOf_none h] at hm
          cases hm
      simp only [postingOf, hk, hm, Option.bind_eq_bind, Option.bind_some]
      exact if_neg hrange

/-! ## A slot written -/

theorem setPosting_get (k j : SlotIx) (x : Option Posting) :
    (setPosting k x s).notices.slots.get j = if j = k then x else s.notices.slots.get j :=
  get_set_vector s.notices.slots k j x

theorem posterOf_none {s : State} {k : SlotIx} (h : s.notices.slots.get k = none) : posterOf s k = none := by
  rw [posterOf, h]
  rfl

theorem posterOf_some {s : State} {k : SlotIx} {x : Posting} (h : s.notices.slots.get k = some x) :
    posterOf s k = some x.poster := by
  rw [posterOf, h]
  rfl

/-! ## The outcome byte of a slot (R118, R119) -/

theorem entryOutcome_some {s : State} (h : NoticesSound s) {k : SlotIx} {n : Notice} (hn : n ∈ s.notices.entries)
    (hid : n.id = .posted k) : entryOutcome s k = n.state.code := by
  rw [entryOutcome, ← hid, findNotice_some h hn]
  rfl

theorem entryOutcome_none {s : State} {k : SlotIx} (h : ∀ n ∈ s.notices.entries, n.id ≠ .posted k) : entryOutcome s k = 0 := by
  rw [entryOutcome, findNotice_none s h]
  rfl

theorem entryOutcome_congr {s t : State} (h : t.notices = s.notices) (k : SlotIx) : entryOutcome t k = entryOutcome s k := by
  rw [entryOutcome, entryOutcome, findNotice, findNotice, h]

/-! ## The entry of a posted slot (R107, R111, R112, R118) -/

/-- The new entry of a posted slot. -/
def postedNotice (k : SlotIx) (x : Posting) (stamp : Word32) : Notice :=
  ⟨.posted k, 0, none, x.priority, 0, .raised, stamp, none, none, some x.code, some x.mask, .empty⟩

/-- The entry that a slot still has, re-raised with its posting. -/
def postedAgain (x : Posting) (stamp : Word32) (e : Notice) : Notice :=
  { e with
    tag := 0
    severity := none
    priority := x.priority
    group := 0
    state := .raised
    stamp := stamp
    value := none
    ackedBy := none
    delivered := .empty
    code := some x.code
    postedMask := some x.mask }

section posted
variable {s} {k : SlotIx} {x : Posting} (hx : s.notices.slots.get k = some x)
include hx

theorem priorityOf_posted : priorityOf s (.posted k) none = x.priority := by simp [priorityOf, hx]

theorem postEntry_absent (hn : ∀ n ∈ s.notices.entries, n.id ≠ .posted k) :
    postEntry k x s = insertNotice (postedNotice k x s.uptime) s := by
  simp only [postEntry, findNotice_none s hn]
  rw [newNotice_eq, raisedNotice, priorityOf_posted hx]
  rfl

theorem postEntry_present (h : NoticesSound s) {n : Notice} (hn : n ∈ s.notices.entries) (hid : n.id = .posted k) :
    EntryBecomes (.posted k) (postedAgain x s.uptime) s (postEntry k x s) := by
  have found : findNotice s (.posted k) = some n := hid ▸ findNotice_some h hn
  simp only [postEntry, found]
  refine updateNotice_becomes s fun m hm => ?_
  rw [reraised_eq s none hm, raisedNotice, priorityOf_posted hx]
  rw [postedAgain, hm]
  rfl

/-- An entry that the slot still has is re-raised, in its place (R107, R118). -/
theorem postEntry_again (h : NoticesSound s) {n : Notice} (hn : n ∈ s.notices.entries) (hid : n.id = .posted k) :
    entryOutcome (postEntry k x s) k = 1 ∧ (postEntry k x s).notices.lost = s.notices.lost
    ∧ (postEntry k x s).notices.entries
      = s.notices.entries.map fun e => if e.id = .posted k then postedAgain x s.uptime e else e := by
  have becomes := postEntry_present hx h hn hid
  have sound := postEntry_sound s k x h
  rw [EntryBecomes, EntriesBecome] at becomes
  rw [becomes] at sound ⊢
  have hmem : postedAgain x s.uptime n ∈ s.notices.entries.map fun e => if e.id = .posted k then postedAgain x s.uptime e else e :=
    List.mem_map.2 ⟨n, hn, if_pos hid⟩
  exact ⟨entryOutcome_some sound hmem hid, rfl, rfl⟩

theorem postEntry_free (h : NoticesSound s) (hn : ∀ n ∈ s.notices.entries, n.id ≠ .posted k)
    (hl : s.notices.entries.length < 64) :
    entryOutcome (postEntry k x s) k = 1 ∧ (postEntry k x s).notices.lost = s.notices.lost
    ∧ (postEntry k x s).notices.entries = s.notices.entries ++ [postedNotice k x s.uptime] := by
  have sound := postEntry_sound s k x h
  have becomes : EntriesBecome _ s (insertNotice (postedNotice k x s.uptime) s) := insertNotice_free hl
  rw [EntriesBecome] at becomes
  rw [postEntry_absent hx hn, becomes] at sound ⊢
  exact ⟨entryOutcome_some sound (List.mem_append_right _ (List.mem_singleton.2 rfl)) rfl, rfl, rfl⟩

/-- In a full table the entry takes the place of the victim (R111). -/
theorem postEntry_victim (h : NoticesSound s) (hn : ∀ n ∈ s.notices.entries, n.id ≠ .posted k)
    (hl : s.notices.entries.length = 64) {v : Notice} (hv : VictimFor x.priority s v) :
    entryOutcome (postEntry k x s) k = 1 ∧ (postEntry k x s).notices.lost = s.notices.lost
    ∧ (postEntry k x s).notices.entries
      = s.notices.entries.map fun e => if e.id = v.id then postedNotice k x s.uptime else e := by
  have sound := postEntry_sound s k x h
  have becomes : EntriesBecome _ s (insertNotice (postedNotice k x s.uptime) s) := insertNotice_victim h hl hv
  rw [EntriesBecome] at becomes
  rw [postEntry_absent hx hn, becomes] at sound ⊢
  have hmem : postedNotice k x s.uptime ∈ s.notices.entries.map fun e => if e.id = v.id then postedNotice k x s.uptime else e :=
    List.mem_map.2 ⟨v, hv.1, if_pos rfl⟩
  exact ⟨entryOutcome_some sound hmem rfl, rfl, rfl⟩

/-- With neither room nor a victim the entry is lost, for every port (R112). -/
theorem postEntry_lost (hn : ∀ n ∈ s.notices.entries, n.id ≠ .posted k) (hl : s.notices.entries.length = 64)
    (hv : ∀ n ∈ s.notices.entries, n.state = .returned → x.priority < n.priority) :
    entryOutcome (postEntry k x s) k = 0 ∧ (postEntry k x s).notices.entries = s.notices.entries
    ∧ (postEntry k x s).notices.lost = .all := by
  rw [postEntry_absent hx hn, insertNotice_lost hl hv]
  exact ⟨entryOutcome_none hn, rfl, rfl⟩

end posted

/-- The entry of a slot leaves the slots and the thresholds. -/
theorem postEntry_slots (k : SlotIx) (x : Posting) : (postEntry k x s).notices.slots = s.notices.slots
    ∧ (postEntry k x s).notices.thresholds = s.notices.thresholds := by
  unfold postEntry
  split
  · unfold insertNotice
    repeat' split
    · exact ⟨rfl, rfl⟩
    · exact ⟨rfl, rfl⟩
    · exact ⟨rfl, rfl⟩
  · exact ⟨rfl, rfl⟩

/-! ## The end of a posted condition (R107, R119) -/

/-- The end of a condition writes the entries alone, and of them no other than its own. -/
theorem applyReport_finish_writes (h : NoticesSound s) (id : NoticeId) :
    ∃ l, (∀ n ∈ s.notices.entries, n.id ≠ id → n ∈ l) ∧ EntriesBecome l s (applyReport id .finish s) := by
  have unchanged : ∃ l, (∀ n ∈ s.notices.entries, n.id ≠ id → n ∈ l) ∧ EntriesBecome l s s :=
    ⟨s.notices.entries, fun n hn _ => hn, rfl⟩
  cases hf : findNotice s id with
  | none =>
    simp only [applyReport, hf]
    exact unchanged
  | some n =>
    obtain rfl : n.id = id := by simpa using List.find?_some hf
    rw [applyReport_finish h (List.mem_of_find?_eq_some hf)]
    split
    · exact ⟨_, fun m hm hid => List.mem_map.2 ⟨m, hm, if_neg hid⟩, rfl⟩
    · exact ⟨_, fun m hm hid => List.mem_filter.2 ⟨hm, decide_eq_true hid⟩, rfl⟩
    · exact unchanged

section unposted
variable {s} (h : NoticesSound s) {k : SlotIx}
include h

/-- An acknowledged entry goes with its condition. -/
theorem unposted_acked {n : Notice} (hn : n ∈ s.notices.entries) (hid : n.id = .posted k) (hs : n.state = .acked) :
    entryOutcome (applyReport (.posted k) .finish s) k = 0 := by
  rw [← hid, applyReport_finish h hn, hs, hid]
  exact entryOutcome_none fun m hm => of_decide_eq_true (List.mem_filter.1 hm).2

/-- Another entry is RETURNED after the end of its condition. -/
theorem unposted_kept {n : Notice} (hn : n ∈ s.notices.entries) (hid : n.id = .posted k) (hs : n.state ≠ .acked) :
    entryOutcome (applyReport (.posted k) .finish s) k = 3 := by
  have sound := applyReport_sound s (.posted k) .finish h
  rw [← hid, applyReport_finish h hn, hid] at sound ⊢
  cases hst : n.state with
  | acked => exact absurd hst hs
  | returned => rw [entryOutcome_some h hn hid, hst]; rfl
  | raised =>
    rw [hst] at sound
    have hmem : returnedNotice s n ∈ (updateNotice (.posted k) (returnedNotice s) s).notices.entries :=
      List.mem_map.2 ⟨n, hn, if_pos hid⟩
    exact entryOutcome_some sound hmem hid

omit h in
/-- With no entry there is nothing to end (R107). -/
theorem unposted_none (hn : ∀ n ∈ s.notices.entries, n.id ≠ .posted k) : applyReport (.posted k) .finish s = s := by
  simp only [applyReport, findNotice_none s hn]

end unposted

end Sys2Proof.Machine
end

section
/-! PROOFS. POST and UNPOST (O35). -/

set_option Elab.async false

namespace Sys2Proof.Machine

variable (s : State)

/-! ## What the requests are served with -/

/-- Slot k posted, and its entry with it. -/
def slotPosted (k : SlotIx) (x : Posting) (s : State) : State := postEntry k x (setPosting k (some x) s)

theorem servePost_refused {p : Port} {d : Option Port} {req : Request} {k : SlotIx} {x y : Posting}
    (hp : postingOf p req.body = some (k, x)) (hy : s.notices.slots.get k = some y) (hne : y.poster ≠ p) :
    servePost p d req s = (s, some ⟨.notPoster, [Port.code y.poster]⟩) := by
  simp only [servePost, hp, posterOf_some hy, if_neg hne]
  rfl

theorem servePost_accepted {p : Port} {d : Option Port} {req : Request} {k : SlotIx} {x : Posting}
    (hp : postingOf p req.body = some (k, x)) (hy : ∀ y, s.notices.slots.get k = some y → y.poster = p) :
    servePost p d req s = (settle d (slotPosted k x s),
      some ⟨.ok, [natByte k.val, Port.code p, entryOutcome (slotPosted k x s) k]⟩) := by
  have houtcome : entryOutcome (settle d (slotPosted k x s)) k = entryOutcome (slotPosted k x s) k :=
    entryOutcome_congr (settle_frame _ d).notices k
  rw [← houtcome]
  cases hs : s.notices.slots.get k with
  | none =>
    simp only [servePost, hp, posterOf_none hs]
    rfl
  | some y =>
    simp only [servePost, hp, posterOf_some hs, if_pos (hy y hs)]
    rfl

theorem serveUnpost_free {p : Port} {d : Option Port} {req : Request} {k : SlotIx} (hk : (byteAt req.body 0).toNat = k.val)
    (hs : s.notices.slots.get k = none) : serveUnpost p d req s = (s, some ⟨.notPoster, []⟩) := by
  simp only [serveUnpost, slotIxOf_some hk, posterOf_none hs]
  rfl

theorem serveUnpost_refused {p : Port} {d : Option Port} {req : Request} {k : SlotIx} {x : Posting}
    (hk : (byteAt req.body 0).toNat = k.val) (hs : s.notices.slots.get k = some x) (hne : x.poster ≠ p) :
    serveUnpost p d req s = (s, some ⟨.notPoster, [Port.code x.poster]⟩) := by
  simp only [serveUnpost, slotIxOf_some hk, posterOf_some hs, if_neg hne]
  rfl

theorem serveUnpost_accepted {p : Port} {d : Option Port} {req : Request} {k : SlotIx} {x : Posting}
    (hk : (byteAt req.body 0).toNat = k.val) (hs : s.notices.slots.get k = some x) (hp : x.poster = p) :
    serveUnpost p d req s = (settle d (applyReport (.posted k) .finish (setPosting k none s)),
      some ⟨.ok, [entryOutcome (applyReport (.posted k) .finish (setPosting k none s)) k]⟩) := by
  have houtcome : entryOutcome (settle d (applyReport (.posted k) .finish (setPosting k none s))) k
      = entryOutcome (applyReport (.posted k) .finish (setPosting k none s)) k :=
    entryOutcome_congr (settle_frame _ d).notices k
  rw [← houtcome]
  simp only [serveUnpost, slotIxOf_some hk, posterOf_some hs, if_pos hp]
  rfl

theorem slotPosted_frame (k : SlotIx) (x : Posting) : ChangesOnly [.notices] s (slotPosted k x s) :=
  (setPosting_frame s k _).comp (postEntry_frame _ k x)

theorem slotPosted_get (k j : SlotIx) (x : Posting) :
    (slotPosted k x s).notices.slots.get j = if j = k then some x else s.notices.slots.get j := by
  rw [slotPosted, (postEntry_slots _ k x).1, setPosting_get]

/-- The rows of the entry (R107, R111, R112), in the order of what the table holds. -/
theorem slotPosted_entries (k : SlotIx) (x : Posting) (h : NoticesSound s) :
    (∀ n ∈ s.notices.entries, n.id = .posted k → entryOutcome (slotPosted k x s) k = 1
      ∧ (slotPosted k x s).notices.lost = s.notices.lost
      ∧ (slotPosted k x s).notices.entries
        = s.notices.entries.map fun e => if e.id = .posted k then postedAgain x s.uptime e else e)
    ∧ ((∀ n ∈ s.notices.entries, n.id ≠ .posted k) → s.notices.entries.length < 64 →
      entryOutcome (slotPosted k x s) k = 1 ∧ (slotPosted k x s).notices.lost = s.notices.lost
      ∧ (slotPosted k x s).notices.entries = s.notices.entries ++ [postedNotice k x s.uptime])
    ∧ ((∀ n ∈ s.notices.entries, n.id ≠ .posted k) → s.notices.entries.length = 64 → ∀ v ∈ s.notices.entries,
      v.state = .returned → v.priority ≤ x.priority →
      (∀ n ∈ s.notices.entries, n.state = .returned → n.id = v.id ∨ v.priority < n.priority
        ∨ v.priority = n.priority ∧ (v.stamp.toNat < n.stamp.toNat
          ∨ v.stamp = n.stamp ∧ identityKey v.id < identityKey n.id)) →
      entryOutcome (slotPosted k x s) k = 1 ∧ (slotPosted k x s).notices.lost = s.notices.lost
      ∧ (slotPosted k x s).notices.entries
        = s.notices.entries.map fun e => if e.id = v.id then postedNotice k x s.uptime else e)
    ∧ ((∀ n ∈ s.notices.entries, n.id ≠ .posted k) → s.notices.entries.length = 64 →
      (∀ n ∈ s.notices.entries, n.state = .returned → x.priority < n.priority) →
      entryOutcome (slotPosted k x s) k = 0 ∧ (slotPosted k x s).notices.entries = s.notices.entries
      ∧ (slotPosted k x s).notices.lost = .all) := by
  have hslot : (setPosting k (some x) s).notices.slots.get k = some x := (setPosting_get s k k _).trans (if_pos rfl)
  have hsound : NoticesSound (setPosting k (some x) s) := h.congr rfl
  exact ⟨fun n hn hid => postEntry_again hslot hsound hn hid, fun hn hl => postEntry_free hslot hsound hn hl,
    fun hn hl v hv hret hle hall => postEntry_victim hslot hsound hn hl ⟨hv, hret, hle, hall⟩,
    fun hn hl hv => postEntry_lost hslot hn hl hv⟩

/-- Settles O35: a slot is its poster's until it is freed; its entry is raised in the place that R107 and R111 give it, and ends with
the posting. -/
theorem postedSlotsPostedAndFreed : Obligations.PostedSlotsPostedAndFreed := by
  rintro p s req b rfl
  refine ⟨fun h => ⟨fun hr => ?_, fun k m hk hlow hhigh hm he => ?_⟩, fun h => ⟨fun hr => ?_, fun k hk => ⟨fun hs => ?_,
    fun x hx => ⟨fun hne => ?_, fun hp hs => ?_⟩⟩⟩⟩
  · exact answersOnly_of_kind h (by decide) rfl (by rw [servePost, postingOf_none hr]; rfl)
  · have posting := postingOf_some (p := p) hk hlow hhigh hm he
    refine ⟨fun y hy hne => answersOnly_of_kind h (by decide) rfl (servePost_refused _ posting (by simpa using hy) hne),
      fun hy hs => ?_⟩
    obtain ⟨t, ht, hans, hfollow, hkept, hnotices, -⟩ := serve_settled h.1 (ofKind_of_asked h) (kind_ne_restart h.2 (by decide))
      (slotPosted_frame (takeHead p s) k _) (servePost_accepted (takeHead p s) (d := some p) posting (by simpa using hy))
    have houtcome := entryOutcome_congr hnotices k
    have hslot := fun j => (congrArg (fun x => x.slots.get j) hnotices).trans (slotPosted_get (takeHead p s) k j _)
    refine ⟨t, ht, hfollow, hkept, ?_, ?_, fun j hj => ?_, ?_, ?_⟩
    · rw [houtcome, ← natByte_toNat (byteAt req.body 0), hk]
      exact hans
    · exact (hslot k).trans (if_pos rfl)
    · exact (hslot j).trans ((if_neg hj).trans (by rw [takeHead_notices]))
    · rw [hnotices]
      exact (postEntry_slots _ k _).2.trans (by simp [setPosting])
    · rw [houtcome, hnotices, ← takeHead_notices s p, ← takeHead_uptime s p]
      exact slotPosted_entries _ k _ (takeHead_noticesSound s hs)
  · exact answersOnly_of_kind h (by decide) rfl (by rw [serveUnpost, slotIxOf_none hr]; rfl)
  · exact answersOnly_of_kind h (by decide) rfl (serveUnpost_free _ hk (by simpa using hs))
  · exact answersOnly_of_kind h (by decide) rfl (serveUnpost_refused _ hk (by simpa using hx) hne)
  · obtain ⟨t, ht, hans, hfollow, hkept, hnotices, -⟩ := serve_settled h.1 (ofKind_of_asked h) (kind_ne_restart h.2 (by decide))
      ((setPosting_frame (takeHead p s) k none).comp (applyReport_frame _ (.posted k) .finish))
      (serveUnpost_accepted (takeHead p s) (d := some p) hk (by simpa using hx) hp)
    have houtcome := entryOutcome_congr hnotices k
    have hsame : (setPosting k none (takeHead p s)).notices.entries = s.notices.entries := by simp [setPosting]
    have hsound : NoticesSound (setPosting k none (takeHead p s)) := hs.congr hsame
    obtain ⟨l, hl, hwrites⟩ := applyReport_finish_writes (setPosting k none (takeHead p s)) hsound (.posted k)
    have hbecome : t.notices = { (setPosting k none (takeHead p s)).notices with entries := l } := by
      rw [hnotices, hwrites]
    have hslot := fun j => (congrArg (fun x => x.slots.get j) hbecome).trans (setPosting_get (takeHead p s) k j none)
    refine ⟨t, ht, hfollow, hkept, ?_, (hslot k).trans (if_pos rfl),
      fun j hj => (hslot j).trans ((if_neg hj).trans (by rw [takeHead_notices])), ?_, ?_, ?_, ?_, ?_, ?_⟩
    · rw [houtcome]
      exact hans
    · rw [hbecome]
      simp [setPosting]
    · rw [hbecome]
      simp [setPosting]
    · rw [hbecome]
      rwa [hsame] at hl
    · rw [houtcome]
      exact fun n hn hid hst => unposted_acked hsound (by rwa [hsame]) hid hst
    · rw [houtcome]
      exact fun n hn hid hst => unposted_kept hsound (by rwa [hsame]) hid hst
    · intro hn
      rw [houtcome, hnotices, unposted_none (by rwa [hsame])]
      exact ⟨entryOutcome_none (by rwa [hsame]), hsame⟩

end Sys2Proof.Machine
end

section
/-! SUPPORT. The moment at which the end of a claim queues a POLICY WRITE (R147, R155). -/

set_option Elab.async false

namespace Sys2Proof.Machine

variable (s : State)

/-- Whether the POLICY WRITE of actuator j is pending, and its moment, are the same in s and t. -/
structure PolicyKept (j : ActIx) (s t : State) : Prop where
  pending : .policy j ∈ t.acts.workList ↔ .policy j ∈ s.acts.workList
  moment : t.acts.moments.queuedAt.get j = s.acts.moments.queuedAt.get j

theorem PolicyKept.refl (j : ActIx) : PolicyKept j s s := ⟨.rfl, rfl⟩

theorem PolicyKept.trans {j : ActIx} {s t u : State} (h : PolicyKept j s t) (k : PolicyKept j t u) : PolicyKept j s u :=
  ⟨k.pending.trans h.pending, k.moment.trans h.moment⟩

/-! ## A POLICY WRITE queued -/

theorem queuePolicy_pending (m : Nat) {i : ActIx} (h : .policy i ∈ s.acts.workList) :
    (queuePolicy m i s).acts = s.acts := by
  rw [queuePolicy, if_pos h, requestActuator_acts]

theorem queuePolicy_moment (m : Nat) {i : ActIx} (h : .policy i ∉ s.acts.workList) (j : ActIx) :
    (queuePolicy m i s).acts.moments.queuedAt.get j = if j = i then m else s.acts.moments.queuedAt.get j := by
  rw [queuePolicy, if_neg h, requestActuator_acts]
  exact get_set_vector s.acts.moments.queuedAt i j m

theorem queuePolicy_other (m : Nat) {i j : ActIx} (hj : j ≠ i) : PolicyKept j s (queuePolicy m i s) := by
  by_cases h : .policy i ∈ s.acts.workList
  · constructor <;> rw [queuePolicy_pending s m h]
  · refine ⟨?_, by rw [queuePolicy_moment s m h, if_neg hj]⟩
    rw [queuePolicy, if_neg h, requestActuator_acts]
    simp [recordMoment, dropRefresh, hj]

/-- A policy applied leaves that of another actuator, and one that is already pending. -/
theorem applyPolicy_policyKept (m : Nat) {i j : ActIx} (h : j ≠ i ∨ .policy j ∈ s.acts.workList) :
    PolicyKept j s (applyPolicy m i s) := by
  have queued : PolicyKept j s (queuePolicy m i s) := by
    by_cases hj : j = i
    · have hp := h.resolve_left (· hj)
      rw [hj] at hp
      constructor <;> rw [queuePolicy_pending s m hp]
    · exact queuePolicy_other s m hj
  unfold applyPolicy
  split
  · exact .refl s j
  · split
    · exact queued
    · exact .refl s j

/-- A SAFE policy applied is queued at the moment given. -/
theorem applyPolicy_moment (m : Nat) {i : ActIx} {d : ActDescriptor} (hd : (s.actuator i).desc = some d) (hp : d.policy = .safe)
    (h : .policy i ∉ s.acts.workList) : (applyPolicy m i s).acts.moments.queuedAt.get i = m := by
  unfold applyPolicy
  simp only [hd, hp, if_true]
  rw [queuePolicy_moment s m h, if_pos rfl]

/-! ## The end of a claim -/

/-- What precedes the policy leaves every POLICY WRITE and its moment. -/
theorem dismissed_policyKept (p : Port) (i j : ActIx) : PolicyKept j s (dismissCommand p i (claimFreed i s)) := by
  refine ⟨?_, ?_⟩
  · rw [dismissCommand_work, List.mem_filter]
    simp [isCommandOf, claimFreed]
  · unfold dismissCommand
    split
    · rw [(respond_frame _ p _).acts]
      rfl
    · rfl

theorem endClaim_policyKept (m : Nat) {i j : ActIx} (h : j ≠ i ∨ .policy j ∈ s.acts.workList) :
    PolicyKept j s (endClaim m i s) := by
  cases hq : (s.actuator i).holder with
  | none =>
    have hnone : endClaim m i s = s := by simp only [endClaim, hq]
    rw [hnone]
    exact .refl s j
  | some p =>
    have dismissed := dismissed_policyKept s p i j
    rw [endClaim_held s hq]
    exact dismissed.trans (applyPolicy_policyKept _ m (h.imp_right dismissed.pending.2))

theorem endClaim_moment (m : Nat) {i : ActIx} {p : Port} {d : ActDescriptor} (hq : (s.actuator i).holder = some p)
    (hd : (s.actuator i).desc = some d) (hp : d.policy = .safe) (h : .policy i ∉ s.acts.workList) :
    (endClaim m i s).acts.moments.queuedAt.get i = m := by
  rw [endClaim_held s hq]
  refine applyPolicy_moment _ m ?_ hp fun hmem => h ((dismissed_policyKept s p i i).pending.1 hmem)
  rw [dismissCommand_actuator, claimFreed, setActuator_actuator_self]
  exact hd

theorem endClaimOf_policyKept (m : Nat) (who : Port → Bool) {i j : ActIx} (h : j ≠ i ∨ .policy j ∈ s.acts.workList) :
    PolicyKept j s (endClaimOf m who s i) := by
  unfold endClaimOf
  split
  · exact .refl s j
  · split
    · exact endClaim_policyKept s m h
    · exact .refl s j

/-- The turns of a list leave the moment of a pending POLICY WRITE. -/
theorem endClaims_list_policyKept (m : Nat) (who : Port → Bool) (l : List ActIx) (s : State) {a : ActIx}
    (h : .policy a ∈ s.acts.workList) : PolicyKept a s (l.foldl (endClaimOf m who) s) := by
  induction l generalizing s with
  | nil => exact .refl s a
  | cons i l ih =>
    have turn := endClaimOf_policyKept s m who (i := i) (.inr h)
    exact turn.trans (ih _ (turn.pending.2 h))

/-- The turns of a list queue the POLICY WRITE of a named holder's SAFE actuator at the moment given. -/
theorem endClaims_list_moment (m : Nat) {who : Port → Bool} (l : List ActIx) (s : State) {a : ActIx} {q : Port}
    {d : ActDescriptor} (ha : a ∈ l) (hq : (s.actuator a).holder = some q) (hw : who q = true)
    (hd : (s.actuator a).desc = some d) (hp : d.policy = .safe) (h : .policy a ∉ s.acts.workList) :
    (l.foldl (endClaimOf m who) s).acts.moments.queuedAt.get a = m := by
  induction l generalizing s with
  | nil => cases ha
  | cons i l ih =>
    rw [List.foldl_cons]
    by_cases hai : a = i
    · subst hai
      have turn : endClaimOf m who s a = endClaim m a s := by simp only [endClaimOf, hq, hw, if_true]
      rw [turn, (endClaims_list_policyKept m who l _ (endClaim_policy s m (by simp [hq]) hd hp)).moment]
      exact endClaim_moment s m hq hd hp h
    · have kept := endClaimOf_actuator_ne s m who (i := i) hai
      exact ih _ ((List.mem_cons.1 ha).resolve_left hai) (by rw [kept]; exact hq) (by rw [kept]; exact hd)
        fun hmem => h ((endClaimOf_policyKept s m who (.inl hai)).pending.1 hmem)

end Sys2Proof.Machine
end

section
/-! PROOFS. The expiry of a link timer (O9). -/

set_option Elab.async false

namespace Sys2Proof.Machine

variable (s : State)

/-- The port of the link that is DOWN, and no other. -/
def isPortOf (r : RoutePort) (p : Port) : Bool := decide (p = toPort r)

/-- The link DOWN with its timer stopped, and LINK_LOSS started (R116, R177). -/
def linkLost (r : RoutePort) (s : State) : State :=
  reportActivity none (linkLoss r) true (s.setRoute r { s.route r with linkUp := false, linkTimer := none })

theorem linkDown_eq (r : RoutePort) : linkDown r s = endClaims s.acts.moments.now (isPortOf r) (linkLost r s) := rfl

theorem linkTimer_not_expired {r : RoutePort} (h : (s.route r).linkTimer ≠ some 0) : execLinkTimeout r s = .next s :=
  event_none (.inr (timer_not_expired h))

theorem linkTimer_expires {r : RoutePort} (hp : s.por = false) (h : (s.route r).linkTimer = some 0) :
    execLinkTimeout r s = .next (decideHreq (linkDown r s)) := event_next hp (timer_expired_iff.2 h)

/-! ## Before the claims end -/

theorem linkLost_frame (r : RoutePort) : ChangesOnly [.routes, .notices, .ports] s (linkLost r s) :=
  (setRoute_frame s r _).comp (reportActivity_frame _ none _ true)

theorem linkLost_ports (r : RoutePort) (p : Port) : DeliveryOnly (s.port p) ((linkLost r s).port p) :=
  (reportActivity_delivers (s.setRoute r _) none (linkLoss r) true).ports p

theorem linkLost_routes (r q : RoutePort) : DeliveryOnlyRoute
    (if q = r then { s.route r with linkUp := false, linkTimer := none } else s.route q) ((linkLost r s).route q) := by
  rw [← setRoute_route]
  exact (reportActivity_delivers (s.setRoute r _) none (linkLoss r) true).routes q

theorem linkLost_entered {r : RoutePort} (hn : ∀ n ∈ s.notices.entries, n.id ≠ linkLoss r)
    (hl : s.notices.entries.length < 64) : Entered (linkLoss r) 20 s (linkLost r s) := by
  unfold Entered
  cases r with
  | east => exact reportActivity_start_entered (k := .linkLossEast) (s.setRoute .east _) none hn hl
  | west => exact reportActivity_start_entered (k := .linkLossWest) (s.setRoute .west _) none hn hl

/-! ## The end of the port's claims (R147, R148) -/

theorem linkDown_frame_noRestart (r : RoutePort) :
    ChangesOnly [.routes, .notices, .ports, .acts, .arb] s (linkDown r s) := by
  have held : HoldersOnly (linkLost r s) (linkDown r s) := by
    rw [linkDown_eq, endClaims_eq]
    exact HoldersOnly.foldl (fun u i => endClaimOf_holdersOnly u _ _ i) actIndices _
  have lost := linkLost_frame s r
  have all : ChangesOnly [.routes, .notices, .ports, .acts, .arb, .restart] s (linkDown r s) :=
    lost.comp (endClaims_frame _ _ (isPortOf r))
  exact all.without (b := .restart) (held.restart.trans lost.restart)

theorem exists_other_port (p q : Port) : ∃ x : Port, x ≠ p ∧ x ≠ q := by
  by_cases he : Port.east ≠ p ∧ Port.east ≠ q
  · exact ⟨.east, he⟩
  · by_cases hw : Port.west ≠ p ∧ Port.west ≠ q
    · exact ⟨.west, hw⟩
    · exact ⟨.hut, by cases p <;> cases q <;> simp_all⟩

/-- The end of the claims of one port leaves every port's lines, requests and level: a third port sees the one only answered. -/
theorem endClaims_port_kept (m : Nat) (r : RoutePort) (p : Port) :
    ((endClaims m (isPortOf r) s).port p).receiver = (s.port p).receiver
    ∧ ((endClaims m (isPortOf r) s).port p).requests = (s.port p).requests
    ∧ ((endClaims m (isPortOf r) s).port p).transmitter = (s.port p).transmitter
    ∧ ((endClaims m (isPortOf r) s).port p).level = (s.port p).level := by
  obtain ⟨x, hr, hx⟩ := exists_other_port (toPort r) p
  exact (endClaims_keepsRequest s (decide_eq_false hr) m).others p (Ne.symm hx)

theorem endClaims_route_kept (m : Nat) (r q : RoutePort) :
    DeliveryOnlyRoute (s.route q) ((endClaims m (isPortOf r) s).route q) := by
  obtain ⟨x, hr, -⟩ := exists_other_port (toPort r) .hut
  exact (endClaims_keepsRequest s (p := x) (decide_eq_false hr) m).routes q

theorem linkDown_route (r q : RoutePort) : DeliveryOnlyRoute
    (if q = r then { s.route r with linkUp := false, linkTimer := none } else s.route q) ((linkDown r s).route q) :=
  (linkLost_routes s r q).trans (endClaims_route_kept _ _ r q)

theorem linkDown_port (r : RoutePort) (p : Port) : ((linkDown r s).port p).receiver = (s.port p).receiver
    ∧ ((linkDown r s).port p).requests = (s.port p).requests ∧ ((linkDown r s).port p).transmitter = (s.port p).transmitter
    ∧ ((linkDown r s).port p).level = (s.port p).level := by
  obtain ⟨hrec, hreq, -, htx, -, hlev⟩ := linkLost_ports s r p
  obtain ⟨krec, kreq, ktx, klev⟩ := endClaims_port_kept (linkLost r s) s.acts.moments.now r p
  exact ⟨krec.trans hrec, kreq.trans hreq, ktx.trans htx, klev.trans hlev⟩

section claims
variable {s} {r : RoutePort} {i : ActIx}

theorem linkLost_actuator : (linkLost r s).actuator i = s.actuator i := (linkLost_frame s r).actuator i

theorem linkDown_ended (h : (s.actuator i).holder = some (toPort r)) : ClaimEnded i s (linkDown r s) := by
  rw [← linkLost_actuator] at h
  exact (endClaims_ended _ s.acts.moments.now (who := isPortOf r) h (decide_eq_true rfl)).congr linkLost_actuator rfl

theorem linkDown_others (h : (s.actuator i).holder ≠ some (toPort r)) : (linkDown r s).actuator i = s.actuator i := by
  rw [linkDown_eq, endClaims_eq, endClaims_list_unnamed, linkLost_actuator]
  rw [linkLost_actuator]
  rintro p hp
  exact decide_eq_false fun e => h (e ▸ hp)

/-- The POLICY WRITE of a SAFE actuator of the port is queued now (R155). -/
theorem linkDown_moment {d : ActDescriptor} (h : (s.actuator i).holder = some (toPort r)) (hd : (s.actuator i).desc = some d)
    (hp : d.policy = .safe) (hw : .policy i ∉ s.acts.workList) :
    (linkDown r s).acts.moments.queuedAt.get i = s.acts.moments.now := by
  rw [← linkLost_actuator (r := r)] at h hd
  rw [linkDown_eq, endClaims_eq]
  exact endClaims_list_moment _ actIndices _ (List.mem_finRange i) h (decide_eq_true rfl) hd hp
    (by rwa [(linkLost_frame s r).acts])

end claims

/-- Settles O9: the route is written and LINK_LOSS reported before the port's claims end, which leave the route and the table. -/
theorem linkTimeoutTurnsLinkDown : Obligations.LinkTimeoutTurnsLinkDown := by
  refine ⟨fun r s h => linkTimer_not_expired s h, fun r s hp h => ⟨_, linkTimer_expires s hp h, ?_⟩⟩
  have hreq := decideHreq_frame (linkDown r s)
  have own := linkDown_route s r r
  rw [if_pos rfl] at own
  obtain ⟨hup, htimer, -, hconfig, hwindow, hrestart⟩ := own
  have hacts := hreq.acts
  rw [hreq.route]
  refine ⟨(linkDown_frame_noRestart s r).comp hreq, hup, htimer, hconfig, hwindow, hrestart, fun q hq => ?_, fun p => ?_,
    fun i hi => ?_, fun i hi => ?_, fun i d hi hd hsafe hw => ?_, fun hn hl => ?_⟩
  · have other := linkDown_route s r q
    rw [if_neg hq] at other
    rwa [hreq.route]
  · rw [hreq.port]
    exact linkDown_port s r p
  · exact (linkDown_ended hi).congr rfl hacts
  · rw [hreq.actuator]
    exact linkDown_others hi
  · rw [hacts]
    exact linkDown_moment hi hd hsafe hw
  · exact hreq.notices.trans ((endClaims_frame _ _ (isPortOf r)).notices.trans (linkLost_entered s hn hl))

end Sys2Proof.Machine
end

section
/-! SUPPORT. What the definition of an actuator leaves of its entry and of the work list (R139 to R141). -/

set_option Elab.async false

namespace Sys2Proof.Machine

variable (s : State)

/-! ## The descriptor in a request (R136, R139) -/

theorem actIxOf_some {b : Byte} {i : ActIx} (h : b.toNat = i.val) : actIxOf b = some i := by simp [actIxOf, h]

/-- A descriptor with a field out of its range is none. -/
theorem actDescriptorOf_none {b : List Byte} (h : 127 < (byteAt b 0).toNat ∨ word16At b 7 < word16At b 5
    ∨ (byteAt b 2).toNat % 2 = 0 ∧ 255 < (word16At b 7).toNat ∨ 31 < (byteAt b 11).toNat) : actDescriptorOf b = none := by
  cases hm : modIxOf (byteAt b 0) with
  | none => simp [actDescriptorOf, hm]
  | some m =>
    cases hk : maskOf (byteAt b 9) with
    | none => simp [actDescriptorOf, hm, hk]
    | some mask =>
      have hrange : ¬ (((if flagAt b 2 0 then Width.word else Width.byte) = .word ∨ (word16At b 7).toNat ≤ 255)
          ∧ (word16At b 5).toNat ≤ (word16At b 7).toNat ∧ (byteAt b 11).toNat ≤ Config.topLevel) := by
        rintro ⟨hwidth, hsafe, hfault⟩
        rcases h with h | h | ⟨heven, h⟩ | h
        · rw [modIxOf_none h] at hm
          cases hm
        · exact absurd (BitVec.lt_def.1 h) (Nat.not_lt.2 hsafe)
        · have hflag : flagAt b 2 0 = false := by simp [flagAt, BitVec.getLsbD, Nat.testBit_zero, heven]
          rw [hflag] at hwidth
          exact absurd (hwidth.resolve_left nofun) (Nat.not_le.2 h)
        · exact absurd hfault (Nat.not_le.2 h)
      simp only [actDescriptorOf, hm, hk, Option.bind_eq_bind, Option.bind_some]
      exact if_neg hrange

/-! ## The fault cleared and the pending items dropped (R107, R140) -/

theorem clearFault_none {d : Option Port} {i : ActIx} (h : (s.actuator i).fault = false) : clearFault d i s = s :=
  if_neg (by simp [h])

theorem clearFault_fault {d : Option Port} {i : ActIx} (h : (s.actuator i).fault = true) :
    clearFault d i s = report d (.actuator i) .finish (s.setActuator i { s.actuator i with fault := false }) := if_pos h

theorem clearFault_acts (d : Option Port) (i : ActIx) : (clearFault d i s).acts.workList = s.acts.workList
    ∧ (clearFault d i s).acts.running = s.acts.running ∧ ∀ j, j ≠ i → (clearFault d i s).actuator j = s.actuator j := by
  cases hf : (s.actuator i).fault with
  | false =>
    rw [clearFault_none s hf]
    exact ⟨rfl, rfl, fun _ _ => rfl⟩
  | true =>
    rw [clearFault_fault s hf, (report_frame _ d _ _).acts]
    refine ⟨rfl, rfl, fun j hj => ?_⟩
    rw [(report_frame _ d _ _).actuator, setActuator_actuator, if_neg hj]

theorem clearFault_onlyReturned {d : Option Port} {i : ActIx} (h : NoticesSound s) (hf : (s.actuator i).fault = true) :
    OnlyReturned (.actuator i) (clearFault d i s) := by
  rw [clearFault_fault s hf]
  exact report_finish_onlyReturned _ d _ (h.congr rfl)

/-- The items that an actuator has pending, its POLICY WRITE and its REFRESH, are dropped. -/
theorem dropPending_work (i : ActIx) : (dropPending i s).acts.workList
    = s.acts.workList.filter fun w => decide (w ≠ .policy i) && decide (w ≠ .refresh i) := rfl

/-! ## A HELD actuator's timer and first POLICY WRITE (R141) -/

section held
variable {s} {i : ActIx} {new : ActDescriptor}

theorem startHeld_actuator (hd : (s.actuator i).desc = some new) (j : ActIx) : (startHeld i new s).actuator j
    = if j = i then { s.actuator i with
        refreshTimer := if new.kind = .held then some new.interval else (s.actuator i).refreshTimer } else s.actuator j := by
  unfold startHeld
  by_cases hk : new.kind = .held
  · rw [if_pos hk, queuePolicy_actuator, restartRefresh_actuator]
    simp [restartedTimer, hd, hk]
  · rw [if_neg hk, if_neg hk]
    split
    · next e => subst e; rfl
    · rfl

/-- With nothing of it pending, a HELD actuator's POLICY WRITE joins the work list. -/
theorem startHeld_work (hp : .policy i ∉ s.acts.workList) (hr : .refresh i ∉ s.acts.workList) :
    (startHeld i new s).acts.workList = s.acts.workList ++ if new.kind = .held then [.policy i] else [] := by
  obtain ⟨hkept, -⟩ := restartRefresh_work s i
  unfold startHeld
  by_cases hk : new.kind = .held
  · rw [if_pos hk, if_pos hk, queuePolicy, if_neg (by rwa [hkept]), requestActuator_acts]
    have hfilter : s.acts.workList.filter (fun w => decide (w ≠ .refresh i)) = s.acts.workList :=
      List.filter_eq_self.2 fun w hw => decide_eq_true fun e => hr (e ▸ hw)
    show (restartRefresh i s).acts.workList.filter (fun w => decide (w ≠ .refresh i)) ++ [.policy i] = _
    rw [hkept, hfilter]
  · rw [if_neg hk, if_neg hk, List.append_nil]

theorem startHeld_running : (startHeld i new s).acts.running = s.acts.running := by
  obtain ⟨-, hkept⟩ := restartRefresh_work s i
  unfold startHeld
  split
  · rw [queuePolicy_running, hkept]
  · rfl

end held

/-! ## The accepted definition -/

/-- The entry defined anew, before a HELD actuator starts. -/
def redefined (d : Option Port) (i : ActIx) (new : ActDescriptor) (s : State) : State :=
  settle d ((dropPending i (clearFault d i s)).setActuator i { ActuatorEntry.initial with desc := some new })

theorem acceptActuator_eq (d : Option Port) (i : ActIx) (new : ActDescriptor) :
    acceptActuator d i new s = startHeld i new (redefined d i new s) := rfl

theorem redefined_frame (d : Option Port) (i : ActIx) (new : ActDescriptor) : ChangesOnly writeBlocks s (redefined d i new s) :=
  (((clearFault_frame s d i).comp (dropPending_frame _ i) (n := writeBlocks)).comp (setActuator_frame _ i _)
    (n := writeBlocks)).comp (settle_frame _ d)

theorem redefined_actuator (d : Option Port) (i j : ActIx) (new : ActDescriptor) : (redefined d i new s).actuator j
    = if j = i then { ActuatorEntry.initial with desc := some new } else s.actuator j := by
  rw [redefined, (settle_frame _ d).actuator, setActuator_actuator]
  split
  · rfl
  · next hj =>
    obtain ⟨-, -, hother⟩ := clearFault_acts s d i
    exact hother j hj

theorem redefined_work (d : Option Port) (i : ActIx) (new : ActDescriptor) : (redefined d i new s).acts.workList
    = s.acts.workList.filter fun w => decide (w ≠ .policy i) && decide (w ≠ .refresh i) := by
  obtain ⟨hwork, -, -⟩ := clearFault_acts s d i
  rw [redefined, (settle_frame _ d).acts, ← hwork, ← dropPending_work]
  rfl

theorem redefined_running (d : Option Port) (i : ActIx) (new : ActDescriptor) :
    (redefined d i new s).acts.running = s.acts.running := by
  obtain ⟨-, hrunning, -⟩ := clearFault_acts s d i
  rw [redefined, (settle_frame _ d).acts]
  exact hrunning

theorem redefined_notices (d : Option Port) (i : ActIx) (new : ActDescriptor) :
    (redefined d i new s).notices = (clearFault d i s).notices := (settle_frame _ d).notices

section accepted
variable (d : Option Port) (i : ActIx) (new : ActDescriptor)

/-- No claim ends, and no restart begins. -/
theorem acceptActuator_frame_noClaim :
    ChangesOnly [.acts, .arb, .notices, .ports, .routes] s (acceptActuator d i new s) :=
  (redefined_frame s d i new).comp (startHeld_frame _ i new)

theorem acceptActuator_actuator (j : ActIx) : (acceptActuator d i new s).actuator j
    = if j = i then { ActuatorEntry.initial with
        desc := some new
        refreshTimer := if new.kind = .held then some new.interval else none } else s.actuator j := by
  rw [acceptActuator_eq, startHeld_actuator (by rw [redefined_actuator, if_pos rfl])]
  simp only [redefined_actuator, if_true]
  split
  · rfl
  · rfl

theorem acceptActuator_work : (acceptActuator d i new s).acts.workList
    = s.acts.workList.filter (fun w => decide (w ≠ .policy i) && decide (w ≠ .refresh i))
      ++ if new.kind = .held then [.policy i] else [] := by
  rw [acceptActuator_eq, startHeld_work (by simp [redefined_work]) (by simp [redefined_work]), redefined_work]

theorem acceptActuator_running : (acceptActuator d i new s).acts.running = s.acts.running := by
  rw [acceptActuator_eq, startHeld_running, redefined_running]

theorem acceptActuator_notices : (acceptActuator d i new s).notices = (clearFault d i s).notices := by
  rw [acceptActuator_eq, (startHeld_frame _ i new).notices, redefined_notices]

theorem acceptActuator_follows : SummariesFollow (acceptActuator d i new s) :=
  (startHeld_noticesKept _ i new).follow (settle_follows _ d)

theorem acceptActuator_delivers : Delivers d s (acceptActuator d i new s) := by
  have cleared : Delivers d s (clearFault d i s) := by
    unfold clearFault
    split
    · exact (Delivers.of_frame (setActuator_frame s i _)).trans (report_delivers _ d _ _)
    · exact .refl s d
  have dropped := (cleared.trans (.of_frame (dropPending_frame _ i))).trans
    (.of_frame (setActuator_frame _ i { ActuatorEntry.initial with desc := some new }))
  exact (dropped.trans (settle_delivers _ d)).trans (.of_frame (startHeld_frame _ i new))

end accepted

/-! ## The accepted removal (R113, R139) -/

section removed
variable (d : Option Port) (i : ActIx)

theorem acceptUndefineActuator_actuator (j : ActIx) : (acceptUndefineActuator d i s).actuator j
    = if j = i then ActuatorEntry.initial else s.actuator j := by
  rw [acceptUndefineActuator, (settle_frame _ d).actuator, setActuator_actuator]
  rfl

theorem acceptUndefineActuator_acts : (acceptUndefineActuator d i s).acts.running = s.acts.running
    ∧ (acceptUndefineActuator d i s).acts.workList
      = s.acts.workList.filter fun w => decide (w ≠ .policy i) && decide (w ≠ .refresh i) := by
  rw [acceptUndefineActuator, (settle_frame _ d).acts]
  exact ⟨rfl, rfl⟩

theorem acceptUndefineActuator_notices : (acceptUndefineActuator d i s).notices
    = { s.notices with entries := s.notices.entries.filter fun n => decide (n.id ≠ .actuator i) } :=
  (settle_frame _ d).notices

theorem acceptUndefineActuator_delivers : Delivers d s (acceptUndefineActuator d i s) :=
  (((Delivers.of_frame (removeNotice_frame s (.actuator i))).trans (.of_frame (dropPending_frame _ i))).trans
    (.of_frame (setActuator_frame _ i ActuatorEntry.initial))).trans (settle_delivers _ d)

end removed

end Sys2Proof.Machine
end

section
/-! PROOFS. DEFINE ACTUATOR and UNDEFINE ACTUATOR (O39). -/

set_option Elab.async false

namespace Sys2Proof.Machine

variable (s : State)

/-! ## What the requests are served with -/

section served
variable {s} {d : Option Port} {req : Request} {i : ActIx} (hi : (byteAt req.body 0).toNat = i.val)
  (hx : expiryDue s i = false)

theorem serveDefineActuator_none (hn : actDescriptorOf (req.body.drop 1) = none) :
    serveDefineActuator d req s = (s, some ⟨.outOfRange, []⟩) := by
  unfold serveDefineActuator
  rw [hn]
  split
  · next h => cases h
  · rfl

theorem actuatorInUse_iff : actuatorInUse s i = true ↔ (s.actuator i).holder.isSome = true ∨ (s.actuator i).inFlight ≠ .no := by
  simp [actuatorInUse]

include hi hx

/-- The checks of R139 after the descriptor's own: the use of the actuator, then its feedback point and its address. -/
theorem serveDefineActuator_some {new : ActDescriptor} (hn : actDescriptorOf (req.body.drop 1) = some new) :
    serveDefineActuator d req s
      = if actuatorInUse s i then (s, some ⟨.inUse, []⟩)
        else if !feedbackDefined s new || !actuatorAddressable s new then (s, some ⟨.badLimits, []⟩)
        else (acceptActuator d i new s, some ⟨.ok, natByte i.val :: actDescriptorBytes new⟩) := by
  simp only [serveDefineActuator, actIxOf_some hi, hn, takeExpiry_none s hx]
  rfl

theorem serveUndefineActuator_eq : serveUndefineActuator d req s
    = if (s.actuator i).desc = none then (s, some ⟨.notDefined, []⟩)
      else if actuatorInUse s i then (s, some ⟨.inUse, []⟩)
      else (acceptUndefineActuator d i s, some ⟨.ok, []⟩) := by
  simp only [serveUndefineActuator, actIxOf_some hi, takeExpiry_none s hx]
  rfl

end served

/-! ## The taking of the request -/

theorem takeHead_expiryDue (p : Port) (i : ActIx) : expiryDue (takeHead p s) i = expiryDue s i := by simp [expiryDue]

theorem takeHead_actuatorInUse (p : Port) (i : ActIx) : actuatorInUse (takeHead p s) i = actuatorInUse s i := by
  simp [actuatorInUse]

theorem takeHead_feedbackDefined (p : Port) (d : ActDescriptor) : feedbackDefined (takeHead p s) d = feedbackDefined s d := by
  simp [feedbackDefined]

theorem takeHead_actuatorAddressable (p : Port) (d : ActDescriptor) :
    actuatorAddressable (takeHead p s) d = actuatorAddressable s d := by
  simp [actuatorAddressable, State.classOf, State.classNoOf]

section request
variable {s} {p : Port} {req : Request} {i : ActIx} (hi : (byteAt req.body 0).toNat = i.val) (hx : expiryDue s i = false)
include hi hx

/-! ## DEFINE ACTUATOR -/

section define
variable {new : ActDescriptor} (hn : actDescriptorOf (req.body.drop 1) = some new)
include hn

theorem served_define : serveDefineActuator (some p) req (takeHead p s)
    = if actuatorInUse s i then (takeHead p s, some ⟨.inUse, []⟩)
      else if !feedbackDefined s new || !actuatorAddressable s new then (takeHead p s, some ⟨.badLimits, []⟩)
      else (acceptActuator (some p) i new (takeHead p s), some ⟨.ok, natByte i.val :: actDescriptorBytes new⟩) := by
  rw [serveDefineActuator_some hi (by rwa [takeHead_expiryDue]) hn, takeHead_actuatorInUse, takeHead_feedbackDefined,
    takeHead_actuatorAddressable]

variable (h : Asked .defineActuator p s req)
include h

theorem define_inUse (hu : (s.actuator i).holder.isSome = true ∨ (s.actuator i).inFlight ≠ .no) :
    AnswersOnly (.defineActuator p) p req .inUse [] s :=
  answersOnly_of_kind h (by decide) rfl (by rw [served_define hi hx hn, if_pos (actuatorInUse_iff.2 hu)])

theorem define_badLimits (hu : actuatorInUse s i = false)
    (hb : feedbackDefined s new = false ∨ actuatorAddressable s new = false) :
    AnswersOnly (.defineActuator p) p req .badLimits [] s := by
  refine answersOnly_of_kind h (by decide) rfl ?_
  rw [served_define hi hx hn, hu, if_neg Bool.false_ne_true, if_pos (by simpa using hb)]

/-- An accepted DEFINE ACTUATOR (R139 to R141). -/
theorem define_accepted (hu : actuatorInUse s i = false) (hf : feedbackDefined s new = true)
    (ha : actuatorAddressable s new = true) :
    ∃ t, exec (.defineActuator p) s = .next t ∧ SummariesFollow t
      ∧ ChangesOnly [.acts, .arb, .notices, .ports, .routes, .hreq] s t
      ∧ AnsweredAfter p req .ok (natByte i.val :: actDescriptorBytes new) s t
      ∧ t.acts = (acceptActuator (some p) i new (takeHead p s)).acts
      ∧ t.notices = (clearFault (some p) i (takeHead p s)).notices := by
  have served := served_define (p := p) hi hx hn
  rw [hu, if_neg Bool.false_ne_true, hf, ha, if_neg (by simp)] at served
  have hk := ofKind_of_asked h
  obtain ⟨t, ht, hans, -, hkept⟩ := serve_answeredAfter h.1 hk served (acceptActuator_delivers _ (some p) i new)
    (.inl (kind_ne_restart h.2 (by decide)))
  refine ⟨t, ht, (serve_noticesKept_after h.1 hk served ht).follow (acceptActuator_follows _ _ i new), ?_, hans, hkept.acts,
    hkept.notices.trans (acceptActuator_notices _ _ i new)⟩
  exact ((takeHead_frame s p).comp (acceptActuator_frame_noClaim _ (some p) i new)
    (n := [.acts, .arb, .notices, .ports, .routes])).comp hkept

end define

/-! ## UNDEFINE ACTUATOR -/

section undefine

theorem served_undefine : serveUndefineActuator (some p) req (takeHead p s)
    = if (s.actuator i).desc = none then (takeHead p s, some ⟨.notDefined, []⟩)
      else if actuatorInUse s i then (takeHead p s, some ⟨.inUse, []⟩)
      else (acceptUndefineActuator (some p) i (takeHead p s), some ⟨.ok, []⟩) := by
  rw [serveUndefineActuator_eq hi (by rwa [takeHead_expiryDue]), takeHead_actuatorInUse, takeHead_actuator]

variable (h : Asked .undefineActuator p s req)
include h

theorem undefine_notDefined (hd : (s.actuator i).desc = none) : AnswersOnly (.undefineActuator p) p req .notDefined [] s :=
  answersOnly_of_kind h (by decide) rfl (by rw [served_undefine hi hx, if_pos hd])

theorem undefine_inUse (hd : (s.actuator i).desc ≠ none)
    (hu : (s.actuator i).holder.isSome = true ∨ (s.actuator i).inFlight ≠ .no) :
    AnswersOnly (.undefineActuator p) p req .inUse [] s :=
  answersOnly_of_kind h (by decide) rfl
    (by rw [served_undefine hi hx, if_neg hd, if_pos (actuatorInUse_iff.2 hu)])

theorem undefine_accepted (hd : (s.actuator i).desc ≠ none) (hu : actuatorInUse s i = false) :
    ∃ t, exec (.undefineActuator p) s = .next t ∧ SummariesFollow t
      ∧ ChangesOnly [.acts, .notices, .ports, .routes, .hreq] s t ∧ AnsweredAfter p req .ok [] s t
      ∧ t.acts = (acceptUndefineActuator (some p) i (takeHead p s)).acts
      ∧ t.notices = (acceptUndefineActuator (some p) i (takeHead p s)).notices := by
  have served := served_undefine (p := p) hi hx
  rw [if_neg hd, hu, if_neg Bool.false_ne_true] at served
  have hk := ofKind_of_asked h
  obtain ⟨t, ht, hans, -, hkept⟩ := serve_answeredAfter h.1 hk served (acceptUndefineActuator_delivers _ (some p) i)
    (.inl (kind_ne_restart h.2 (by decide)))
  refine ⟨t, ht, (serve_noticesKept_after h.1 hk served ht).follow (settle_follows _ _), ?_, hans, hkept.acts, hkept.notices⟩
  exact ((takeHead_frame s p).comp (acceptUndefineActuator_frame _ (some p) i) (n := [.acts, .notices, .ports, .routes])).comp
    hkept

end undefine

end request

/-- Settles O39: the checks decide in R139's order, with no expiry to take first; an accepted request writes one entry. -/
theorem actuatorDefinedAndUndefined : Obligations.ActuatorDefinedAndUndefined := by
  intro p s req i hi hx
  have free : (s.actuator i).holder = none → (s.actuator i).inFlight = .no → actuatorInUse s i = false := fun hh hf => by
    simp [actuatorInUse, hh, hf]
  refine ⟨fun h hn => answersOnly_of_kind h (by decide) rfl (serveDefineActuator_none hn), fun b _ hb => actDescriptorOf_none hb,
    fun h new hn => ⟨define_inUse hi hx hn h, fun hh hf => ⟨define_badLimits hi hx hn h (free hh hf), fun hfb haddr => ?_⟩⟩,
    fun h => ⟨undefine_notDefined hi hx h, undefine_inUse hi hx h, fun hd hh hf => ?_⟩⟩
  · obtain ⟨t, ht, hfollow, hk, hans, hacts, hnotices⟩ := define_accepted hi hx hn h (free hh hf) hfb haddr
    have hentry := fun j => (congrArg (fun x : ActuatorUnit => x.entries.get j) hacts).trans
      (acceptActuator_actuator (takeHead p s) (some p) i new j)
    refine ⟨t, ht, hfollow, hk, hans, (hentry i).trans (if_pos rfl),
      fun j hj => (hentry j).trans ((if_neg hj).trans (takeHead_actuator s p j)), ?_, ?_, fun hfault => ?_, fun hfault hs => ?_⟩
    · rw [hacts, acceptActuator_running, takeHead_acts]
    · rw [hacts, acceptActuator_work, takeHead_acts]
    · rw [hnotices, clearFault_none _ (by rwa [takeHead_actuator]), takeHead_notices]
    · have returned := clearFault_onlyReturned (takeHead p s) (d := some p) (i := i) (takeHead_noticesSound s hs)
        (by rwa [takeHead_actuator])
      rw [OnlyReturned, hnotices]
      exact returned
  · obtain ⟨t, ht, hfollow, hk, hans, hacts, hnotices⟩ := undefine_accepted hi hx h hd (free hh hf)
    have hentry := fun j => (congrArg (fun x : ActuatorUnit => x.entries.get j) hacts).trans
      (acceptUndefineActuator_actuator (takeHead p s) (some p) i j)
    obtain ⟨hrunning, hwork⟩ := acceptUndefineActuator_acts (takeHead p s) (some p) i
    refine ⟨t, ht, hfollow, hk, hans, (hentry i).trans (if_pos rfl),
      fun j hj => (hentry j).trans ((if_neg hj).trans (takeHead_actuator s p j)), ?_, ?_, ?_⟩
    · rw [hacts, hrunning, takeHead_acts]
    · rw [hacts, hwork, takeHead_acts]
    · rw [hnotices, acceptUndefineActuator_notices, takeHead_notices]

end Sys2Proof.Machine
end

section
/-! PROOFS. HREQ stands after every step as R129 decides it (O55). -/

set_option Elab.async false

namespace Sys2Proof.Machine

variable (s : State)

/-! ## Request rows -/

/-- Every request row is the service of its port's head request. -/
theorem exec_of_requestPort {c : Instr} {p : Port} (h : requestPort c = some p) :
    ∃ accept f, ∀ s, exec c s = serve p accept f s := by
  cases c with
  | definePoint q | setLimits q | undefinePoint q | readPoint q | readPoints q | findTag q | forcePoint q | unforcePoint q
  | clearAsserted q | startScan | stopScan | setScanPeriod q | scanAdd q | scanRemove q | readScanList q | setModuleClass q
  | assignModuleClass q | readModuleClasses q | readModule q | writeModule q | setEconomy | ackNotice q | post q | unpost q
  | setGroupThreshold q | fetchNotice q | fetchNoticeIdentity q | setLevel q | readSummary q | defineActuator q
  | undefineActuator q | readActuator q | claim q | release q | command q | exchange q | takeReferral | answerReferral
  | referral r | restartHutController r | setPermissions | setSitePoints | identify q | restartSupervision q =>
    cases h
    exact ⟨_, _, fun _ => rfl⟩
  | _ => cases h

/-! ## The end of an event (R129) -/

theorem decideHreq_follows : HreqFollows (decideHreq s) := rfl

/-- An event decides HREQ, or nothing has happened. -/
theorem event_decidesHreq {e : Bool} {f : State → State} {s t : State} (h : event e f s = .next t) :
    t = s ∨ HreqFollows t :=
  (event_cases h).imp_right fun ⟨_, _, ht⟩ => ht ▸ decideHreq_follows (f s)

/-- After POWER_ON_RESET no hut summary is above 0, no frame waits and no slot is UNTAKEN, and HREQ is released. -/
theorem powerOnReset_hreqFollows {s t : State} (h : execPowerOnReset s = .next t) : HreqFollows t := by
  have reset : HreqFollows State.reset := reset_hreqWanted.symm
  injection h with h
  exact h ▸ reset

theorem porRelease_decidesHreq {a b : Bool} {s t : State} (h : execPorRelease a b s = .next t) : t = s ∨ HreqFollows t := by
  unfold execPorRelease at h
  split at h <;> injection h with h <;> subst h
  · exact .inr (decideHreq_follows _)
  · exact .inl rfl

/-- Every command is an event, but for the two of POR. -/
theorem exec_decidesHreq {c : Instr} {s t : State} (h : exec c s = .next t) : t = s ∨ HreqFollows t := by
  cases hp : requestPort c with
  | some p =>
    obtain ⟨accept, f, hrow⟩ := exec_of_requestPort hp
    exact event_decidesHreq ((hrow s).symm.trans h)
  | none =>
    cases c with
    | powerOnReset => exact .inr (powerOnReset_hreqFollows h)
    | porRelease a b => exact porRelease_decidesHreq h
    | routeFrameComplete r b | interByteTimeout r | framingError r | chipSelectRelease m n | linkTimeout r | frameSent q
    | freeGrant | busRecoveryEnd | periodTimerExpiry | handoverBegin | handoverEnd | secondTick | pulseTimerExpiry
    | silenceTimerExpiry | rxdByte r b =>
      dsimp only [exec, execBusRecoveryEnd, execHandoverBegin, execSecondTick, execPulseTimerExpiry] at h
      exact event_decidesHreq h
    | supervisionRestart | supervisionRestartSteps | reservedGrant | beatEnd clock a e i x | readCompletion
    | actuatorWriteCompletion | exchangeReadCompletion | directTransferCompletion | leaseExpiry i | refreshTimerExpiry i
    | referralTimeout k =>
      simp only [exec, execSupervisionRestart, execSupervisionRestartSteps, execReservedGrant, execBeatEnd,
        execReadCompletion, execActuatorWriteCompletion, execExchangeReadCompletion, execDirectTransferCompletion,
        execLeaseExpiry, execRefreshTimerExpiry, execReferralTimeout] at h
      repeat' split at h
      all_goals exact event_decidesHreq h
    | _ => cases hp

/-! ## The passing of time -/

/-- A millisecond takes no slot out of UNTAKEN and puts none in. -/
theorem isUntaken_lower (n : Nat) (x : ReferralSlot) : (x.lower n).isUntaken = x.isUntaken := by
  cases x <;> rfl

/-- A millisecond leaves the Hut Port's summary and output queue, and lowers the ages of the slots. -/
theorem tick_hreqFollows {s : State} (h : HreqFollows s) : HreqFollows (tick s) := by
  have slots : ∀ k, ((tick s).slot k).isUntaken = (s.slot k).isUntaken := fun k => by rw [tick_slot, isUntaken_lower]
  have same : hreqWanted (tick s) = hreqWanted s := by
    simp only [hreqWanted, slots]
    rfl
  exact Eq.trans h same.symm

theorem step_hreqFollows {s t : State} (hs : HreqFollows s) (h : step s = .next t) : HreqFollows t := by
  unfold step at h
  split at h
  · injection h with h
    subst h
    unfold idleStep
    split
    · exact hs
    · exact tick_hreqFollows hs
  · rcases exec_decidesHreq h with rfl | ht
    · exact hs
    · exact ht

/-! ## The obligation -/

/-- The three conditions of R129. -/
theorem hreqWanted_iff : hreqWanted s = true ↔ 0 < (s.port .hut).summary ∨ (s.port .hut).output ≠ []
    ∨ ∃ k q age, s.slot k = .untaken q age := by
  have untaken : ∀ x : ReferralSlot, x.isUntaken = true ↔ ∃ q age, x = .untaken q age := fun x => by
    cases x <;> simp [ReferralSlot.isUntaken]
  simp [hreqWanted, untaken, slotIndices, or_assoc]

/-- Settles O55: every event ends with HREQ decided, and a millisecond changes none of its three conditions. -/
theorem hreqFollowsEveryStep : Obligations.HreqFollowsEveryStep := by
  unfold Obligations.HreqFollowsEveryStep
  refine ⟨fun _ _ => step_hreqFollows, fun s h => ?_⟩
  rw [show s.hreq = hreqWanted s from h]
  exact hreqWanted_iff s

end Sys2Proof.Machine
end

section
/-! PROOFS. FETCH NOTICE with an identity, and READ SUMMARY (O38). -/

set_option Elab.async false

namespace Sys2Proof.Machine

variable (s : State)

/-! ## FETCH NOTICE with an identity (R133) -/

theorem isFetchIdentity_of_asked {s : State} {p : Port} {req : Request} (h : Asked .fetchNotice p s req)
    (hb : req.body ≠ []) : isFetchIdentity req = true := by
  rw [isFetchIdentity, ofKind_of_asked h, List.isEmpty_eq_false_iff.2 hb]
  rfl

/-- The record of an entry for a port is that of the moment before the port's request is taken. -/
theorem takeHead_noticeRecord {p : Port} {req : Request} (h : (s.port p).requests.head? = some req) (n : Notice) :
    noticeRecord (takeHead p s) p n = noticeRecord s p n :=
  noticeRecord_congr (takeHead_notices s p) (takeHead_descOf s p) (fun i => by rw [takeHead_actuator])
    (by rw [takeHead_port h, if_pos rfl]) n

/-- What the request is served with, for an identity whose entry is n. -/
theorem serveFetchNoticeIdentity_found {p : Port} {d : Option Port} {req : Request} {n : Notice} (hs : NoticesSound s)
    (hn : n ∈ s.notices.entries) (hid : noticeIdOf (byteAt req.body 0) (byteAt req.body 1) (byteAt req.body 2) = some n.id) :
    serveFetchNoticeIdentity p d req s
      = if (maskOfNotice s n).get p then answer s ⟨.ok, noticeRecord s p n⟩ else refuse s .portProtected := by
  simp only [serveFetchNoticeIdentity, hid, findNotice_some hs hn]

theorem fetchIdentity_answers {s : State} {p : Port} {req : Request} {b : List Byte} (hb : req.body = b)
    (h : Asked .fetchNotice p s req) (hne : b ≠ []) :
    (noticeIdOf (byteAt b 0) (byteAt b 1) (byteAt b 2) = none → AnswersOnly (.fetchNoticeIdentity p) p req .outOfRange [] s)
    ∧ ∀ id, noticeIdOf (byteAt b 0) (byteAt b 1) (byteAt b 2) = some id →
      ((∀ n ∈ s.notices.entries, n.id ≠ id) → AnswersOnly (.fetchNoticeIdentity p) p req .notFound [] s)
      ∧ ∀ n ∈ s.notices.entries, n.id = id → NoticesSound s →
        ((maskOfNotice s n).get p = false → AnswersOnly (.fetchNoticeIdentity p) p req .portProtected [] s)
        ∧ ((maskOfNotice s n).get p = true →
          AnswersOnly (.fetchNoticeIdentity p) p req .ok (noticeRecord s p n) s) := by
  subst hb
  have answers : ∀ {r body}, serveFetchNoticeIdentity p (some p) req (takeHead p s) = (takeHead p s, some ⟨r, body⟩) →
      AnswersOnly (.fetchNoticeIdentity p) p req r body s := fun hf =>
    answersOnly_of_serve h.1 (isFetchIdentity_of_asked h hne) rfl hf (.inl (kind_ne_restart h.2 (by decide)))
  refine ⟨fun hid => answers ?_, fun id hid => ⟨fun hnone => answers ?_, fun n hn hnid hs => ?_⟩⟩
  · simp only [serveFetchNoticeIdentity, hid]
    rfl
  · simp only [serveFetchNoticeIdentity, hid, findNotice_none (takeHead p s) (takeHead_notices s p ▸ hnone)]
    rfl
  · have found := serveFetchNoticeIdentity_found (takeHead p s) (p := p) (d := some p) (takeHead_noticesSound s hs)
      (takeHead_notices s p ▸ hn) (hnid ▸ hid)
    rw [takeHead_maskOfNotice, takeHead_noticeRecord s h.1.queue] at found
    exact ⟨fun hmask => answers (found.trans (if_neg (by simp [hmask]))), fun hmask => answers (found.trans (if_pos hmask))⟩

/-! ## READ SUMMARY (R134) -/

/-- The two bits of the links' states. -/
theorem flagsByte_pair (a b : Bool) : flagsByte [a, b] = natByte ((if a then 1 else 0) + if b then 2 else 0) := by
  cases a <;> cases b <;> rfl

theorem boolByte_eq (a : Bool) : boolByte a = if a then 1 else 0 := by cases a <;> rfl

/-- The summary record of the moment before the request is taken. -/
theorem takeHead_summaryRecord {p : Port} {req : Request} (h : (s.port p).requests.head? = some req) :
    summaryRecord (takeHead p s) p = summaryRecord s p := by
  have level : ((takeHead p s).port p).level = (s.port p).level := by rw [takeHead_port h, if_pos rfl]
  simp only [summaryRecord, offerableCount, takeHead_offered s h, level, countIn, takeHead_notices, takeHead_clock,
    takeHead_scan, takeHead_route, takeHead_uptime]

/-- READ SUMMARY answers the record, and clears the port's lost flag. -/
theorem readSummary_answers {s : State} {p : Port} {req : Request} (h : Asked .readSummary p s req) :
    ∃ t, exec (.readSummary p) s = .next t ∧ ChangesOnly [.notices, .ports, .routes, .hreq] s t
      ∧ Answered p req .ok (summaryRecord s p) s t ∧ t.notices = { s.notices with lost := s.notices.lost.set p false } := by
  have cleared := setNotices_frame (takeHead p s) { (takeHead p s).notices with lost := (takeHead p s).notices.lost.set p false }
  obtain ⟨t, ht, hans, hk⟩ := serve_answered_of_kind (f := serveReadSummary p) h (by decide) rfl cleared
  refine ⟨t, ht, ((takeHead_frame s p).comp cleared (n := [.notices, .ports])).comp hk, ?_, ?_⟩
  · rw [← takeHead_summaryRecord s h.1.queue]
    exact hans
  · rw [hk.notices, setNotices_notices, takeHead_notices]

/-- Settles O38: the request with an identity is answered with the state as it stands, and the summary record is read before the
lost flag is cleared. -/
theorem recordsReadBack : Obligations.RecordsReadBack := by
  intro p s req b hb
  refine ⟨fun h hne => fetchIdentity_answers hb h hne, fun h => ?_⟩
  obtain ⟨t, ht, hk, hans, hlost⟩ := readSummary_answers h
  rw [summaryRecord, flagsByte_pair, boolByte_eq] at hans
  exact ⟨t, ht, hk, hans, hlost⟩

end Sys2Proof.Machine
end

section
/-! PROOFS. A frame leaves the output queue, and its place is given away (O10). -/

set_option Elab.async false

namespace Sys2Proof.Machine

variable (s : State)

/-! ## The oldest of the slots (R159) -/

/-- The older of the best slot so far and slot k, if k is picked. -/
def olderOf (sel : ReferralSlot → Bool) (s : State) (best : Option ReferralIx) (k : ReferralIx) : Option ReferralIx :=
  match (s.slot k).record with
  | none => best
  | some r =>
    if sel (s.slot k) then
      match best.bind (fun j => (s.slot j).record) with
      | none => some k
      | some q => if referralAge s q < referralAge s r then some k else best
    else best

theorem oldestSlot_eq (sel : ReferralSlot → Bool) : oldestSlot s sel = slotIndices.foldl (olderOf sel s) none := rfl

section oldest
variable {s} {sel : ReferralSlot → Bool} {k : ReferralIx} {r : Referral}

theorem olderOf_unpicked (h : sel (s.slot k) = false) (best : Option ReferralIx) : olderOf sel s best k = best := by
  unfold olderOf
  cases (s.slot k).record <;> simp [h]

theorem olderOf_picked (hr : (s.slot k).record = some r) (h : sel (s.slot k) = true) (best : Option ReferralIx) :
    olderOf sel s best k = if ∀ q, best.bind (fun j => (s.slot j).record) = some q → referralAge s q < referralAge s r
      then some k else best := by
  unfold olderOf
  cases best.bind (fun j => (s.slot j).record) <;> simp [hr, h]

/-- The best slot is the one so far, or slot k if it is picked. -/
theorem olderOf_cases {best : Option ReferralIx} {i : ReferralIx} (h : olderOf sel s best k = some i) :
    best = some i ∨ i = k ∧ sel (s.slot k) = true := by
  cases hs : sel (s.slot k) with
  | false => exact .inl (by rwa [olderOf_unpicked hs] at h)
  | true =>
    cases hr : (s.slot k).record with
    | none => exact .inl (by simpa only [olderOf, hr] using h)
    | some r =>
      rw [olderOf_picked hr hs] at h
      split at h
      · exact .inr ⟨(Option.some.inj h).symm, rfl⟩
      · exact .inl h

/-- The oldest slot is one that is picked. -/
theorem oldestSlot_picked (h : oldestSlot s sel = some k) : sel (s.slot k) = true := by
  have fold : ∀ (l : List ReferralIx) (best : Option ReferralIx), (∀ i, best = some i → sel (s.slot i) = true) →
      ∀ i, l.foldl (olderOf sel s) best = some i → sel (s.slot i) = true := fun l => by
    induction l with
    | nil => exact fun _ hb => hb
    | cons j l ih =>
      refine fun best hb => ih _ fun i hi => ?_
      rcases olderOf_cases hi with hi | ⟨rfl, hs⟩
      · exact hb i hi
      · exact hs
  exact fold slotIndices none nofun k h

theorem oldestSlot_none (h : ∀ k, sel (s.slot k) = false) : oldestSlot s sel = none := by
  have fold : ∀ l : List ReferralIx, l.foldl (olderOf sel s) none = none := fun l => by
    induction l with
    | nil => rfl
    | cons k l ih => rw [List.foldl_cons, olderOf_unpicked (h k), ih]
  exact fold slotIndices

/-- Slot k holds a picked record that is older than that of every other picked slot. -/
structure OldestPicked (sel : ReferralSlot → Bool) (s : State) (k : ReferralIx) (r : Referral) : Prop where
  record : (s.slot k).record = some r
  picked : sel (s.slot k) = true
  oldest : ∀ j x, j ≠ k → (s.slot j).record = some x → sel (s.slot j) = true → referralAge s x < referralAge s r

/-- The oldest slot, once found, stays the best. -/
theorem OldestPicked.stays (h : OldestPicked sel s k r) (l : List ReferralIx) : l.foldl (olderOf sel s) (some k) = some k := by
  induction l with
  | nil => rfl
  | cons j l ih =>
    have keeps : olderOf sel s (some k) j = some k := by
      by_cases hj : j = k
      · subst hj
        rw [olderOf_picked h.record h.picked, ite_self]
      · cases hx : (s.slot j).record with
        | none => simp only [olderOf, hx]
        | some x =>
          cases hs : sel (s.slot j) with
          | false => exact olderOf_unpicked hs _
          | true =>
            rw [olderOf_picked hx hs, if_neg]
            intro hall
            exact absurd (hall r h.record) (Nat.not_lt_of_gt (h.oldest j x hj hx hs))
    rw [List.foldl_cons, keeps, ih]

/-- Any list of slots with the oldest in it gives the oldest, whichever other picked slot was the best before. -/
theorem OldestPicked.found (h : OldestPicked sel s k r) (l : List ReferralIx) (hk : k ∈ l) (best : Option ReferralIx)
    (hb : ∀ j, best = some j → j = k ∨ sel (s.slot j) = true) : l.foldl (olderOf sel s) best = some k := by
  induction l generalizing best with
  | nil => cases hk
  | cons j l ih =>
    rw [List.foldl_cons]
    by_cases hj : j = k
    · subst hj
      have younger : olderOf sel s best j = some j := by
        rw [olderOf_picked h.record h.picked]
        split
        · rfl
        · next hnot =>
          obtain ⟨q, hq, hle⟩ : ∃ q, best.bind (fun i => (s.slot i).record) = some q ∧ ¬ referralAge s q < referralAge s r := by
            simpa using hnot
          obtain ⟨i, rfl, hi⟩ := Option.bind_eq_some_iff.1 hq
          by_cases hij : i = j
          · rw [hij]
          · exact absurd (h.oldest i q hij hi ((hb i rfl).resolve_left hij)) hle
      rw [younger]
      exact h.stays l
    · refine ih ((List.mem_cons.1 hk).resolve_left (Ne.symm hj)) _ fun i hi => ?_
      rcases olderOf_cases hi with hi | ⟨rfl, hs⟩
      · exact hb i hi
      · exact .inr hs

theorem OldestPicked.eq (h : OldestPicked sel s k r) : oldestSlot s sel = some k :=
  h.found slotIndices (List.mem_finRange k) none nofun

end oldest

/-! ## What the giving of a place can change -/

/-- Frames and the executor of port p, slots and last reported summaries may have changed; an ATTENTION may no longer be owed. -/
structure PlaceGiven (p : Port) (s t : State) : Prop where
  others : ∀ q, q ≠ p → t.port q = s.port q
  port : t.port p = { s.port p with output := (t.port p).output, executor := (t.port p).executor }
  lineTime : ∀ r, (t.route r).lineTime = (s.route r).lineTime
  owed : ∀ r, (t.route r).attentionOwed = true → (s.route r).attentionOwed = true

theorem PlaceGiven.refl (p : Port) : PlaceGiven p s s := ⟨fun _ _ => rfl, rfl, fun _ => rfl, fun _ => id⟩

theorem PlaceGiven.trans {p : Port} {s t u : State} (h : PlaceGiven p s t) (k : PlaceGiven p t u) : PlaceGiven p s u :=
  ⟨fun q hq => (k.others q hq).trans (h.others q hq), by rw [k.port, h.port], fun r => (k.lineTime r).trans (h.lineTime r),
    fun r => h.owed r ∘ k.owed r⟩

theorem PlaceGiven.of_frame {p : Port} {l : List Block} {s t : State} (h : ChangesOnly l s t)
    (hp : Block.ports ∉ l := by decide) (hr : Block.routes ∉ l := by decide) : PlaceGiven p s t :=
  ⟨fun q _ => h.port q hp, by rw [h.port p hp], fun r => by rw [h.route r hr], fun r => by rw [h.route r hr]; exact id⟩

theorem reportedRoutes_get (p : Port) (v : Nat) (x : PerRoute RouteState) (r : RoutePort) :
    (reportedRoutes p v x).get r = if p = toPort r then { x.get r with lastReported := v } else x.get r := by
  cases p <;> cases r <;> rfl

/-- A frame placed on port p. -/
theorem PlaceGiven.of_frame_placed {p : Port} {v : Nat} {s t : State}
    (hp : t.ports = s.ports.set p { s.port p with output := (t.port p).output, executor := (t.port p).executor })
    (hr : t.routes = reportedRoutes p v s.routes) : PlaceGiven p s t := by
  have route : ∀ r, t.route r = if p = toPort r then { s.route r with lastReported := v } else s.route r := fun r =>
    (congrArg (fun x => x.get r) hr).trans (reportedRoutes_get p v s.routes r)
  have port : ∀ q, t.port q = if q = p then { s.port p with output := (t.port p).output, executor := (t.port p).executor }
      else s.port q := fun q => (congrArg (fun x => x.get q) hp).trans (PerPort.get_set s.ports p q _)
  refine ⟨fun q hq => (port q).trans (if_neg hq), (port p).trans (if_pos rfl), fun r => ?_, fun r => ?_⟩
  · rw [route]
    split <;> rfl
  · rw [route]
    split <;> exact id

theorem pushFrame_given (p : Port) (f : OutFrame) (v : Nat) : PlaceGiven p s (pushFrame p f v s) := by
  refine .of_frame_placed ?_ (pushFrame_routes s p f v)
  rw [pushFrame_port, if_pos rfl, pushFrame_ports]

theorem placeReply_port (p q : Port) (req : Request) (reply : Reply) :
    (placeReply p req reply s).port q = if q = p then { s.port p with
      executor := .idle
      output := (s.port p).output ++ [replyFrame req reply (s.port p).summary] } else s.port q := by
  simp only [State.port, placeReply_ports, PerPort.get_set]

theorem placeReply_given (p : Port) (req : Request) (reply : Reply) : PlaceGiven p s (placeReply p req reply s) := by
  refine .of_frame_placed ?_ (placeReply_routes s p req reply)
  rw [placeReply_port, if_pos rfl, placeReply_ports]

theorem setOwed_false_given (p : Port) (r : RoutePort) : PlaceGiven p s (setOwed r false s) := by
  refine ⟨fun _ _ => rfl, rfl, fun q => ?_, fun q => ?_⟩
  · rw [setOwed, setRoute_route]
    split
    · next e => rw [e]
    · rfl
  · rw [setOwed, setRoute_route]
    split
    · nofun
    · exact id

/-! ## Held answers (R164) -/

theorem placeHeld_none {s : State} {p : Port} (h : ∀ k, isAnsweredFor p (s.slot k) = false) : placeHeld p s = s := by
  rw [placeHeld, oldestSlot_none h]

/-- The held answer of lowest `made` is placed, and its slot becomes FREE. -/
theorem placeHeld_oldest {s : State} {k : ReferralIx} {q : Referral} {a : HeldAnswer} (hk : s.slot k = .answered q a)
    (hold : ∀ j x b, j ≠ k → s.slot j = .answered x b → toPort x.origin = toPort q.origin → referralAge s x < referralAge s q)
    (hroom : (s.port (toPort q.origin)).output.length < Config.outputPlaces) :
    placeHeld (toPort q.origin) s
      = (placeResponse (toPort q.origin) q.kind q.tag a.result a.body .response s).setSlot k .free := by
  have oldest : OldestPicked (isAnsweredFor (toPort q.origin)) s k q := by
    refine ⟨by rw [hk]; rfl, by rw [hk]; exact decide_eq_true rfl, fun j x hj hx hs => ?_⟩
    cases hslot : s.slot j with
    | answered y b =>
      rw [hslot] at hx hs
      cases hx
      exact hold j x b hj hslot (of_decide_eq_true hs)
    | free | untaken _ _ | taken _ _ =>
      rw [hslot] at hs
      cases hs
  simp only [placeHeld, oldest.eq, hk, placeAnswer, hasRoom, decide_eq_true hroom, if_true]

theorem isAnsweredFor_iff {p : Port} {x : ReferralSlot} :
    isAnsweredFor p x = true ↔ ∃ q a, x = .answered q a ∧ toPort q.origin = p := by
  cases x <;> simp [isAnsweredFor]

theorem placeAnswer_given (k : ReferralIx) (q : Referral) (c : Byte) (b : List Byte) :
    PlaceGiven (toPort q.origin) s (placeAnswer k q c b s) := by
  unfold placeAnswer
  split
  · exact (pushFrame_given s _ _ _).trans (.of_frame (setSlot_frame _ k _))
  · exact .of_frame (setSlot_frame s k _)

theorem placeHeld_given (p : Port) : PlaceGiven p s (placeHeld p s) := by
  unfold placeHeld
  split
  · exact .refl s p
  · next k hk =>
    obtain ⟨q, a, hslot, hp⟩ := isAnsweredFor_iff.1 (oldestSlot_picked hk)
    subst hp
    simp only [hslot]
    exact placeAnswer_given s k q _ _

theorem placeAnswer_executor (k : ReferralIx) (q : Referral) (c : Byte) (b : List Byte) (p : Port) :
    ((placeAnswer k q c b s).port p).executor = (s.port p).executor := by
  unfold placeAnswer
  split
  · rw [setSlot_port, placeResponse, pushFrame_port]
    split
    · next e => rw [e]
    · rfl
  · rfl

theorem placeHeld_executor (p q : Port) : ((placeHeld p s).port q).executor = (s.port q).executor := by
  unfold placeHeld
  split
  · rfl
  · split
    · exact placeAnswer_executor s _ _ _ _ q
    · rfl

/-! ## The freed place (R128, R174) -/

theorem placeWaiting_reply {s : State} {p : Port} {req : Request} {reply : Reply}
    (h : (s.port p).executor = .waitingForRoom req reply) : placeWaiting p s = placeReply p req reply s := by
  simp only [placeWaiting, h]

theorem placeWaiting_held {s : State} {p : Port} (h : ∀ req reply, (s.port p).executor ≠ .waitingForRoom req reply) :
    placeWaiting p s = placeHeld p s := by
  unfold placeWaiting
  split
  · next req reply he => exact absurd he (h req reply)
  · rfl

theorem placeWaiting_given (p : Port) : PlaceGiven p s (placeWaiting p s) := by
  unfold placeWaiting
  split
  · exact placeReply_given s p _ _
  · exact placeHeld_given s p

/-- The state of a port whose ATTENTION is owed no longer; the Hut Port has none (R121, R128). -/
def owedCleared (p : Port) (s : State) : State :=
  match routeOf p with
  | none => s
  | some r => setOwed r false s

theorem owedCleared_given (p : Port) : PlaceGiven p s (owedCleared p s) := by
  unfold owedCleared
  split
  · exact .refl s p
  · exact setOwed_false_given s p _

theorem owedCleared_frame (p : Port) : ChangesOnly [.routes] s (owedCleared p s) := by
  unfold owedCleared
  split
  · exact .refl _ s
  · exact setOwed_frame s _ _

theorem owedCleared_owed {p : Port} {r : RoutePort} (h : routeOf p = some r) :
    ((owedCleared p s).route r).attentionOwed = false := by
  simp only [owedCleared, h, setOwed, setRoute_route, if_true]

theorem setOwed_unowed {s : State} {r : RoutePort} (h : (s.route r).attentionOwed = false) : setOwed r false s = s := by
  rw [setOwed, ← h]
  cases r <;> rfl

/-- A place that an owed ATTENTION takes (R128). -/
theorem fillFreed_attention {s : State} {p : Port} {r : RoutePort} (hp : routeOf p = some r)
    (ho : (s.route r).attentionOwed = true) (hs : (s.route r).lastReported < (s.port p).summary) :
    fillFreed p s = pushFrame p (attentionFrame (s.port p).summary) (s.port p).summary (owedCleared p s) := by
  simp only [fillFreed, owedCleared, hp, ho, hs, if_true]

/-- A place that no owed ATTENTION takes (R128). -/
theorem fillFreed_passes {s : State} {p : Port} (h : ∀ r, routeOf p = some r → (s.route r).attentionOwed = true →
    (s.port p).summary ≤ (s.route r).lastReported) : fillFreed p s = placeWaiting p (owedCleared p s) := by
  cases hp : routeOf p with
  | none => simp only [fillFreed, owedCleared, hp]
  | some r =>
    cases ho : (s.route r).attentionOwed with
    | true => simp only [fillFreed, owedCleared, hp, ho, if_true, if_neg (Nat.not_lt.2 (h r hp ho))]
    | false => simp only [fillFreed, owedCleared, hp, ho, setOwed_unowed ho, if_neg Bool.false_ne_true]

theorem fillFreed_given (p : Port) : PlaceGiven p (owedCleared p s) (fillFreed p s) := by
  by_cases h : ∃ r, routeOf p = some r ∧ (s.route r).attentionOwed = true ∧ (s.route r).lastReported < (s.port p).summary
  · obtain ⟨r, hp, ho, hs⟩ := h
    rw [fillFreed_attention hp ho hs]
    exact pushFrame_given _ p _ _
  · rw [fillFreed_passes fun r hp ho => Nat.not_lt.1 fun hs => h ⟨r, hp, ho, hs⟩]
    exact placeWaiting_given _ p

/-! ## The head frame in transmission (R176) -/

/-- The state once the first byte of the head frame is sent, before its place is given away. -/
def headSent (p : Port) (f : OutFrame) (rest : List OutFrame) (s : State) : State :=
  beginFrame p (frameBytes f.kind f.tag f.body) (s.setPort p { s.port p with output := rest })

theorem exec_frameSent {s : State} {p : Port} {f : OutFrame} {rest : List OutFrame} (hp : s.por = false)
    (h : (s.port p).output = f :: rest) : exec (.frameSent p) s = .next (decideHreq (fillFreed p (headSent p f rest s))) := by
  have head : sendHead p s = fillFreed p (headSent p f rest s) := by
    simp only [sendHead, h, headSent]
  rw [← head]
  exact event_next hp (by rw [h]; rfl)

section sent
variable {p : Port} {f : OutFrame} {rest : List OutFrame}

theorem headSent_port (q : Port) : (headSent p f rest s).port q = if q = p then { s.port p with
      output := rest
      transmitter := .sending (frameBytes f.kind f.tag f.body) 1
      clocked := if p = .hut then (s.port p).clocked + (s.port p).transmitter.left + 1 else (s.port p).clocked }
    else s.port q := by
  cases p <;> cases q <;> rfl

theorem headSent_route (r : RoutePort) :
    (headSent p f rest s).route r = if p = toPort r then { s.route r with lineTime := 0 } else s.route r := by
  cases p <;> cases r <;> rfl

theorem headSent_frame : ChangesOnly [.ports, .routes] s (headSent p f rest s) :=
  (setPort_frame s p _).comp (beginFrame_frame _ p _)

theorem headSent_self : (headSent p f rest s).port p = { s.port p with
    output := rest
    transmitter := .sending (frameBytes f.kind f.tag f.body) 1
    clocked := if p = .hut then (s.port p).clocked + (s.port p).transmitter.left + 1 else (s.port p).clocked } :=
  (headSent_port s p).trans (if_pos rfl)

theorem headSent_owed (r : RoutePort) : ((headSent p f rest s).route r).attentionOwed = (s.route r).attentionOwed := by
  rw [headSent_route]
  split <;> rfl

theorem headSent_reported (r : RoutePort) : ((headSent p f rest s).route r).lastReported = (s.route r).lastReported := by
  rw [headSent_route]
  split <;> rfl

/-- The place left by the head frame, once no ATTENTION is owed. -/
def placeFreed (p : Port) (f : OutFrame) (rest : List OutFrame) (s : State) : State := owedCleared p (headSent p f rest s)

theorem placeFreed_port (q : Port) : (placeFreed p f rest s).port q = (headSent p f rest s).port q :=
  (owedCleared_frame _ p).port q

theorem placeFreed_link : (placeFreed p f rest s).link = s.link :=
  (owedCleared_frame _ p).link.trans (headSent_frame s).link

theorem placeFreed_slot (k : ReferralIx) : (placeFreed p f rest s).slot k = s.slot k := by
  simp only [State.slot, placeFreed_link]

theorem placeFreed_age (q : Referral) : referralAge (placeFreed p f rest s) q = referralAge s q := by
  simp only [referralAge, placeFreed_link]

variable {s}

/-- The owed ATTENTION takes the place, and L becomes S (R126, R128). -/
theorem sent_attention {r : RoutePort} (hp : routeOf p = some r) (ho : (s.route r).attentionOwed = true)
    (hs : (s.route r).lastReported < (s.port p).summary) {t : State} (ht : t = fillFreed p (headSent p f rest s)) :
    (t.port p).output = rest ++ [attentionFrame (s.port p).summary] ∧ (t.port p).executor = (s.port p).executor
      ∧ (t.route r).lastReported = (s.port p).summary ∧ t.link = s.link := by
  have hsum : ((headSent p f rest s).port p).summary = (s.port p).summary := by rw [headSent_self]
  rw [fillFreed_attention hp (by rwa [headSent_owed]) (by rwa [headSent_reported, hsum]), hsum] at ht
  change t = pushFrame p _ _ (placeFreed p f rest s) at ht
  obtain rfl := toPort_of_routeOf hp
  subst ht
  refine ⟨?_, ?_, ?_, ?_⟩
  · rw [pushFrame_port, if_pos rfl, placeFreed_port, headSent_self]
  · rw [pushFrame_port, if_pos rfl, placeFreed_port, headSent_self]
  · rw [pushFrame_route, if_pos rfl]
  · rw [(pushFrame_frame _ _ _ _).link, placeFreed_link]

/-- No owed ATTENTION takes the place. -/
theorem sent_passes (h : ∀ r, routeOf p = some r → (s.route r).attentionOwed = true →
    (s.port p).summary ≤ (s.route r).lastReported) :
    fillFreed p (headSent p f rest s) = placeWaiting p (placeFreed p f rest s) :=
  fillFreed_passes fun r hp ho => by
    rw [headSent_owed] at ho
    rw [headSent_reported, headSent_self]
    exact h r hp ho

/-- The waiting response takes the place (R174). -/
theorem sent_reply {req : Request} {reply : Reply} (he : (s.port p).executor = .waitingForRoom req reply) {t : State}
    (ht : t = placeWaiting p (placeFreed p f rest s)) :
    (t.port p).output = rest ++ [replyFrame req reply (s.port p).summary] ∧ (t.port p).executor = .idle ∧ t.link = s.link
      ∧ ∀ r, routeOf p = some r → (t.route r).lastReported = (s.port p).summary := by
  have freed : (placeFreed p f rest s).port p = (headSent p f rest s).port p := placeFreed_port s p
  rw [placeWaiting_reply (by rw [freed, headSent_self]; exact he)] at ht
  subst ht
  refine ⟨?_, ?_, ?_, fun r hp => ?_⟩
  · rw [placeReply_port, if_pos rfl, freed, headSent_self]
  · rw [placeReply_port, if_pos rfl]
  · rw [(placeReply_frame _ _ _ _).link, placeFreed_link]
  · obtain rfl := toPort_of_routeOf hp
    rw [State.route, placeReply_routes, reportedRoutes_get, if_pos rfl, freed, headSent_self]

/-- With no response waiting the held answer of lowest `made` takes the place, if there is one (R164). -/
theorem sent_held (he : ∀ req reply, (s.port p).executor ≠ .waitingForRoom req reply) (hr : rest.length < 8) {t : State}
    (ht : t = placeWaiting p (placeFreed p f rest s)) :
    (t.port p).executor = (s.port p).executor
    ∧ ((∀ k, isAnsweredFor p (s.slot k) = false) → (t.port p).output = rest ∧ t.link = s.link)
    ∧ ∀ k q a, s.slot k = .answered q a → toPort q.origin = p →
      (∀ j x b, j ≠ k → s.slot j = .answered x b → toPort x.origin = p → referralAge s x < referralAge s q) →
      (t.port p).output = rest ++ [responseFrame q.kind q.tag a.result (s.port p).summary a.body .response]
        ∧ t.slot k = .free ∧ ∀ j, j ≠ k → t.slot j = s.slot j := by
  have freed : (placeFreed p f rest s).port p = (headSent p f rest s).port p := placeFreed_port s p
  rw [placeWaiting_held (by rw [freed, headSent_self]; exact he)] at ht
  refine ⟨?_, fun hnone => ?_, fun k q a hk hq hold => ?_⟩
  · rw [ht, placeHeld_executor, freed, headSent_self]
  · rw [placeHeld_none fun k => by rw [placeFreed_slot]; exact hnone k] at ht
    subst ht
    exact ⟨by rw [freed, headSent_self], placeFreed_link s⟩
  · subst hq
    rw [placeHeld_oldest (by rw [placeFreed_slot]; exact hk) (fun j x b hj hs hx => by
      rw [placeFreed_age, placeFreed_age]
      exact hold j x b hj (by rwa [placeFreed_slot] at hs) hx) (by rw [freed, headSent_self]; exact hr)] at ht
    subst ht
    refine ⟨?_, setSlot_slot_self _ k _, fun j hj => ?_⟩
    · rw [setSlot_port, placeResponse, pushFrame_port, if_pos rfl, freed, headSent_self]
    · rw [setSlot_slot, if_neg hj, (placeResponse_frame _ _ _ _ _ _ _).slot, placeFreed_slot]

end sent

/-- Settles O10: the frame that is sent leaves its place, and the rows of R128, R174 and R164 give it away. -/
theorem frameSentGivesFreedPlace : Obligations.FrameSentGivesFreedPlace := by
  refine ⟨fun p s h => event_none (.inr (by rw [h]; rfl)), fun p f rest s hpor h hr => ?_⟩
  have changed : ChangesOnly [.ports, .routes, .link, .restart, .hreq] s (decideHreq (fillFreed p (headSent p f rest s))) :=
    ((headSent_frame s).comp (fillFreed_frame _ p) (n := [.ports, .routes, .link, .restart])).comp (decideHreq_frame _)
  have given : PlaceGiven p (headSent p f rest s) (decideHreq (fillFreed p (headSent p f rest s))) :=
    ((owedCleared_given _ p).trans (fillFreed_given _ p)).trans (.of_frame (decideHreq_frame _))
  have port := given.port
  rw [headSent_self] at port
  refine ⟨_, exec_frameSent hpor h, changed, fun q hq => ?_, ?_, ?_, fun r => ?_, ?_, ?_, ?_, ?_, fun r hp => ?_,
    fun r hp ho hs => sent_attention hp ho hs (t := fillFreed p (headSent p f rest s)) rfl, fun hpass => ?_⟩
  · rw [given.others q hq, headSent_port, if_neg hq]
  · rw [port]
  · rw [port]
    cases (s.port p).transmitter <;> rfl
  · rw [given.lineTime, headSent_route]
    split <;> rfl
  · rw [port]
  · rw [port]
  · rw [port]
  · rw [port]
  · have cleared := (fillFreed_given (headSent p f rest s) p).owed r
    rw [owedCleared_owed _ hp] at cleared
    exact Bool.eq_false_iff.2 fun ho => Bool.false_ne_true (cleared ho)
  · have passes := sent_passes (f := f) (rest := rest) hpass
    exact ⟨fun req reply he => sent_reply (t := fillFreed p (headSent p f rest s)) he passes,
      fun he => sent_held (t := fillFreed p (headSent p f rest s)) he hr passes⟩

end Sys2Proof.Machine
end

section
/-! SUPPORT. Two runs of one operation, with port p's output queue full and with it empty: the two states differ in that queue and in
what Notice Delivery keeps for p's route, and the operation leaves them so (R124, R127). -/

set_option Elab.async false

namespace Sys2Proof.Machine

variable (s : State)

/-! ## States that differ in the ports and the routes -/

/-- The state with other ports and routes. -/
def withPorts (P : PerPort PortState) (R : PerRoute RouteState) (s : State) : State := { s with ports := P, routes := R }

/-- An operation that neither reads nor changes the ports and the routes. -/
def PortBlind (g : State → State) : Prop := ∀ P R s, g (withPorts P R s) = withPorts P R (g s)

theorem PortBlind.comp {f g : State → State} (hf : PortBlind f) (hg : PortBlind g) : PortBlind fun s => g (f s) :=
  fun P R s => (congrArg g (hf P R s)).trans (hg P R (f s))

theorem PortBlind.ite {c : State → Prop} [DecidablePred c] {f g : State → State} (hc : ∀ P R s, c (withPorts P R s) ↔ c s)
    (hf : PortBlind f) (hg : PortBlind g) : PortBlind fun s => if c s then f s else g s := fun P R s => by
  by_cases h : c s
  · simp only [if_pos h, if_pos ((hc P R s).2 h), hf P R s]
  · simp only [if_neg h, if_neg (mt (hc P R s).1 h), hg P R s]

/-- A blind operation leaves the ports and the routes. -/
theorem PortBlind.frame {g : State → State} (h : PortBlind g) : (g s).ports = s.ports ∧ (g s).routes = s.routes := by
  have hs : g s = withPorts s.ports s.routes (g s) := h s.ports s.routes s
  rw [hs]
  exact ⟨rfl, rfl⟩

/-! ## Another output queue -/

/-- The routes with another last reported summary and another ATTENTION owed for port p; the Hut Port has none (R121). -/
def redelivered (p : Port) (v : Nat × Bool) (R : PerRoute RouteState) : PerRoute RouteState :=
  match p with
  | .east => { R with east := { R.east with lastReported := v.1, attentionOwed := v.2 } }
  | .west => { R with west := { R.west with lastReported := v.1, attentionOwed := v.2 } }
  | .hut => R

/-- The state with another output queue of port p, and another delivery state of its route. -/
def queued (p : Port) (o : List OutFrame) (v : Nat × Bool) (s : State) : State :=
  withPorts (s.ports.set p { s.port p with output := o }) (redelivered p v s.routes) s

/-- The states differ in the output queue of port p and the delivery state of its route alone. -/
def Requeued (p : Port) (s t : State) : Prop := ∃ o v, t = queued p o v s

section queued
variable {p q : Port} {o : List OutFrame} {v : Nat × Bool} {r : RoutePort}

theorem queued_queued (o' : List OutFrame) (v' : Nat × Bool) : queued p o' v' (queued p o v s) = queued p o' v' s := by
  cases p <;> rfl

theorem Requeued.refl (p : Port) : Requeued p s s := by
  cases p with
  | east => exact ⟨s.ports.east.output, (s.routes.east.lastReported, s.routes.east.attentionOwed), rfl⟩
  | west => exact ⟨s.ports.west.output, (s.routes.west.lastReported, s.routes.west.attentionOwed), rfl⟩
  | hut => exact ⟨s.ports.hut.output, (0, false), rfl⟩

theorem Requeued.symm {s t : State} (h : Requeued p s t) : Requeued p t s := by
  obtain ⟨o, v, rfl⟩ := h
  obtain ⟨o', v', hs⟩ := Requeued.refl s p
  exact ⟨o', v', by rw [queued_queued]; exact hs⟩

theorem Requeued.trans {s t u : State} (h : Requeued p s t) (k : Requeued p t u) : Requeued p s u := by
  obtain ⟨o, v, rfl⟩ := h
  obtain ⟨o', v', rfl⟩ := k
  exact ⟨o', v', queued_queued s o' v'⟩

theorem queued_frame : ChangesOnly [.ports, .routes] s (queued p o v s) := by
  intro b hb
  cases b <;> simp_all [Block.same, queued, withPorts]

theorem queued_port : (queued p o v s).port q = if q = p then { s.port p with output := o } else s.port q :=
  PerPort.get_set s.ports p q _

theorem queued_port_self : (queued p o v s).port p = { s.port p with output := o } := by
  rw [queued_port, if_pos rfl]

theorem queued_port_ne (h : q ≠ p) : (queued p o v s).port q = s.port q := by
  rw [queued_port, if_neg h]

theorem queued_summary (q : Port) : ((queued p o v s).port q).summary = (s.port q).summary := by
  rw [queued_port]
  split
  · next e => rw [e]
  · rfl

theorem queued_level (q : Port) : ((queued p o v s).port q).level = (s.port q).level := by
  rw [queued_port]
  split
  · next e => rw [e]
  · rfl

theorem queued_linkUp (r : RoutePort) : ((queued p o v s).route r).linkUp = (s.route r).linkUp := by
  cases p <;> cases r <;> rfl

theorem queued_route_ne (h : toPort r ≠ p) : (queued p o v s).route r = s.route r := by
  cases p with
  | hut => rfl
  | east =>
    cases r with
    | east => exact absurd rfl h
    | west => rfl
  | west =>
    cases r with
    | east => rfl
    | west => exact absurd rfl h

theorem queued_setPort_ne (h : q ≠ p) (y : PortState) : (queued p o v s).setPort q y = queued p o v (s.setPort q y) := by
  cases p with
  | east =>
    cases q with
    | east => exact absurd rfl h
    | west | hut => rfl
  | west =>
    cases q with
    | west => exact absurd rfl h
    | east | hut => rfl
  | hut =>
    cases q with
    | hut => exact absurd rfl h
    | east | west => rfl

theorem queued_setRoute_ne (h : toPort r ≠ p) (y : RouteState) : (queued p o v s).setRoute r y = queued p o v (s.setRoute r y) := by
  cases p with
  | hut => rfl
  | east =>
    cases r with
    | east => exact absurd rfl h
    | west => rfl
  | west =>
    cases r with
    | east => rfl
    | west => exact absurd rfl h

theorem queued_offered (q : Port) : offered (queued p o v s) q = offered s q :=
  offered_congr q rfl (fun _ => rfl) (fun _ => rfl) (queued_level s q)

theorem queued_topPriority (q : Port) : topPriority (queued p o v s) q = topPriority s q := by
  rw [topPriority, topPriority, queued_offered]

theorem queued_hasRoom_ne (h : q ≠ p) : hasRoom (queued p o v s) q = hasRoom s q := by
  rw [hasRoom, queued_port_ne s h, hasRoom]

theorem queued_attentionWaits_ne (h : q ≠ p) : attentionWaits (queued p o v s) q = attentionWaits s q := by
  rw [attentionWaits, queued_port_ne s h, attentionWaits]

/-! ## Operations on another port -/

theorem queued_setReported_ne (h : q ≠ p) (y : Nat) :
    setReported q y (queued p o v s) = queued p o v (setReported q y s) := by
  unfold setReported
  split
  · rfl
  · next r hr =>
    have hne : toPort r ≠ p := toPort_of_routeOf hr ▸ h
    rw [queued_route_ne s hne, queued_setRoute_ne s hne]

theorem queued_setOwed_ne (h : toPort r ≠ p) (b : Bool) : setOwed r b (queued p o v s) = queued p o v (setOwed r b s) := by
  rw [setOwed, queued_route_ne s h, queued_setRoute_ne s h, setOwed]

theorem queued_pushFrame_ne (h : q ≠ p) (f : OutFrame) (y : Nat) :
    pushFrame q f y (queued p o v s) = queued p o v (pushFrame q f y s) := by
  rw [pushFrame, queued_port_ne s h, queued_setPort_ne s h, queued_setReported_ne _ h, pushFrame]

theorem queued_refreshAttention_ne (h : toPort r ≠ p) :
    refreshAttention r (queued p o v s) = queued p o v (refreshAttention r s) := by
  simp only [refreshAttention, queued_port_ne s h, queued_setPort_ne s h, queued_setReported_ne _ h]
  split <;> rfl

theorem queued_decideAttention_ne (h : toPort r ≠ p) :
    decideAttention r (queued p o v s) = queued p o v (decideAttention r s) := by
  simp only [decideAttention, queued_attentionWaits_ne s h, queued_port_ne s h, queued_route_ne s h, queued_hasRoom_ne s h,
    queued_refreshAttention_ne s h, queued_pushFrame_ne s h, queued_setOwed_ne s h]
  repeat' split
  all_goals rfl

theorem queued_lowerReported_ne (h : q ≠ p) (y : Nat) :
    lowerReported q y (queued p o v s) = queued p o v (lowerReported q y s) := by
  unfold lowerReported
  split
  · rfl
  · next r hr =>
    rw [queued_route_ne s (toPort_of_routeOf hr ▸ h), queued_setReported_ne s h]
    split <;> rfl

/-- The decision for another port than the one whose response waits. -/
theorem queued_recompute_ne (h : q ≠ p) : recompute (some p) q (queued p o v s) = queued p o v (recompute none q s) := by
  have decides : ∀ u, decideAttentionOf (some p) q (queued p o v u) = queued p o v (decideAttentionOf none q u) := fun u => by
    unfold decideAttentionOf
    split
    · rfl
    · next r hr =>
      rw [if_neg fun e => h (Option.some.inj e).symm, if_neg nofun, queued_decideAttention_ne u (toPort_of_routeOf hr ▸ h)]
  rw [recompute, recompute, queued_topPriority, queued_summary, queued_port_ne s h, queued_setPort_ne s h,
    queued_lowerReported_ne _ h, decides]
  split <;> rfl

end queued

/-! ## Notice Delivery on the port itself -/

theorem setOutput_requeued (p : Port) (o : List OutFrame) : Requeued p s (s.setPort p { s.port p with output := o }) := by
  cases p with
  | east => exact ⟨o, (s.routes.east.lastReported, s.routes.east.attentionOwed), rfl⟩
  | west => exact ⟨o, (s.routes.west.lastReported, s.routes.west.attentionOwed), rfl⟩
  | hut => exact ⟨o, (0, false), rfl⟩

theorem setReported_requeued (p : Port) (y : Nat) : Requeued p s (setReported p y s) := by
  cases p with
  | east => exact ⟨s.ports.east.output, (y, s.routes.east.attentionOwed), rfl⟩
  | west => exact ⟨s.ports.west.output, (y, s.routes.west.attentionOwed), rfl⟩
  | hut => exact .refl s .hut

theorem setOwed_requeued (r : RoutePort) (b : Bool) : Requeued (toPort r) s (setOwed r b s) := by
  cases r with
  | east => exact ⟨s.ports.east.output, (s.routes.east.lastReported, b), rfl⟩
  | west => exact ⟨s.ports.west.output, (s.routes.west.lastReported, b), rfl⟩

theorem pushFrame_requeued (p : Port) (f : OutFrame) (y : Nat) : Requeued p s (pushFrame p f y s) :=
  (setOutput_requeued s p _).trans (setReported_requeued _ p y)

theorem refreshAttention_requeued (r : RoutePort) : Requeued (toPort r) s (refreshAttention r s) := by
  unfold refreshAttention
  simp only []
  split
  · exact (setOutput_requeued s _ _).trans (setReported_requeued _ _ _)
  · exact .refl s _

theorem decideAttention_requeued (r : RoutePort) : Requeued (toPort r) s (decideAttention r s) := by
  unfold decideAttention
  simp only []
  repeat' split
  · exact refreshAttention_requeued s r
  · exact pushFrame_requeued s _ _ _
  · exact setOwed_requeued s r true
  · exact setOwed_requeued s r false

theorem decideAttentionOf_requeued (d : Option Port) (p : Port) : Requeued p s (decideAttentionOf d p s) := by
  unfold decideAttentionOf
  split
  · exact .refl s p
  · next r hr =>
    obtain rfl := toPort_of_routeOf hr
    split
    · exact refreshAttention_requeued s r
    · exact decideAttention_requeued s r

theorem lowerReported_requeued (p : Port) (y : Nat) : Requeued p s (lowerReported p y s) := by
  unfold lowerReported
  repeat' split
  · exact .refl s p
  · exact setReported_requeued s p y
  · exact .refl s p

/-- The port with the summary of R122. -/
def summed (p : Port) (s : State) : State := s.setPort p { s.port p with summary := topPriority s p }

theorem summed_self {p : Port} (h : topPriority s p = (s.port p).summary) : summed p s = s := by
  rw [summed, h]
  cases p <;> rfl

/-- A recomputation gives the summary, and decides the frames and the delivery state. -/
theorem recompute_requeued (d : Option Port) (p : Port) : Requeued p (summed p s) (recompute d p s) := by
  unfold recompute
  split
  · next h =>
    rw [summed_self s h]
    exact .refl s p
  · exact (lowerReported_requeued (summed p s) p _).trans (decideAttentionOf_requeued _ d p)

theorem Requeued.summed {p : Port} {s t : State} (h : Requeued p s t) : Requeued p (summed p s) (summed p t) := by
  obtain ⟨o, v, rfl⟩ := h
  refine ⟨o, v, ?_⟩
  rw [Machine.summed, Machine.summed, queued_topPriority]
  cases p <;> rfl

theorem decideAttention_full {s : State} {r : RoutePort} (h : Config.outputPlaces ≤ (s.port (toPort r)).output.length) :
    ((decideAttention r s).port (toPort r)).output.length = (s.port (toPort r)).output.length := by
  have room : hasRoom s (toPort r) = false := decide_eq_false (Nat.not_lt.2 h)
  unfold decideAttention
  simp only [room, if_neg Bool.false_ne_true]
  repeat' split
  · exact refreshAttention_length s r _
  · rfl
  · rfl

/-- A full output queue takes no ATTENTION (R127). -/
theorem recompute_full {s : State} {p : Port} (h : Config.outputPlaces ≤ (s.port p).output.length) :
    ((recompute none p s).port p).output.length = (s.port p).output.length := by
  have lowered : ∀ y, ((lowerReported p y (summed p s)).port p).output = (s.port p).output := fun y => by
    rw [(lowerReported_frame _ _ _).port, summed, setPort_port_self]
  unfold recompute decideAttentionOf
  split
  · rfl
  · split
    · exact congrArg List.length (lowered _)
    · next r hr =>
      obtain rfl := toPort_of_routeOf hr
      rw [if_neg nofun]
      refine (decideAttention_full ?_).trans (congrArg List.length (lowered _))
      exact (congrArg List.length (lowered _)).symm ▸ h

end Sys2Proof.Machine
end

section
/-! SUPPORT. The two runs, with the full output queue and with the empty one, through the operations that a request is served with
(R124). -/

set_option Elab.async false

namespace Sys2Proof.Machine

variable (s : State)

/-! ## Operations that are blind to the ports -/

section blind

theorem insertNotice_blind (n : Notice) : PortBlind (insertNotice n) := fun P R s => by
  have entries : (withPorts P R s).notices = s.notices := rfl
  unfold insertNotice
  rw [entries]
  split
  · rfl
  · split <;> rfl

theorem enterNotice_blind (id : NoticeId) (sev : Option Severity) : PortBlind (enterNotice id sev) :=
  .ite (c := fun s => priorityOf s id sev = 0) (fun _ _ _ => Iff.rfl) (fun _ _ _ => rfl) fun P R s =>
    insertNotice_blind (newNotice s id sev) P R s

theorem reraiseNotice_blind (id : NoticeId) (sev : Option Severity) : PortBlind (reraiseNotice id sev) :=
  .ite (c := fun s => priorityOf s id sev = 0) (fun _ _ _ => Iff.rfl) (fun _ _ _ => rfl) fun _ _ _ => rfl

theorem changeNotice_blind (n : Notice) (sev : Severity) : PortBlind (changeNotice n sev) := 
  .ite (c := fun _ => n.severity = some sev) (fun _ _ _ => Iff.rfl) (fun _ _ _ => rfl) <|
  .ite (c := fun s => priorityOf s n.id (some sev) = 0) (fun _ _ _ => Iff.rfl) (fun _ _ _ => rfl) <|
  .ite (c := fun _ => isReraise n.severity sev = true) (fun _ _ _ => Iff.rfl) (fun _ _ _ => rfl) fun _ _ _ => rfl

theorem applyReport_blind (id : NoticeId) (r : Report) : PortBlind (applyReport id r) := fun P R s => by
  have found : findNotice (withPorts P R s) id = findNotice s id := rfl
  unfold applyReport
  rw [found]
  cases findNotice s id with
  | none =>
    cases r with
    | start sev => exact enterNotice_blind id sev P R s
    | change sev => exact enterNotice_blind id (some sev) P R s
    | finish => rfl
  | some n =>
    cases r with
    | start sev =>
      dsimp only
      cases n.state with
      | returned => exact reraiseNotice_blind id sev P R s
      | raised | acked =>
        cases sev with
        | none => rfl
        | some sev => exact changeNotice_blind n sev P R s
    | change sev =>
      dsimp only
      cases n.state with
      | returned => exact reraiseNotice_blind id (some sev) P R s
      | raised | acked => exact changeNotice_blind n sev P R s
    | finish =>
      dsimp only
      cases n.state <;> rfl

theorem requestActuator_blind : PortBlind requestActuator :=
  .ite (c := fun s => s.acts.workList ≠ [] ∧ s.arb.tenure ≠ some .actuatorUnit) (fun _ _ _ => Iff.rfl) (fun _ _ _ => rfl)
    fun _ _ _ => rfl

theorem queuePolicy_blind (m : Nat) (i : ActIx) : PortBlind (queuePolicy m i) :=
  .ite (c := fun s => .policy i ∈ s.acts.workList) (fun _ _ _ => Iff.rfl) requestActuator_blind
    (.comp (f := fun s => (recordMoment m i (dropRefresh i s)).setWorkList
      ((recordMoment m i (dropRefresh i s)).acts.workList ++ [WorkItem.policy i])) (fun _ _ _ => rfl) requestActuator_blind)

theorem applyPolicy_blind (m : Nat) (i : ActIx) : PortBlind (applyPolicy m i) := fun P R s => by
  have entry : (withPorts P R s).actuator i = s.actuator i := rfl
  unfold applyPolicy
  rw [entry]
  cases (s.actuator i).desc with
  | none => rfl
  | some d =>
    dsimp only
    split
    · exact queuePolicy_blind m i P R s
    · rfl

theorem restartRefresh_blind (i : ActIx) : PortBlind (restartRefresh i) := fun P R s => by
  have entry : (withPorts P R s).actuator i = s.actuator i := rfl
  unfold restartRefresh
  rw [entry]
  cases (s.actuator i).desc with
  | none => rfl
  | some d =>
    dsimp only
    split <;> rfl

theorem postEntry_blind (k : SlotIx) (x : Posting) : PortBlind (postEntry k x) := fun P R s => by
  have found : findNotice (withPorts P R s) (.posted k) = findNotice s (.posted k) := rfl
  unfold postEntry
  rw [found]
  cases findNotice s (.posted k) with
  | none => exact insertNotice_blind (withPosting x (newNotice s (.posted k) none)) P R s
  | some n => rfl

/-- A blind operation leaves the output queues as they are. -/
theorem PortBlind.queued {g : State → State} (h : PortBlind g) (p : Port) (o : List OutFrame) (v : Nat × Bool) (s : State) :
    g (queued p o v s) = queued p o v (g s) := by
  obtain ⟨hports, hroutes⟩ := h.frame (s := s)
  rw [Machine.queued, h, Machine.queued, State.port, State.port, hports, hroutes]

end blind

/-! ## The two runs -/

theorem NoItems.of_frame {p : Port} {l : List Block} {s t : State} (h : NoItems p s) (hf : ChangesOnly l s t)
    (ha : Block.acts ∉ l := by decide) : NoItems p t :=
  h.of_workKept (.of_workList (by rw [hf.acts ha]))

/-- Two runs of one event: in s port p's output queue is full, in t it is empty and its response waits for the end of the event
(R124). The states differ in that queue and in the delivery state of p's route, the port goes on as x, and no COMMAND or EXCHANGE of
it waits. -/
structure Twin (p : Port) (x : PortState) (s t : State) : Prop where
  same : Requeued p s t
  empty : (t.port p).output = []
  full : Config.outputPlaces ≤ x.output.length
  length : (s.port p).output.length = x.output.length
  receiver : (s.port p).receiver = x.receiver
  requests : (s.port p).requests = x.requests
  executor : (s.port p).executor = x.executor
  transmitter : (s.port p).transmitter = x.transmitter
  items : NoItems p s

section twin
variable {p : Port} {x : PortState} {s t : State}

theorem Twin.ite {c c' : Prop} [Decidable c] [Decidable c'] {s' t' : State} (hc : c' ↔ c) (h : Twin p x s t)
    (k : Twin p x s' t') : Twin p x (if c then s else s') (if c' then t else t') := by
  by_cases hs : c
  · rwa [if_pos hs, if_pos (hc.2 hs)]
  · rwa [if_neg hs, if_neg (mt hc.1 hs)]

/-- An operation that leaves port p, done in both runs. -/
theorem Twin.map (h : Twin p x s t) {s' : State} {g : State → State} (hg : ∀ o v, g (queued p o v s) = queued p o v s')
    (hp : s'.port p = s.port p) (hi : NoItems p s') : Twin p x s' (g t) := by
  obtain ⟨o, v, rfl⟩ := h.same
  have empty := h.empty
  rw [queued_port_self] at empty
  refine ⟨⟨o, v, hg o v⟩, ?_, h.full, ?_, ?_, ?_, ?_, ?_, hi⟩
  · rw [hg, queued_port_self]
    exact empty
  · rw [hp, h.length]
  · rw [hp, h.receiver]
  · rw [hp, h.requests]
  · rw [hp, h.executor]
  · rw [hp, h.transmitter]

theorem Twin.blind (h : Twin p x s t) {g : State → State} (hg : PortBlind g)
    (hi : NoItems p s → NoItems p (g s) := by exact id) : Twin p x (g s) (g t) :=
  h.map (fun o v => hg.queued p o v s) (congrArg (fun P => P.get p) (hg.frame (s := s)).1) (hi h.items)

/-! ## Notice Delivery (R124) -/

theorem Twin.recompute_other (h : Twin p x s t) {q : Port} (hq : q ≠ p) : Twin p x (recompute none q s) (recompute (some p) q t) := by
  refine h.map (fun o v => queued_recompute_ne s hq) ?_ ?_
  · obtain ⟨o, v, ho⟩ := recompute_requeued s none q
    rw [ho, queued_port_ne _ hq.symm, summed, setPort_port_ne _ hq.symm]
  · exact h.items.of_frame (recompute_frame s none q)

theorem Twin.recompute_self (h : Twin p x s t) : Twin p x (recompute none p s) (recompute (some p) p t) := by
  have delivers := recompute_delivers s none p
  obtain ⟨receiver, requests, executor, transmitter, -, -⟩ := delivers.ports p
  refine ⟨?_, ?_, h.full, (recompute_full (h.length ▸ h.full)).trans h.length, receiver.trans h.receiver,
    requests.trans h.requests, executor.trans h.executor, transmitter.trans h.transmitter,
    h.items.of_frame (recompute_frame s none p)⟩
  · exact (recompute_requeued s none p).symm.trans (h.same.summed.trans (recompute_requeued t (some p) p))
  · have length := (recompute_delivers t (some p) p).held p rfl
    rw [h.empty] at length
    exact List.length_eq_zero_iff.1 length

theorem Twin.recompute (h : Twin p x s t) (q : Port) : Twin p x (recompute none q s) (recompute (some p) q t) := by
  by_cases hq : q = p
  · subst hq
    exact h.recompute_self
  · exact h.recompute_other hq

theorem Twin.settle (h : Twin p x s t) : Twin p x (settle none s) (settle (some p) t) :=
  ((h.recompute .east).recompute .west).recompute .hut

theorem Twin.report (h : Twin p x s t) (id : NoticeId) (r : Report) : Twin p x (report none id r s) (report (some p) id r t) :=
  (h.blind (applyReport_blind id r) (fun hi => hi.of_frame (applyReport_frame s id r))).settle

theorem Twin.reportActivity (h : Twin p x s t) (id : NoticeId) (a : Bool) :
    Twin p x (reportActivity none id a s) (reportActivity (some p) id a t) := h.report id _

/-! ## Clock Control -/

theorem Twin.reportEconomy (h : Twin p x s t) (a : Bool) : Twin p x (reportEconomy none a s) (reportEconomy (some p) a t) := by
  have noted := h.blind (g := fun s => s.setClock { s.clock with economyReported := a }) fun _ _ _ => rfl
  obtain ⟨o, v, rfl⟩ := h.same
  exact .ite Iff.rfl h (noted.reportActivity _ a)

theorem Twin.beginSwitch (h : Twin p x s t) (c : ClockState) : Twin p x (beginSwitch c s) (beginSwitch c t) :=
  h.blind fun _ _ _ => rfl

theorem Twin.abandonSwitch (h : Twin p x s t) (c : ClockState) : Twin p x (abandonSwitch c s) (abandonSwitch c t) :=
  h.blind fun _ _ _ => rfl

theorem Twin.actOnWanted (h : Twin p x s t) : Twin p x (actOnWanted none s) (actOnWanted (some p) t) := by
  obtain ⟨o, v, rfl⟩ := h.same
  have clock : (queued p o v s).clock = s.clock := rfl
  unfold Machine.actOnWanted
  rw [clock]
  cases s.clock.clockState <;> cases s.clock.wanted
  case full.economy => exact h.beginSwitch _
  case economy.full => exact (h.beginSwitch _).reportEconomy false
  case toEconomy.full => exact h.abandonSwitch _
  case toFull.economy => exact (h.abandonSwitch _).reportEconomy true
  all_goals exact h

theorem Twin.reevaluateClock (h : Twin p x s t) : Twin p x (reevaluateClock none s) (reevaluateClock (some p) t) := by
  have noted := h.blind (g := fun s => s.setClock { s.clock with wanted := wantedClock s }) fun _ _ _ => rfl
  obtain ⟨o, v, rfl⟩ := h.same
  exact .ite Iff.rfl h noted.actOnWanted

/-! ## The end of claims (R147, R148) -/

theorem queued_respond_ne {q : Port} (hq : q ≠ p) (reply : Reply) (o : List OutFrame) (v : Nat × Bool) :
    respond q reply (queued p o v s) = queued p o v (respond q reply s) := by
  have places : ∀ req, placeReply q req reply (queued p o v s) = queued p o v (placeReply q req reply s) := fun req => by
    have placed : (placeResponse q req.kind req.tag reply.result.code reply.body (markOf req reply) (queued p o v s)).setExecutor q .idle
        = queued p o v ((placeResponse q req.kind req.tag reply.result.code reply.body (markOf req reply) s).setExecutor q .idle) := by
      rw [placeResponse, queued_port_ne s hq, queued_pushFrame_ne s hq, State.setExecutor, queued_port_ne _ hq,
        queued_setPort_ne _ hq]
      rfl
    have restart : (queued p o v s).restart = s.restart := rfl
    unfold placeReply
    rw [placed, restart]
    dsimp only
    split <;> rfl
  unfold respond
  rw [queued_port_ne s hq, queued_hasRoom_ne s hq]
  split
  · rw [places, State.setExecutor, queued_port_ne s hq, queued_setPort_ne s hq]
    split <;> rfl
  · rfl

theorem Twin.respond_other (h : Twin p x s t) {q : Port} (hq : q ≠ p) (reply : Reply) :
    Twin p x (respond q reply s) (respond q reply t) :=
  h.map (fun o v => queued_respond_ne hq reply o v) (respond_port_ne s hq.symm reply) (h.items.of_frame (respond_frame s q reply))

theorem Twin.dismissCommand (h : Twin p x s t) (q : Port) (i : ActIx) :
    Twin p x (dismissCommand q i s) (dismissCommand q i t) := by
  by_cases hq : q = p
  · subst hq
    have items : NoItems q t := by
      obtain ⟨o, v, rfl⟩ := h.same
      exact h.items
    rwa [dismissCommand_noItems h.items, dismissCommand_noItems items]
  · have taken := h.blind (g := fun s => s.setWorkList (s.acts.workList.filter fun w => !isCommandOf q i w)) (fun _ _ _ => rfl)
      fun hi w hw => hi w (List.mem_of_mem_filter hw)
    obtain ⟨o, v, rfl⟩ := h.same
    exact .ite Iff.rfl (taken.respond_other hq _) h

theorem Twin.queuePolicy (h : Twin p x s t) (m : Nat) (i : ActIx) : Twin p x (queuePolicy m i s) (queuePolicy m i t) :=
  h.blind (queuePolicy_blind m i) fun hi => hi.of_workKept (queuePolicy_workKept s m i).1

theorem Twin.applyPolicy (h : Twin p x s t) (m : Nat) (i : ActIx) : Twin p x (applyPolicy m i s) (applyPolicy m i t) :=
  h.blind (applyPolicy_blind m i) fun hi => hi.of_workKept (applyPolicy_claimsEnd s p m i).work

theorem Twin.endClaim (h : Twin p x s t) (m : Nat) (i : ActIx) : Twin p x (endClaim m i s) (endClaim m i t) := by
  have freed := h.blind (g := claimFreed i) fun _ _ _ => rfl
  obtain ⟨o, v, rfl⟩ := h.same
  have entry : (queued p o v s).actuator i = s.actuator i := rfl
  cases hh : (s.actuator i).holder with
  | none =>
    simp only [Machine.endClaim, entry, hh]
    exact h
  | some q =>
    rw [endClaim_held s hh, endClaim_held _ (entry ▸ hh)]
    exact (freed.dismissCommand q i).applyPolicy m i

theorem Twin.endClaims (h : Twin p x s t) (m : Nat) (who : Port → Bool) : Twin p x (endClaims m who s) (endClaims m who t) := by
  have turn : ∀ {s t}, Twin p x s t → ∀ i, Twin p x (endClaimOf m who s i) (endClaimOf m who t i) := fun {s t} h i => by
    have ended := h.endClaim m i
    obtain ⟨o, v, rfl⟩ := h.same
    have entry : (queued p o v s).actuator i = s.actuator i := rfl
    unfold endClaimOf
    rw [entry]
    cases (s.actuator i).holder with
    | none => exact h
    | some q => exact .ite Iff.rfl ended h
  rw [endClaims_eq, endClaims_eq]
  generalize actIndices = l
  induction l generalizing s t with
  | nil => exact h
  | cons i l ih => exact ih (turn h i)

theorem Twin.endRouteClaims (h : Twin p x s t) : Twin p x (endRouteClaims s) (endRouteClaims t) := by
  have ended := h.endClaims (nextMoment s) isRoute
  obtain ⟨o, v, rfl⟩ := h.same
  exact ended

theorem Twin.takeExpiry (h : Twin p x s t) (i : ActIx) : Twin p x (takeExpiry i s) (takeExpiry i t) := by
  have ended := h.endClaim s.acts.moments.ticked i
  obtain ⟨o, v, rfl⟩ := h.same
  exact .ite Iff.rfl ended h

/-! ## Live records (R33, R40 to R42) -/

theorem Twin.reevaluateAsserted (h : Twin p x s t) (i : PointIx) :
    Twin p x (reevaluateAsserted none s i) (reevaluateAsserted (some p) t i) := by
  have noted := h.blind (g := fun s => setReportedAsserted i (assertedActive s i) s) fun _ _ _ => rfl
  obtain ⟨o, v, rfl⟩ := h.same
  exact .ite Iff.rfl h (noted.reportActivity _ _)

theorem Twin.reevaluateGated (h : Twin p x s t) (i : PointIx) :
    Twin p x (reevaluateGated none i s) (reevaluateGated (some p) i t) := by
  have gated : gatedPoints t i = gatedPoints s i := by
    obtain ⟨o, v, rfl⟩ := h.same
    rfl
  unfold Machine.reevaluateGated
  rw [gated]
  clear gated
  generalize gatedPoints s i = l
  induction l generalizing s t with
  | nil => exact h
  | cons j l ih => exact ih (h.reevaluateAsserted j)

theorem Twin.reportBand (h : Twin p x s t) (i : PointIx) (old new : Band) :
    Twin p x (reportBand none i old new s) (reportBand (some p) i old new t) := by
  refine .ite Iff.rfl h ?_
  cases severityOf old <;> cases severityOf new
  · exact h.report _ _
  · exact h.report _ _
  · exact h.report _ _
  · exact h.report _ _

theorem Twin.reportFailed (h : Twin p x s t) (i : PointIx) (old new : Quality) :
    Twin p x (reportFailed none i old new s) (reportFailed (some p) i old new t) :=
  .ite Iff.rfl (h.report _ _) (.ite Iff.rfl (h.report _ _) h)

theorem Twin.reportAsserted (h : Twin p x s t) (i : PointIx) (old new : Bool) :
    Twin p x (reportAsserted none i old new s) (reportAsserted (some p) i old new t) :=
  .ite Iff.rfl h ((h.reevaluateAsserted i).reevaluateGated i)

theorem Twin.handOff (h : Twin p x s t) (i : PointIx) (old new : LiveRecord) :
    Twin p x (handOff none i old new s) (handOff (some p) i old new t) := by
  have clocked : Twin p x (if old.band ≠ new.band ∧ s.economyTrigger = some i then Machine.reevaluateClock none s else s)
      (if old.band ≠ new.band ∧ t.economyTrigger = some i then Machine.reevaluateClock (some p) t else t) := by
    have acted := h.reevaluateClock
    obtain ⟨o, v, rfl⟩ := h.same
    exact .ite Iff.rfl acted h
  unfold Machine.handOff
  dsimp only
  generalize (if old.band ≠ new.band ∧ s.economyTrigger = some i then Machine.reevaluateClock none s else s) = u at clocked ⊢
  generalize (if old.band ≠ new.band ∧ t.economyTrigger = some i then Machine.reevaluateClock (some p) t else t) = w at clocked ⊢
  have ended := clocked.endRouteClaims
  obtain ⟨o, v, rfl⟩ := clocked.same
  exact .ite Iff.rfl ended clocked

theorem Twin.commitLive (h : Twin p x s t) (i : PointIx) (new : LiveRecord) :
    Twin p x (commitLive none i new s) (commitLive (some p) i new t) := by
  have record : (t.point i).live = (s.point i).live := by
    obtain ⟨o, v, rfl⟩ := h.same
    rfl
  have set := h.blind (g := fun s => s.setLive i new) fun _ _ _ => rfl
  unfold Machine.commitLive
  rw [record]
  exact (((set.reportFailed i _ _).reportBand i _ _).reportAsserted i _ _).handOff i _ _

/-! ## The Scanner (R46, R50, R55) -/

theorem Twin.setScannerWaiting (h : Twin p x s t) (b : Bool) : Twin p x (setScannerWaiting b s) (setScannerWaiting b t) :=
  h.blind fun _ _ _ => rfl

theorem Twin.endOverrun (h : Twin p x s t) : Twin p x (endOverrun none s) (endOverrun (some p) t) := by
  have ended := (h.blind (g := fun s => s.setScan { s.scan with overrun := false }) fun _ _ _ => rfl).reportActivity
    (.internal .scanOverrun) false
  obtain ⟨o, v, rfl⟩ := h.same
  exact .ite Iff.rfl ended h

theorem Twin.completeCycle (h : Twin p x s t) : Twin p x (completeCycle none s) (completeCycle (some p) t) := by
  have complete := h.blind (g := fun s => s.setScan { s.scan with
    cycleState := .idle
    passed := s.scan.list
    ahead := []
    cycleNumber := s.scan.cycleNumber + 1 }) fun _ _ _ => rfl
  obtain ⟨o, v, rfl⟩ := h.same
  exact .ite Iff.rfl complete complete.endOverrun

theorem Twin.walkOnce (h : Twin p x s t) : Twin p x (walkOnce none s) (walkOnce (some p) t) := by
  have waits := h.setScannerWaiting true
  have completes := h.completeCycle
  obtain ⟨o, v, rfl⟩ := h.same
  exact .ite Iff.rfl waits completes

theorem Twin.beginCycle (h : Twin p x s t) : Twin p x (beginCycle s) (beginCycle t) := h.blind fun _ _ _ => rfl

theorem Twin.walk (h : Twin p x s t) : Twin p x (walk none s) (walk (some p) t) := by
  have waits := h.setScannerWaiting true
  have ends : Twin p x
      (if (Machine.completeCycle none s).scan.heldStart then Machine.walkOnce none (Machine.beginCycle (Machine.completeCycle none s))
        else Machine.completeCycle none s)
      (if (Machine.completeCycle (some p) t).scan.heldStart
        then Machine.walkOnce (some p) (Machine.beginCycle (Machine.completeCycle (some p) t))
        else Machine.completeCycle (some p) t) := by
    have completes := h.completeCycle
    generalize Machine.completeCycle none s = u at completes ⊢
    generalize Machine.completeCycle (some p) t = w at completes ⊢
    have restarts := completes.beginCycle.walkOnce
    obtain ⟨o, v, rfl⟩ := completes.same
    exact .ite Iff.rfl restarts completes
  obtain ⟨o, v, rfl⟩ := h.same
  exact .ite Iff.rfl (.ite Iff.rfl waits ends) h

theorem Twin.startCycle (h : Twin p x s t) : Twin p x (startCycle none s) (startCycle (some p) t) := h.beginCycle.walk

end twin

end Sys2Proof.Machine
end

section
/-! SUPPORT. The two runs, with the full output queue and with the empty one, through each request row whose response is formed when
the request is taken (R124, R174). -/

set_option Elab.async false

namespace Sys2Proof.Machine

/-! ## What both runs read alike -/

/-- The two runs have served the request alike: one response, and states that differ in the output queue as before. -/
structure ServedTwin (p : Port) (x : PortState) (a b : Served) : Prop where
  twin : Twin p x a.1 b.1
  same : b.2 = a.2
  formed : a.2.isSome = true

section rows
variable {p : Port} {x : PortState} {s t : State}

/-- What does not depend on the output queue is the same in both runs. -/
theorem Twin.read {α : Sort*} (h : Twin p x s t) (f : State → α) (hf : ∀ o v, f (queued p o v s) = f s := by exact fun _ _ => rfl) :
    f t = f s := by
  obtain ⟨o, v, rfl⟩ := h.same
  exact hf o v

/-- A branch on what does not depend on the output queue. -/
theorem Twin.branch (h : Twin p x s t) (c : State → Prop) [DecidablePred c] {s₁ s₂ t₁ t₂ : State} (h₁ : Twin p x s₁ t₁)
    (h₂ : Twin p x s₂ t₂) (hc : ∀ o v, c (queued p o v s) = c s := by exact fun _ _ => rfl) :
    Twin p x (if c s then s₁ else s₂) (if c t then t₁ else t₂) := .ite (iff_of_eq (h.read c hc)) h₁ h₂

theorem Twin.served (h : Twin p x s t) {r r' : Reply} (hr : r' = r := by rfl) : ServedTwin p x (s, some r) (t, some r') :=
  ⟨h, congrArg some hr, rfl⟩

/-- The response reads what does not depend on the output queue. -/
theorem Twin.served_read (h : Twin p x s t) (f : State → List Byte) (hf : ∀ o v, f (queued p o v s) = f s := by exact fun _ _ => rfl) :
    ServedTwin p x (s, some ⟨.ok, f s⟩) (t, some ⟨.ok, f t⟩) := h.served (congrArg (Reply.mk .ok) (h.read f hf))

theorem ServedTwin.ite {c c' : Prop} [Decidable c] [Decidable c'] {a a' b b' : Served} (hc : c' ↔ c) (h : ServedTwin p x a a')
    (k : ServedTwin p x b b') : ServedTwin p x (if c then a else b) (if c' then a' else b') := by
  by_cases hs : c
  · rwa [if_pos hs, if_pos (hc.2 hs)]
  · rwa [if_neg hs, if_neg (mt hc.1 hs)]

/-- A check that does not depend on the output queue. -/
theorem Twin.check (h : Twin p x s t) (c : State → Prop) [DecidablePred c] {a a' b b' : Served} (h₁ : ServedTwin p x a a')
    (h₂ : ServedTwin p x b b') (hc : ∀ o v, c (queued p o v s) = c s := by exact fun _ _ => rfl) :
    ServedTwin p x (if c s then a else b) (if c t then a' else b') := .ite (iff_of_eq (h.read c hc)) h₁ h₂

/-! ## The Point Table -/

theorem Twin.removePointNotices (h : Twin p x s t) (i : PointIx) :
    Twin p x (removePointNotices i s) (removePointNotices i t) := h.blind fun _ _ _ => rfl

theorem Twin.acceptDefine (h : Twin p x s t) (i : PointIx) (new : Descriptor) :
    Twin p x (acceptDefine none i new s) (acceptDefine (some p) i new t) := by
  have entry : t.point i = s.point i := h.read (·.point i)
  have removed := Twin.ite (c := (s.point i).desc.isSome = true) Iff.rfl (h.removePointNotices i) h
  have reset := (removed.blind (g := fun s' => s'.setPoint i ((s.point i).resetRecord (.defined new))) fun _ _ _ => rfl).settle
  have gated := Twin.ite (c := (s.point i).live.asserted = true) Iff.rfl (reset.reevaluateGated i) reset
  unfold Machine.acceptDefine
  rw [entry]
  exact gated.branch (fun u => (s.point i).live.band ≠ .normal ∧ u.economyTrigger = some i) gated.reevaluateClock gated

theorem Twin.serveDefinePoint (h : Twin p x s t) (req : Request) :
    ServedTwin p x (serveDefinePoint none req s) (serveDefinePoint (some p) req t) := by
  unfold Machine.serveDefinePoint
  refine h.check (fun s => defineInUse s _ _ = true) h.served ?_
  cases descriptorOf (req.body.drop 1) with
  | none => exact h.served
  | some new =>
    exact h.check (fun s => (!descriptorValid s _ new || !addressValid s new) = true) h.served <|
      h.check (fun s => tagTaken s _ new.tag = true) h.served (h.acceptDefine _ new).served

theorem Twin.acceptLimits (h : Twin p x s t) (i : PointIx) (old new : Descriptor) :
    Twin p x (acceptLimits none i old new s) (acceptLimits (some p) i old new t) := by
  have replaced := (h.blind (g := fun s => s.setPoint i { s.point i with
    state := (s.point i).state.withDesc new
    live := { (s.point i).live with candidate := none, count := 0 } }) fun _ _ _ => rfl).settle
  exact .ite Iff.rfl replaced (replaced.reevaluateAsserted i)

theorem Twin.serveSetLimits (h : Twin p x s t) (req : Request) :
    ServedTwin p x (serveSetLimits none req s) (serveSetLimits (some p) req t) := by
  unfold Machine.serveSetLimits
  dsimp only
  generalize pointIxOf (byteAt req.body 0) = i
  rw [h.read (·.descOf i)]
  cases s.descOf i with
  | none => exact h.served
  | some old =>
    dsimp only
    cases limitsOf old (req.body.drop 1) with
    | none => exact h.served
    | some new => exact h.check (fun s => descriptorValid s _ new = true) (h.acceptLimits _ old new).served h.served

theorem Twin.serveUndefinePoint (h : Twin p x s t) (req : Request) :
    ServedTwin p x (serveUndefinePoint none req s) (serveUndefinePoint (some p) req t) := by
  unfold Machine.serveUndefinePoint
  dsimp only
  generalize pointIxOf (byteAt req.body 0) = i
  rw [h.read (·.descOf i)]
  cases s.descOf i with
  | none => exact h.served
  | some old =>
    have reset := h.blind (g := fun s => (Machine.removePointNotices i s).setPoint
      i ((s.point i).resetRecord .undefined)) fun _ _ _ => rfl
    exact h.check (fun s => undefineInUse s _ = true) h.served reset.settle.served

theorem Twin.serveReadPoint (h : Twin p x s t) (req : Request) :
    ServedTwin p x (serveReadPoint none req s) (serveReadPoint (some p) req t) := by
  unfold Machine.serveReadPoint
  dsimp only
  generalize pointIxOf (byteAt req.body 0) = i
  rw [h.read (·.point i)]
  cases (s.point i).desc with
  | none => exact h.served
  | some desc => exact h.served

theorem Twin.serveReadPoints (h : Twin p x s t) (req : Request) :
    ServedTwin p x (serveReadPoints none req s) (serveReadPoints (some p) req t) :=
  .ite Iff.rfl h.served (h.served_read (shortRecords · _ _))

theorem Twin.serveFindTag (h : Twin p x s t) (req : Request) :
    ServedTwin p x (serveFindTag none req s) (serveFindTag (some p) req t) := by
  unfold Machine.serveFindTag
  rw [h.read (findTag · (word32At req.body 0))]
  cases findTag s (word32At req.body 0) with
  | none => exact h.served
  | some i => exact h.served_read fun s => [pointByte i, (s.point i).state.code]

/-- What the response to a request on a live record reads of it. -/
theorem Twin.served_live (h : Twin p x s t) (f : LiveRecord → List Byte) (i : PointIx) :
    ServedTwin p x (s, some ⟨.ok, f (s.point i).live⟩) (t, some ⟨.ok, f (t.point i).live⟩) :=
  h.served_read fun s => f (s.point i).live

theorem Twin.serveForcePoint (h : Twin p x s t) (q : Port) (req : Request) :
    ServedTwin p x (serveForcePoint q none req s) (serveForcePoint q (some p) req t) := by
  unfold Machine.serveForcePoint
  dsimp only
  generalize pointIxOf (byteAt req.body 0) = i
  rw [h.read (·.descOf i), h.read (·.point i)]
  cases s.descOf i with
  | none => exact h.served
  | some desc => exact .ite Iff.rfl h.served <| .ite Iff.rfl h.served ((h.commitLive _ _).served_live (liveBytes desc) _)

theorem Twin.serveUnforcePoint (h : Twin p x s t) (q : Port) (req : Request) :
    ServedTwin p x (serveUnforcePoint q none req s) (serveUnforcePoint q (some p) req t) := by
  unfold Machine.serveUnforcePoint
  dsimp only
  generalize pointIxOf (byteAt req.body 0) = i
  rw [h.read (·.descOf i), h.read (·.point i)]
  cases s.descOf i with
  | none => exact h.served
  | some desc => exact .ite Iff.rfl h.served ((Twin.ite Iff.rfl (h.commitLive _ _) h).served_live (liveBytes desc) _)

theorem Twin.serveClearAsserted (h : Twin p x s t) (q : Port) (req : Request) :
    ServedTwin p x (serveClearAsserted q none req s) (serveClearAsserted q (some p) req t) := by
  unfold Machine.serveClearAsserted
  dsimp only
  generalize pointIxOf (byteAt req.body 0) = i
  rw [h.read (·.descOf i), h.read (·.point i)]
  cases s.descOf i with
  | none => exact h.served
  | some desc =>
    exact .ite Iff.rfl h.served <| .ite Iff.rfl h.served <|
      (h.commitLive _ _).served_live (fun l => [boolByte l.level, boolByte l.asserted]) _

/-! ## The Scanner -/

theorem Twin.scanAnswer (h : Twin p x s t) : ServedTwin p x (scanAnswer s) (scanAnswer t) :=
  h.served_read fun s => [s.scan.scanState.code, s.scan.cycleState.code]

theorem Twin.serveStartScan (h : Twin p x s t) (req : Request) :
    ServedTwin p x (serveStartScan none req s) (serveStartScan (some p) req t) := by
  have runs := h.blind (g := fun s => s.setScan { s.scan with scanState := .running }) fun _ _ _ => rfl
  have holds := h.blind (g := fun s => s.setScan { s.scan with scanState := .running, heldStart := true }) fun _ _ _ => rfl
  exact h.check (·.scan.scanState = .running) h.scanAnswer <|
    h.check (·.scan.cycleState = .idle) runs.startCycle.scanAnswer holds.scanAnswer

theorem Twin.serveStopScan (h : Twin p x s t) (req : Request) :
    ServedTwin p x (serveStopScan none req s) (serveStopScan (some p) req t) := by
  have stops := h.blind (g := fun s => s.setScan { s.scan with
    scanState := .stopped
    periodTimer := none
    heldStart := false }) fun _ _ _ => rfl
  exact h.check (·.scan.scanState = .stopped) h.scanAnswer
    (stops.branch (·.scan.cycleState = .idle) stops.endOverrun stops).scanAnswer

theorem Twin.serveSetScanPeriod (h : Twin p x s t) (req : Request) :
    ServedTwin p x (serveSetScanPeriod none req s) (serveSetScanPeriod (some p) req t) :=
  (h.blind (g := fun s => s.setScan { s.scan with period := clampPeriod (word16At req.body 0).toNat }) fun _ _ _ => rfl).served

theorem Twin.serveScanAdd (h : Twin p x s t) (req : Request) :
    ServedTwin p x (serveScanAdd none req s) (serveScanAdd (some p) req t) := by
  unfold Machine.serveScanAdd
  dsimp only
  generalize pointIxOf (byteAt req.body 0) = i
  have added := fun desc => h.blind (g := fun s => (s.setPoint i
    { s.point i with state := .scanned desc, scanMark := true }).setScan
      (appendScan i s.scan)) fun _ _ _ => rfl
  have entry := h.read (·.point i)
  obtain ⟨o, v, rfl⟩ := h.same
  rw [entry]
  cases hs : (s.point i).state with
  | undefined => exact h.served
  | scanned desc => exact h.served
  | defined desc => exact (added desc).walk.served

theorem Twin.serveScanRemove (h : Twin p x s t) (req : Request) :
    ServedTwin p x (serveScanRemove none req s) (serveScanRemove (some p) req t) := by
  unfold Machine.serveScanRemove
  dsimp only
  generalize pointIxOf (byteAt req.body 0) = i
  have removed := fun desc => h.blind (g := fun s => (s.setPoint i
    { s.point i with
      state := .defined desc
      live := leftLive (s.point i).live }).setScan
        (removeScan i s.scan)) fun _ _ _ => rfl
  have entry := h.read (·.point i)
  obtain ⟨o, v, rfl⟩ := h.same
  rw [entry]
  cases hs : (s.point i).state with
  | undefined => exact h.served
  | defined desc => exact h.served
  | scanned desc => exact (removed desc).served

theorem Twin.serveReadScanList (h : Twin p x s t) (req : Request) :
    ServedTwin p x (serveReadScanList none req s) (serveReadScanList (some p) req t) := by
  obtain ⟨o, v, rfl⟩ := h.same
  exact h.served

/-! ## The Point Bus Controller -/

theorem Twin.serveSetModuleClass (h : Twin p x s t) (req : Request) :
    ServedTwin p x (serveSetModuleClass none req s) (serveSetModuleClass (some p) req t) := by
  unfold Machine.serveSetModuleClass
  cases classIxOf (byteAt req.body 0) with
  | none => exact h.served
  | some k =>
    cases classRecordOf req.body with
    | none => exact h.served
    | some c =>
      exact (h.blind (g := fun s => s.setBus { s.bus with classes := s.bus.classes.set k.val c k.isLt }) fun _ _ _ => rfl).served

theorem Twin.serveAssignModuleClass (h : Twin p x s t) (req : Request) :
    ServedTwin p x (serveAssignModuleClass none req s) (serveAssignModuleClass (some p) req t) := by
  unfold Machine.serveAssignModuleClass
  cases modIxOf (byteAt req.body 0) with
  | none => exact h.served
  | some m =>
    cases classIxOf (byteAt req.body 1) with
    | none => exact h.served
    | some k =>
      exact (h.blind (g := fun s => s.setBus { s.bus with map := s.bus.map.set m.val k m.isLt }) fun _ _ _ => rfl).served

theorem Twin.serveReadModuleClasses (h : Twin p x s t) (req : Request) :
    ServedTwin p x (serveReadModuleClasses none req s) (serveReadModuleClasses (some p) req t) := by
  obtain ⟨o, v, rfl⟩ := h.same
  exact h.served

/-! ## Clock Control -/

theorem Twin.serveSetEconomy (h : Twin p x s t) (req : Request) :
    ServedTwin p x (serveSetEconomy none req s) (serveSetEconomy (some p) req t) := by
  unfold Machine.serveSetEconomy
  cases economyModeOf (byteAt req.body 0) with
  | none => exact h.served
  | some m =>
    have acted := (h.blind (g := fun s => s.setClock { s.clock with mode := m }) fun _ _ _ => rfl).reevaluateClock
    exact acted.served_read fun s => [s.clock.mode.code, s.clock.wanted.code, s.clock.clockState.code]

/-! ## The Notice Table -/

theorem Twin.updateNotice (h : Twin p x s t) (n : NoticeId) (f : Notice → Notice) :
    Twin p x (updateNotice n f s) (updateNotice n f t) := h.blind fun _ _ _ => rfl

theorem Twin.removeNotice (h : Twin p x s t) (n : NoticeId) : Twin p x (removeNotice n s) (removeNotice n t) :=
  h.blind fun _ _ _ => rfl

theorem Twin.acknowledge (h : Twin p x s t) (q : Port) (n : Notice) :
    ServedTwin p x (acknowledge q none n s) (acknowledge q (some p) n t) := by
  unfold Machine.acknowledge
  cases n.state with
  | acked => exact h.served
  | raised => exact (h.updateNotice n.id _).settle.served
  | returned => exact (h.removeNotice n.id).settle.served

theorem Twin.serveAckNotice (h : Twin p x s t) (q : Port) (req : Request) :
    ServedTwin p x (serveAckNotice q none req s) (serveAckNotice q (some p) req t) := by
  unfold Machine.serveAckNotice
  cases noticeIdOf (byteAt req.body 0) (byteAt req.body 1) (byteAt req.body 2) with
  | none => exact h.served
  | some id =>
    dsimp only
    rw [h.read (findNotice · id)]
    cases findNotice s id with
    | none => exact h.served
    | some n => exact h.check (fun s => (maskOfNotice s n).get q = true) (h.acknowledge q n) h.served

theorem Twin.setPosting (h : Twin p x s t) (k : SlotIx) (y : Option Posting) :
    Twin p x (setPosting k y s) (setPosting k y t) := h.blind fun _ _ _ => rfl

theorem Twin.served_entry (h : Twin p x s t) (f : Byte → List Byte) (k : SlotIx) :
    ServedTwin p x (s, some ⟨.ok, f (entryOutcome s k)⟩) (t, some ⟨.ok, f (entryOutcome t k)⟩) :=
  h.served_read fun s => f (entryOutcome s k)

theorem Twin.servePost (h : Twin p x s t) (q : Port) (req : Request) :
    ServedTwin p x (servePost q none req s) (servePost q (some p) req t) := by
  unfold Machine.servePost
  cases postingOf q req.body with
  | none => exact h.served
  | some posted =>
    obtain ⟨k, y⟩ := posted
    have accepted := ((h.setPosting k (some y)).blind (postEntry_blind k y)
      (fun hi => hi.of_frame (postEntry_frame _ k y))).settle.served_entry (fun b => [natByte k.val, Port.code q, b]) k
    dsimp only
    rw [h.read (posterOf · k)]
    cases posterOf s k with
    | none => exact accepted
    | some poster => exact .ite Iff.rfl accepted h.served

theorem Twin.serveUnpost (h : Twin p x s t) (q : Port) (req : Request) :
    ServedTwin p x (serveUnpost q none req s) (serveUnpost q (some p) req t) := by
  unfold Machine.serveUnpost
  cases slotIxOf (byteAt req.body 0) with
  | none => exact h.served
  | some k =>
    dsimp only
    rw [h.read (posterOf · k)]
    cases posterOf s k with
    | none => exact h.served
    | some poster =>
      exact .ite Iff.rfl (((h.setPosting k none).report _ _).served_entry (fun b => [b]) k) h.served

theorem Twin.setThreshold (h : Twin p x s t) {g : Nat} (hg : g < 7) (n : Nat) :
    Twin p x (s.setNotices { s.notices with thresholds := s.notices.thresholds.set g n hg })
      (t.setNotices { t.notices with thresholds := t.notices.thresholds.set g n hg }) :=
  h.blind (g := fun s => s.setNotices { s.notices with thresholds := s.notices.thresholds.set g n hg }) fun _ _ _ => rfl

theorem Twin.served_thresholds (h : Twin p x s t) :
    ServedTwin p x (answer s ⟨.ok, s.notices.thresholds.toList.map natByte⟩)
      (answer t ⟨.ok, t.notices.thresholds.toList.map natByte⟩) :=
  h.served_read fun s => s.notices.thresholds.toList.map natByte

theorem Twin.serveSetGroupThreshold (h : Twin p x s t) (req : Request) :
    ServedTwin p x (serveSetGroupThreshold none req s) (serveSetGroupThreshold (some p) req t) := by
  unfold Machine.serveSetGroupThreshold
  dsimp only
  split
  · exact (h.setThreshold _ _).settle.served_thresholds
  · exact h.served

/-! ## Notice Delivery -/

theorem Twin.noticeRecord (h : Twin p x s t) (q : Port) (n : Notice) : noticeRecord t q n = noticeRecord s q n :=
  h.read (Machine.noticeRecord · q n) fun o v =>
    noticeRecord_congr (s := s) (t := queued p o v s) rfl (fun _ => rfl) (fun _ => rfl) (queued_level s q) n

theorem Twin.serveFetchNotice (h : Twin p x s t) (q : Port) (req : Request) :
    ServedTwin p x (serveFetchNotice q none req s) (serveFetchNotice q (some p) req t) := by
  have urgent : mostUrgent t q = mostUrgent s q :=
    h.read (mostUrgent · q) fun _ _ => congrArg (firstBy fetchedBefore) (queued_offered s q)
  unfold Machine.serveFetchNotice
  rw [urgent]
  cases mostUrgent s q with
  | none => exact h.served
  | some n =>
    have marked := (h.updateNotice n.id (markDelivered q)).settle
    exact marked.served (congrArg (Reply.mk .ok) (marked.noticeRecord q _))

theorem Twin.serveFetchNoticeIdentity (h : Twin p x s t) (q : Port) (req : Request) :
    ServedTwin p x (serveFetchNoticeIdentity q none req s) (serveFetchNoticeIdentity q (some p) req t) := by
  unfold Machine.serveFetchNoticeIdentity
  cases noticeIdOf (byteAt req.body 0) (byteAt req.body 1) (byteAt req.body 2) with
  | none => exact h.served
  | some id =>
    dsimp only
    rw [h.read (findNotice · id)]
    cases findNotice s id with
    | none => exact h.served
    | some n =>
      exact h.check (fun s => (maskOfNotice s n).get q = true) (h.served (congrArg (Reply.mk .ok) (h.noticeRecord q n))) h.served

theorem Twin.setLevel (h : Twin p x s t) (q : Port) (n : Nat) :
    Twin p x (s.setPort q { s.port q with level := n }) (t.setPort q { t.port q with level := n }) := by
  by_cases hq : q = p
  · subst hq
    refine ⟨?_, ?_, h.full, ?_, ?_, ?_, ?_, ?_, h.items⟩
    · obtain ⟨o, v, rfl⟩ := h.same
      exact ⟨o, v, by cases q <;> rfl⟩
    · rw [setPort_port_self]
      exact h.empty
    · rw [setPort_port_self]
      exact h.length
    · rw [setPort_port_self]
      exact h.receiver
    · rw [setPort_port_self]
      exact h.requests
    · rw [setPort_port_self]
      exact h.executor
    · rw [setPort_port_self]
      exact h.transmitter
  · refine h.map (g := fun s => s.setPort q { s.port q with level := n }) (fun o v => ?_) (setPort_port_ne s (Ne.symm hq) _) h.items
    dsimp only
    rw [queued_port_ne s hq, queued_setPort_ne s hq]

theorem Twin.serveSetLevel (h : Twin p x s t) (q : Port) (req : Request) :
    ServedTwin p x (serveSetLevel q none req s) (serveSetLevel q (some p) req t) := (h.setLevel q _).settle.served

theorem Twin.serveReadSummary (h : Twin p x s t) (q : Port) (req : Request) :
    ServedTwin p x (serveReadSummary q none req s) (serveReadSummary q (some p) req t) := by
  have record : summaryRecord t q = summaryRecord s q := h.read (summaryRecord · q) fun _ _ => by
    simp only [summaryRecord, offerableCount, queued_offered, queued_level, queued_linkUp]
    rfl
  exact (h.blind (g := fun s => s.setNotices { s.notices with lost := s.notices.lost.set q false }) fun _ _ _ => rfl).served
    (congrArg (Reply.mk .ok) record)

/-! ## The Actuator Unit -/

theorem Twin.clearFault (h : Twin p x s t) (i : ActIx) : Twin p x (clearFault none i s) (clearFault (some p) i t) := by
  have cleared := h.blind (g := fun s => s.setActuator i { s.actuator i with fault := false }) fun _ _ _ => rfl
  exact h.branch (fun s => (s.actuator i).fault = true) (cleared.report _ _) h

theorem Twin.dropPending (h : Twin p x s t) (i : ActIx) : Twin p x (dropPending i s) (dropPending i t) :=
  h.blind (g := Machine.dropPending i) (fun _ _ _ => rfl) fun hi w hw => hi w (List.mem_of_mem_filter hw)

theorem Twin.setActuator (h : Twin p x s t) (i : ActIx) (e : ActuatorEntry) : Twin p x (s.setActuator i e) (t.setActuator i e) :=
  h.blind (g := (·.setActuator i e)) fun _ _ _ => rfl

theorem Twin.startHeld (h : Twin p x s t) (i : ActIx) (new : ActDescriptor) :
    Twin p x (startHeld i new s) (startHeld i new t) := by
  have restarted := h.blind (restartRefresh_blind i) fun hi => hi.of_workKept (.of_workList (restartRefresh_work s i).1)
  have moment : nextMoment t = nextMoment s := h.read nextMoment
  unfold Machine.startHeld
  rw [moment]
  exact .ite Iff.rfl (restarted.queuePolicy _ i) h

theorem Twin.acceptActuator (h : Twin p x s t) (i : ActIx) (new : ActDescriptor) :
    Twin p x (acceptActuator none i new s) (acceptActuator (some p) i new t) :=
  ((((h.clearFault i).dropPending i).setActuator i _).settle).startHeld i new

theorem Twin.serveDefineActuator (h : Twin p x s t) (req : Request) :
    ServedTwin p x (serveDefineActuator none req s) (serveDefineActuator (some p) req t) := by
  unfold Machine.serveDefineActuator
  cases actIxOf (byteAt req.body 0) with
  | none => exact h.served
  | some i =>
    cases actDescriptorOf (req.body.drop 1) with
    | none => exact h.served
    | some new =>
      have expired := h.takeExpiry i
      exact expired.check (fun s => actuatorInUse s i = true) expired.served <|
        expired.check (fun s => (!feedbackDefined s new || !actuatorAddressable s new) = true) expired.served
          (expired.acceptActuator i new).served

theorem Twin.acceptUndefineActuator (h : Twin p x s t) (i : ActIx) :
    Twin p x (acceptUndefineActuator none i s) (acceptUndefineActuator (some p) i t) :=
  (((h.removeNotice _).dropPending i).setActuator i _).settle

theorem Twin.serveUndefineActuator (h : Twin p x s t) (req : Request) :
    ServedTwin p x (serveUndefineActuator none req s) (serveUndefineActuator (some p) req t) := by
  unfold Machine.serveUndefineActuator
  cases actIxOf (byteAt req.body 0) with
  | none => exact h.served
  | some i =>
    have expired := h.takeExpiry i
    exact expired.check (fun s => (s.actuator i).desc = none) expired.served <|
      expired.check (fun s => actuatorInUse s i = true) expired.served (expired.acceptUndefineActuator i).served

theorem Twin.serveReadActuator (h : Twin p x s t) (req : Request) :
    ServedTwin p x (serveReadActuator none req s) (serveReadActuator (some p) req t) := by
  unfold Machine.serveReadActuator
  cases actIxOf (byteAt req.body 0) with
  | none => exact h.served
  | some i =>
    have expired := h.takeExpiry i
    have entry := expired.read (·.actuator i)
    have work := expired.read (·.acts.workList)
    dsimp only at entry work ⊢
    rw [entry, work]
    cases ((Machine.takeExpiry i s).actuator i).desc with
    | none => exact expired.served
    | some desc => exact expired.served

/-- A request with the checks of R143, where what follows the checks serves both runs alike. -/
theorem Twin.serveActuator (h : Twin p x s t) (q : Port) (k : ActRequest) (v : Word16) (req : Request) {f : ActIx → State → Served}
    (hf : ∀ i {s t}, Twin p x s t → ServedTwin p x (f i s) (f i t)) :
    ServedTwin p x (serveActuator q k v req f s) (serveActuator q k v req f t) := by
  unfold Machine.serveActuator
  cases actIxOf (byteAt req.body 0) with
  | none => exact h.served
  | some i =>
    have expired := h.takeExpiry i
    dsimp only
    rw [expired.read (checkActuator · q k i v)]
    cases checkActuator (Machine.takeExpiry i s) q k i v with
    | none => exact hf i expired
    | some r => exact expired.served

theorem Twin.served_claim (h : Twin p x s t) (i : ActIx) : ServedTwin p x (s, some ⟨.ok, claimPart i (s.actuator i)⟩)
    (t, some ⟨.ok, claimPart i (t.actuator i)⟩) := h.served_read fun s => claimPart i (s.actuator i)

theorem Twin.serveClaim (h : Twin p x s t) (q : Port) (req : Request) :
    ServedTwin p x (serveClaim q none req s) (serveClaim q (some p) req t) :=
  h.serveActuator q .claim 0 req fun i _ _ h =>
    (h.blind (g := takeClaim i q (clampLease (word16At req.body 1).toNat)) fun _ _ _ => rfl).served_claim i

theorem Twin.serveRelease (h : Twin p x s t) (q : Port) (req : Request) :
    ServedTwin p x (serveRelease q none req s) (serveRelease q (some p) req t) :=
  h.serveActuator q .release 0 req fun i s t h => by
    rw [h.read nextMoment]
    exact (h.endClaim (nextMoment s) i).served_claim i

/-! ## Settings and identity -/

theorem Twin.acceptSitePoints (h : Twin p x s t) (a b : Option PointIx) :
    Twin p x (acceptSitePoints none a b s) (acceptSitePoints (some p) a b t) := by
  have replaced := h.blind (g := fun s => { s with siteLocal := a, economyTrigger := b }) fun _ _ _ => rfl
  have clocked := h.branch (fun s => b ≠ s.economyTrigger) replaced.reevaluateClock replaced
  have changed : t.siteLocal = s.siteLocal := h.read (·.siteLocal)
  unfold Machine.acceptSitePoints
  rw [changed]
  exact clocked.branch (fun u => a ≠ s.siteLocal ∧ siteAsserted u = true) clocked.endRouteClaims clocked

theorem Twin.serveSetSitePoints (h : Twin p x s t) (req : Request) :
    ServedTwin p x (serveSetSitePoints none req s) (serveSetSitePoints (some p) req t) :=
  h.check (fun s => (!refDefined s _ || !refDefined s _) = true) h.served <|
    h.check (fun s => (!refOfKind s _ true || !refOfKind s _ false) = true) h.served (h.acceptSitePoints _ _).served

theorem Twin.serveIdentify (h : Twin p x s t) (req : Request) :
    ServedTwin p x (serveIdentify none req s) (serveIdentify (some p) req t) :=
  h.served_read fun s => identityBytes s.baud s.uptime

theorem Twin.serveRestartSupervision (h : Twin p x s t) (req : Request) :
    ServedTwin p x (serveRestartSupervision none req s) (serveRestartSupervision (some p) req t) := h.served

end rows

/-! ## The Hut Port's own rows -/

section hut
variable {x : PortState} {s t : State}

theorem Twin.setPermission (h : Twin .hut x s t) (r : RoutePort) (y : Bool × Bool × Option (ModIx × ModIx)) :
    Twin .hut x (setPermission r y s) (setPermission r y t) := h.map (fun _ _ => rfl) rfl h.items

theorem Twin.serveSetPermissions (h : Twin .hut x s t) (req : Request) :
    ServedTwin .hut x (serveSetPermissions none req s) (serveSetPermissions (some .hut) req t) := by
  unfold Machine.serveSetPermissions
  cases permissionOf req.body 0 with
  | none => exact h.served
  | some e =>
    cases permissionOf req.body 3 with
    | none => exact h.served
    | some w =>
      have replaced := (h.setPermission .east e).setPermission .west w
      exact replaced.served_read fun s => permissionBytes (s.route .east) ++ permissionBytes (s.route .west)

theorem Twin.serveTakeReferral (h : Twin .hut x s t) (req : Request) :
    ServedTwin .hut x (serveTakeReferral none req s) (serveTakeReferral (some .hut) req t) := by
  unfold Machine.serveTakeReferral
  rw [h.read (oldestSlot · ReferralSlot.isUntaken)]
  cases oldestSlot s ReferralSlot.isUntaken with
  | none => exact h.served
  | some k =>
    dsimp only
    rw [h.read (·.slot k)]
    cases s.slot k with
    | untaken r age =>
      have taken := h.blind (g := fun s => s.setSlot k (.taken r age)) fun _ _ _ => rfl
      exact taken.served_read fun s => referralBytes k r (age.getD 0) (untakenCount s)
    | free | taken r age | answered r a => exact h.served

theorem toPort_ne_hut (r : RoutePort) : toPort r ≠ .hut := by cases r <;> decide

theorem placeAnswer_hut (k : ReferralIx) (r : Referral) (c : Byte) (b : List Byte) :
    (placeAnswer k r c b s).port .hut = s.port .hut := by
  unfold placeAnswer
  split
  · rw [setSlot_port, placeResponse, pushFrame_port, if_neg (toPort_ne_hut r.origin).symm]
  · rfl

theorem queued_placeAnswer_hut (k : ReferralIx) (r : Referral) (c : Byte) (b : List Byte) (o : List OutFrame) (v : Nat × Bool) :
    placeAnswer k r c b (queued .hut o v s) = queued .hut o v (placeAnswer k r c b s) := by
  have origin := toPort_ne_hut r.origin
  unfold placeAnswer
  rw [queued_hasRoom_ne s origin, placeResponse, queued_port_ne s origin, queued_pushFrame_ne s origin, placeResponse]
  split <;> rfl

theorem Twin.placeAnswer (h : Twin .hut x s t) (k : ReferralIx) (r : Referral) (c : Byte) (b : List Byte) :
    Twin .hut x (placeAnswer k r c b s) (placeAnswer k r c b t) :=
  h.map (queued_placeAnswer_hut k r c b) (placeAnswer_hut k r c b) (h.items.of_frame (placeAnswer_frame s k r c b))

theorem Twin.serveAnswerReferral (h : Twin .hut x s t) (req : Request) :
    ServedTwin .hut x (serveAnswerReferral none req s) (serveAnswerReferral (some .hut) req t) := by
  unfold Machine.serveAnswerReferral
  cases referralIxOf (byteAt req.body 0) with
  | none => exact h.served
  | some k =>
    refine .ite Iff.rfl h.served ?_
    rw [h.read (·.slot k)]
    cases s.slot k with
    | taken r age =>
      refine (h.placeAnswer k r _ _).served ?_
      rw [h.read (hasRoom · (toPort r.origin)) fun _ _ => queued_hasRoom_ne s (toPort_ne_hut _)]
    | free | untaken r age | answered r a => exact h.served

end hut

end Sys2Proof.Machine
end

section
/-! PROOFS. The response that waits for room (O11). The run with the full output queue is compared with the run with the empty one. -/

set_option Elab.async false

namespace Sys2Proof.Machine

/-! ## Comparing two states -/

theorem ChangesOnly.symm {l : List Block} {s t : State} (h : ChangesOnly l s t) : ChangesOnly l t s := by
  intro b hb
  have same := h b hb
  cases b with
  | pins => exact ⟨same.1.symm, same.2.1.symm, same.2.2.symm⟩
  | site => exact ⟨same.1.symm, same.2.symm⟩
  | points | scan | bus | arb | clock | notices | ports | routes | hreq | acts | link | restart | uptime | queue => exact Eq.symm same

/-- States that differ in ports and routes alone. -/
theorem eq_withPorts {s t : State} (h : ChangesOnly [.ports, .routes] s t) : t = withPorts t.ports t.routes s := by
  obtain ⟨por, straps, baud⟩ := h .pins (by decide)
  obtain ⟨siteLocal, trigger⟩ := h .site (by decide)
  have points := h.points
  have scan := h.scan
  have bus := h.bus
  have arb := h.arb
  have clock := h.clock
  have notices := h.notices
  have hreq := h.hreq
  have acts := h.acts
  have link := h.link
  have restart := h.restart
  have uptime := h.uptime
  have pending := h.pending
  cases s
  cases t
  simp_all only [withPorts]

theorem withPorts_frame (P : PerPort PortState) (R : PerRoute RouteState) (s : State) :
    ChangesOnly [.ports, .routes] s (withPorts P R s) := by
  intro b hb
  cases b <;> simp_all [Block.same, withPorts]

/-! ## The two runs of a request -/

/-- Port p takes req while its output queue is full and no COMMAND or EXCHANGE of it waits. -/
structure Blocked (s : State) (p : Port) (req : Request) : Prop extends Taken s p req where
  full : Config.outputPlaces ≤ (s.port p).output.length
  items : NoItems p s

/-- The state with port p's output queue empty. -/
def emptied (p : Port) (s : State) : State := s.setPort p { s.port p with output := [] }

/-- The port once its executor has taken the request. -/
def servingPort (s : State) (p : Port) (req : Request) : PortState :=
  { s.port p with requests := (s.port p).requests.tail, executor := .serving req }

/-- The response waits in port p's executor, and the rest of the port is as taking the request leaves it. -/
structure Waits (p : Port) (req : Request) (reply : Reply) (s t : State) : Prop where
  executor : (t.port p).executor = .waitingForRoom req reply
  length : (t.port p).output.length = (s.port p).output.length
  requests : (t.port p).requests = (s.port p).requests.tail
  transmitter : (t.port p).transmitter = (s.port p).transmitter
  receiver : (t.port p).receiver = (s.port p).receiver

/-- The response stands at the head of port p's output queue, with the port's summary. -/
def Leads (p : Port) (req : Request) (reply : Reply) (u : State) : Prop :=
  (u.port p).output.head? = some (replyFrame req reply (u.port p).summary)

/-- In outcome a the response waits in port p's executor, and outcome b places the same response and agrees in the rest. -/
def ResponseWaits (p : Port) (req : Request) (s : State) (a b : Outcome) : Prop :=
  ∃ t u reply, a = .next t ∧ (t.port p).executor = .waitingForRoom req reply
    ∧ (t.port p).output.length = (s.port p).output.length ∧ (t.port p).requests = (s.port p).requests.tail
    ∧ (t.port p).transmitter = (s.port p).transmitter ∧ (t.port p).receiver = (s.port p).receiver
    ∧ b = .next u
    ∧ (u.port p).output.head? = some (responseFrame req.kind req.tag reply.result.code (u.port p).summary reply.body
      (markOf req reply))
    ∧ ChangesOnly [.ports, .routes, .link, .restart, .hreq] u t

section waits
variable {p : Port} {req : Request} {reply : Reply} {s t u : State}

theorem Waits.responseWaits (ht : Waits p req reply s t) (hu : Leads p req reply u)
    (hf : ChangesOnly [.ports, .routes, .link, .restart] u t) :
    ResponseWaits p req s (.next (decideHreq t)) (.next (decideHreq u)) :=
  ⟨decideHreq t, decideHreq u, reply, rfl, ht.executor, ht.length, ht.requests, ht.transmitter, ht.receiver, rfl, hu,
    (decideHreq_frame u).symm.comp (hf.comp (decideHreq_frame t) (n := [.ports, .routes, .link, .restart, .hreq]))⟩

theorem Waits.of_port (h : Waits p req reply s t) (hp : u.port p = t.port p) : Waits p req reply s u := by
  refine ⟨?_, ?_, ?_, ?_, ?_⟩
  · rw [hp, h.executor]
  · rw [hp, h.length]
  · rw [hp, h.requests]
  · rw [hp, h.transmitter]
  · rw [hp, h.receiver]

theorem Blocked.emptied_taken (h : Blocked s p req) : Taken (emptied p s) p req :=
  ⟨h.por, h.restart, by rw [emptied, setPort_port_self]; exact h.executor, by rw [emptied, setPort_port_self]; exact h.queue⟩

theorem Blocked.deferral_full (h : Blocked s p req) : deferral s p = none :=
  if_neg (Bool.eq_false_iff.1 (decide_eq_false (Nat.not_lt.2 h.full)))

theorem deferral_emptied (s : State) (p : Port) : deferral (emptied p s) p = some p :=
  deferral_room (by rw [emptied, setPort_port_self]; exact Nat.zero_lt_succ 7)

/-- Both runs take the request. -/
theorem Blocked.twin (h : Blocked s p req) :
    Twin p (servingPort s p req) (takeHead p s) (takeHead p (emptied p s)) := by
  have serving : (takeHead p s).port p = servingPort s p req := by
    rw [takeHead_port h.queue, if_pos rfl]
    rfl
  obtain ⟨o, v, differ⟩ := setOutput_requeued s p []
  refine ⟨⟨o, v, ?_⟩, ?_, h.full, by rw [serving], by rw [serving], by rw [serving], by rw [serving], by rw [serving],
    h.items.of_frame (takeHead_frame s p)⟩
  · rw [takeHead_eq h.emptied_taken.queue, takeHead_eq h.queue, emptied, differ]
    cases p <;> rfl
  · rw [takeHead_port h.emptied_taken.queue, if_pos rfl, emptied, setPort_port_self]

/-- The row's response finds no room in the one run and an empty queue in the other. -/
theorem Twin.waits (h : Twin p (servingPort s p req) t u) (reply : Reply) : Waits p req reply s (respond p reply t) := by
  rw [respond_full reply h.executor (h.length ▸ h.full), State.setExecutor]
  refine ⟨?_, ?_, ?_, ?_, ?_⟩
  · rw [setPort_port_self]
  · rw [setPort_port_self]
    exact h.length
  · rw [setPort_port_self]
    exact h.requests
  · rw [setPort_port_self]
    exact h.transmitter
  · rw [setPort_port_self]
    exact h.receiver

theorem Twin.serving (h : Twin p (servingPort s p req) t u) : (u.port p).executor = .serving req := by
  have executor := h.executor
  obtain ⟨o, v, rfl⟩ := h.same
  rw [queued_port_self]
  exact executor

theorem Twin.respond_placed (h : Twin p (servingPort s p req) t u) (reply : Reply) :
    respond p reply u = placeReply p req reply u :=
  respond_room reply h.serving (by rw [h.empty]; exact Nat.zero_lt_succ 7)

theorem Twin.placed_port (h : Twin p (servingPort s p req) t u) (reply : Reply) : (respond p reply u).port p
    = { u.port p with executor := .idle, output := [replyFrame req reply (u.port p).summary] } := by
  rw [h.respond_placed, State.port, placeReply_ports, PerPort.get_set, if_pos rfl, h.empty, List.nil_append]

theorem Twin.leads (h : Twin p (servingPort s p req) t u) (reply : Reply) : Leads p req reply (respond p reply u) := by
  rw [Leads, h.placed_port, List.head?_cons]

theorem Twin.respond_frame (h : Twin p (servingPort s p req) t u) (reply : Reply) :
    ChangesOnly [.ports, .routes, .restart] (respond p reply u) (respond p reply t) := by
  have differ : ChangesOnly [.ports, .routes] u t := by
    obtain ⟨o, v, rfl⟩ := h.same
    exact (queued_frame t).symm
  exact (Machine.respond_frame u p reply).symm.comp (differ.comp (Machine.respond_frame t p reply) (n := [.ports, .routes, .restart]))

/-- A row that serves both runs alike has its response wait. -/
theorem Blocked.serve_waits (h : Blocked s p req) {accept : Request → Bool} (ha : accept req = true)
    {f : Option Port → Request → State → Served}
    (hf : ServedTwin p (servingPort s p req) (f none req (takeHead p s)) (f (some p) req (takeHead p (emptied p s)))) :
    ResponseWaits p req s (serve p accept f s) (serve p accept f (emptied p s)) := by
  rw [serve_eq h.toTaken ha, serve_eq h.emptied_taken ha, h.deferral_full, deferral_emptied]
  obtain ⟨twin, same, formed⟩ := hf
  generalize f none req (takeHead p s) = a at twin same formed ⊢
  generalize f (some p) req (takeHead p (emptied p s)) = b at twin same ⊢
  obtain ⟨a, reply⟩ := a
  obtain ⟨b, reply'⟩ := b
  obtain ⟨reply, rfl⟩ := Option.isSome_iff_exists.1 formed
  subst same
  exact (twin.waits reply).responseWaits (twin.leads reply) ((twin.respond_frame reply).mono)

end waits

/-! ## The pulse (R165) -/

theorem hutItemsGone_blind : PortBlind hutItemsGone := fun _ _ _ => rfl

/-- With no item of the hut waiting, the turn of an actuator places no response. -/
theorem endClaimOf_hut_withPorts {s : State} (h : NoItems .hut s) (m : Nat) (i : ActIx) (P : PerPort PortState)
    (R : PerRoute RouteState) : endClaimOf m isHut (withPorts P R s) i = withPorts P R (endClaimOf m isHut s i) := by
  have entry : (withPorts P R s).actuator i = s.actuator i := rfl
  unfold endClaimOf
  rw [entry]
  cases holder : (s.actuator i).holder with
  | none => rfl
  | some q =>
    dsimp only
    by_cases hut : isHut q = true
    · obtain rfl := of_decide_eq_true hut
      have freed : NoItems .hut (claimFreed i s) := h
      have freed' : NoItems .hut (claimFreed i (withPorts P R s)) := h
      rw [if_pos hut, if_pos hut, endClaim_held s holder, endClaim_held _ (entry ▸ holder), dismissCommand_noItems freed,
        dismissCommand_noItems freed']
      exact applyPolicy_blind m i P R (claimFreed i s)
    · rw [if_neg hut, if_neg hut]

theorem endHutTurns_withPorts (m : Nat) (l : List ActIx) {s : State} (h : NoItems .hut s) (P : PerPort PortState)
    (R : PerRoute RouteState) :
    l.foldl (endClaimOf m isHut) (withPorts P R s) = withPorts P R (l.foldl (endClaimOf m isHut) s) := by
  induction l generalizing s with
  | nil => rfl
  | cons i l ih =>
    rw [List.foldl_cons, List.foldl_cons, endClaimOf_hut_withPorts h, ih (h.of_workKept (endClaimOf_hut_quietEnd h m i).work)]

theorem endHutClaims_blind : PortBlind endHutClaims := fun P R s => by
  have moment : nextMoment (withPorts P R s) = nextMoment s := rfl
  rw [endHutClaims_eq, endHutClaims_eq, hutItemsGone_blind, endClaims_eq, endClaims_eq, moment,
    endHutTurns_withPorts _ _ (hutItemsGone_noItems s)]

/-- The hut path is cleared alike whatever the ports hold. -/
theorem hutPathCleared_frame_of {s t : State} (h : ChangesOnly [.ports, .routes] s t) :
    ChangesOnly [.ports, .routes] (hutPathCleared s) (hutPathCleared t) := by
  obtain ⟨P, hP⟩ : ∃ P, hutPortEmptied (withPorts t.ports t.routes s) = withPorts P t.routes (hutPortEmptied s) := ⟨_, rfl⟩
  rw [eq_withPorts h, hutPathCleared, hutPathCleared, hP, endHutClaims_blind]
  exact withPorts_frame _ _ _

/-- The pulse's start changes the other states alike too, and what follows changes ports, routes and slots. -/
theorem restartHut_frame_of {s t : State} (h : ChangesOnly [.ports, .routes] s t) :
    ChangesOnly [.ports, .routes, .link] (restartHut s) (restartHut t) := by
  have answers : ∀ s, ChangesOnly [.ports, .routes, .link] (hutPathCleared s) (restartHut s) := fun s =>
    ChangesOnly.foldl answerNoAnswer_frame slotIndices _
  exact (answers s).symm.comp ((hutPathCleared_frame_of h).comp (answers t) (n := [.ports, .routes, .link]))

/-- The pulse's start leaves a route port but for the NO_ANSWERs that find room. -/
theorem restartHut_port (s : State) (r : RoutePort) : ∃ frames : List OutFrame,
    frames.length ≤ Config.outputPlaces - (s.port (toPort r)).output.length
      ∧ (restartHut s).port (toPort r) = { s.port (toPort r) with output := (s.port (toPort r)).output ++ frames } := by
  have cleared := (hutPathCleared_cleared s).port r
  have given := (answerNoAnswers_given (hutPathCleared s)).port r
  rw [← restartHut_eq, placesLeft, cleared] at given
  exact ⟨_, by rw [List.length_map]; exact List.length_take_le _ _, given⟩

section restart
variable {r : RoutePort} {req : Request} {s : State}

theorem serveRestartHut_started (h : s.link.pulse = false) (d : Option Port) :
    serveRestartHut r d req s = (restartHut (respond (toPort r) (bare .ok) s), none) :=
  if_neg (by rw [h]; exact Bool.false_ne_true)

theorem serveRestartHut_running (h : s.link.pulse = true) (d : Option Port) : serveRestartHut r d req s = refuse s .busy :=
  if_pos h

theorem Blocked.restart_waits (h : Blocked s (toPort r) req) (ha : ofKind .restartHutController req = true)
    (hp : s.link.pulse = false) : ResponseWaits (toPort r) req s
      (serve (toPort r) (ofKind .restartHutController) (serveRestartHut r) s)
      (serve (toPort r) (ofKind .restartHutController) (serveRestartHut r) (emptied (toPort r) s)) := by
  have kind := kind_ne_restart (of_decide_eq_true ha) (by decide)
  have pulse₁ : (takeHead (toPort r) s).link.pulse = false := by rwa [takeHead_link]
  have pulse₂ : (takeHead (toPort r) (emptied (toPort r) s)).link.pulse = false := by rwa [takeHead_link]
  rw [serve_eq h.toTaken ha, serve_eq h.emptied_taken ha, serveRestartHut_started pulse₁, serveRestartHut_started pulse₂]
  have twin := h.twin
  have waits := twin.waits (bare .ok)
  have differ := (twin.respond_frame (bare .ok)).without (n := [.ports, .routes]) (b := .restart) <|
    (respond_restart_of_kind _ twin.executor kind _).trans <|
      (twin.read (·.restart)).symm.trans (respond_restart_of_kind _ twin.serving kind _).symm
  refine Waits.responseWaits (reply := bare .ok) ?_ ?_ ((restartHut_frame_of differ).mono)
  · obtain ⟨frames, few, port⟩ := restartHut_port (respond (toPort r) (bare .ok) (takeHead (toPort r) s)) r
    have noFrames : frames = [] := List.length_eq_zero_iff.1 (by
      have := waits.length
      have := h.full
      omega)
    subst noFrames
    rw [List.append_nil] at port
    exact waits.of_port port
  · obtain ⟨frames, -, port⟩ := restartHut_port (respond (toPort r) (bare .ok) (takeHead (toPort r) (emptied (toPort r) s))) r
    rw [Leads, finishService, port, twin.placed_port, List.cons_append, List.head?_cons]

/-- A second restart while the pulse runs is answered BUSY, and otherwise the pulse starts. -/
theorem Blocked.restartHutController_waits (h : Blocked s (toPort r) req) (ha : ofKind .restartHutController req = true) :
    ResponseWaits (toPort r) req s (exec (.restartHutController r) s)
      (exec (.restartHutController r) (emptied (toPort r) s)) := by
  cases pulse : s.link.pulse with
  | false => exact h.restart_waits ha pulse
  | true =>
    refine h.serve_waits ha ?_
    have pulse₁ : (takeHead (toPort r) s).link.pulse = true := by rwa [takeHead_link]
    have pulse₂ : (takeHead (toPort r) (emptied (toPort r) s)).link.pulse = true := by rwa [takeHead_link]
    rw [serveRestartHut_running pulse₁, serveRestartHut_running pulse₂]
    exact h.twin.served

end restart

/-! ## The obligation -/

/-- Every row whose response is formed when the request is taken serves both runs alike. -/
theorem Blocked.row_waits {c : Instr} {p : Port} {accept : Request → Bool} {req : Request} {s : State}
    (hc : answeringRow c = some (p, accept)) (h : Blocked s p req) (ha : accept req = true) :
    ResponseWaits p req s (exec c s) (exec c (emptied p s)) := by
  cases c with
  | definePoint => cases hc; exact h.serve_waits ha (h.twin.serveDefinePoint req)
  | setLimits => cases hc; exact h.serve_waits ha (h.twin.serveSetLimits req)
  | undefinePoint => cases hc; exact h.serve_waits ha (h.twin.serveUndefinePoint req)
  | readPoint => cases hc; exact h.serve_waits ha (h.twin.serveReadPoint req)
  | readPoints => cases hc; exact h.serve_waits ha (h.twin.serveReadPoints req)
  | findTag => cases hc; exact h.serve_waits ha (h.twin.serveFindTag req)
  | forcePoint => cases hc; exact h.serve_waits ha (h.twin.serveForcePoint p req)
  | unforcePoint => cases hc; exact h.serve_waits ha (h.twin.serveUnforcePoint p req)
  | clearAsserted => cases hc; exact h.serve_waits ha (h.twin.serveClearAsserted p req)
  | startScan => cases hc; exact h.serve_waits ha (h.twin.serveStartScan req)
  | stopScan => cases hc; exact h.serve_waits ha (h.twin.serveStopScan req)
  | setScanPeriod => cases hc; exact h.serve_waits ha (h.twin.serveSetScanPeriod req)
  | scanAdd => cases hc; exact h.serve_waits ha (h.twin.serveScanAdd req)
  | scanRemove => cases hc; exact h.serve_waits ha (h.twin.serveScanRemove req)
  | readScanList => cases hc; exact h.serve_waits ha (h.twin.serveReadScanList req)
  | setModuleClass => cases hc; exact h.serve_waits ha (h.twin.serveSetModuleClass req)
  | assignModuleClass => cases hc; exact h.serve_waits ha (h.twin.serveAssignModuleClass req)
  | readModuleClasses => cases hc; exact h.serve_waits ha (h.twin.serveReadModuleClasses req)
  | setEconomy => cases hc; exact h.serve_waits ha (h.twin.serveSetEconomy req)
  | ackNotice => cases hc; exact h.serve_waits ha (h.twin.serveAckNotice p req)
  | post => cases hc; exact h.serve_waits ha (h.twin.servePost p req)
  | unpost => cases hc; exact h.serve_waits ha (h.twin.serveUnpost p req)
  | setGroupThreshold => cases hc; exact h.serve_waits ha (h.twin.serveSetGroupThreshold req)
  | fetchNotice => cases hc; exact h.serve_waits ha (h.twin.serveFetchNotice p req)
  | fetchNoticeIdentity => cases hc; exact h.serve_waits ha (h.twin.serveFetchNoticeIdentity p req)
  | setLevel => cases hc; exact h.serve_waits ha (h.twin.serveSetLevel p req)
  | readSummary => cases hc; exact h.serve_waits ha (h.twin.serveReadSummary p req)
  | defineActuator => cases hc; exact h.serve_waits ha (h.twin.serveDefineActuator req)
  | undefineActuator => cases hc; exact h.serve_waits ha (h.twin.serveUndefineActuator req)
  | readActuator => cases hc; exact h.serve_waits ha (h.twin.serveReadActuator req)
  | claim => cases hc; exact h.serve_waits ha (h.twin.serveClaim p req)
  | release => cases hc; exact h.serve_waits ha (h.twin.serveRelease p req)
  | takeReferral => cases hc; exact h.serve_waits ha (h.twin.serveTakeReferral req)
  | answerReferral => cases hc; exact h.serve_waits ha (h.twin.serveAnswerReferral req)
  | restartHutController => cases hc; exact h.restartHutController_waits ha
  | setPermissions => cases hc; exact h.serve_waits ha (h.twin.serveSetPermissions req)
  | setSitePoints => cases hc; exact h.serve_waits ha (h.twin.serveSetSitePoints req)
  | identify => cases hc; exact h.serve_waits ha (h.twin.serveIdentify req)
  | restartSupervision => cases hc; exact h.serve_waits ha (h.twin.serveRestartSupervision req)
  | _ => cases hc

/-- An executor that is not IDLE takes no request (R174). -/
theorem exec_of_busyExecutor {c : Instr} {p : Port} {s : State} (hc : requestPort c = some p)
    (h : (s.port p).executor ≠ .idle) : exec c s = .next s := by
  obtain ⟨accept, f, row⟩ := exec_of_requestPort hc
  have refused : canTake s p accept = false := by simp [canTake, h]
  rw [row]
  exact event_none (.inr refused)

/-- Settles O11: each row serves the run with the full queue and the run with the empty queue alike, so the response that waits in the
one is the response placed in the other. -/
theorem responseWaitsForRoom : Obligations.ResponseWaitsForRoom :=
  ⟨fun _ _ _ _ _ hc taken accepts full items => Blocked.row_waits hc ⟨taken, full, items⟩ accepts,
    fun _ _ _ hc busy => exec_of_busyExecutor hc busy⟩

end Sys2Proof.Machine
end

section
/-! SUPPORT. What every operation keeps of the claims: holders of the port mask with a bounded lease (R137), and no route holder while
the site-local flag is set (R143, R148). -/

set_option Elab.async false

namespace Sys2Proof.Machine

variable (s : State)

/-- From s to t holders stay ports of the mask with a bounded lease, and no route port comes to hold while the site-local flag is set,
each where it was so in s. -/
structure ClaimsKept (s t : State) : Prop where
  claims : ClaimsSound s → ClaimsSound t
  site : SiteLocalSound s → SiteLocalSound t

theorem ClaimsKept.refl : ClaimsKept s s := ⟨id, id⟩

theorem ClaimsKept.trans {s t u : State} (h : ClaimsKept s t) (k : ClaimsKept t u) : ClaimsKept s u :=
  ⟨fun x => k.claims (h.claims x), fun x => k.site (h.site x)⟩

theorem ClaimsKept.foldl {α : Type} {f : State → α → State} (h : ∀ s a, ClaimsKept s (f s a)) (xs : List α) (s : State) :
    ClaimsKept s (xs.foldl f s) := by
  induction xs generalizing s with
  | nil => exact .refl s
  | cons a xs ih => exact (h s a).trans (ih (f s a))

theorem ClaimsKept.ite {c : Prop} [Decidable c] {s t u : State} (h : ClaimsKept s t) (k : ClaimsKept s u) :
    ClaimsKept s (if c then t else u) := by
  split
  · exact h
  · exact k

/-! ## What each invariant reads -/

/-- An entry's claim goes on under the same descriptor with no longer a lease, or there is none. -/
def ClaimStays (x y : ActuatorEntry) : Prop :=
  (y.desc = x.desc ∧ y.holder = x.holder ∧ y.lease ≤ x.lease) ∨ (y.holder = none ∧ y.lease = 0)

theorem ClaimStays.refl (x : ActuatorEntry) : ClaimStays x x := .inl ⟨rfl, rfl, Nat.le_refl _⟩

/-- A claim that stands afterwards stood before. -/
theorem ClaimStays.holder {x y : ActuatorEntry} (h : ClaimStays x y) {p : Port} (hp : y.holder = some p) : x.holder = some p := by
  rcases h with ⟨-, hh, -⟩ | ⟨hn, -⟩
  · rw [← hh, hp]
  · rw [hn] at hp
    cases hp

/-- One entry's part of `ClaimsSound`. -/
def ClaimSound (x : ActuatorEntry) : Prop :=
  x.lease ≤ 3600 ∧ match x.holder with
    | none => x.lease = 0
    | some p => ∃ d, x.desc = some d ∧ d.portMask.get p = true

theorem ClaimStays.sound {x y : ActuatorEntry} (h : ClaimStays x y) (hx : ClaimSound x) : ClaimSound y := by
  obtain ⟨hbound, hhold⟩ := hx
  rcases h with ⟨hd, hh, hl⟩ | ⟨hh, hl⟩
  · refine ⟨hl.trans hbound, ?_⟩
    rw [hd, hh]
    cases he : x.holder with
    | none =>
      rw [he] at hhold
      exact Nat.le_zero.1 (hhold ▸ hl)
    | some p =>
      rw [he] at hhold
      exact hhold
  · rw [ClaimSound, hh, hl]
    exact ⟨Nat.zero_le _, rfl⟩

theorem ClaimsSound.of_stays {s t : State} (h : ClaimsSound s) (k : ∀ i, ClaimStays (s.actuator i) (t.actuator i)) :
    ClaimsSound t := fun i => (k i).sound (h i)

theorem SiteLocalSound.of_stays {s t : State} (h : SiteLocalSound s) (k : ∀ i, ClaimStays (s.actuator i) (t.actuator i))
    (ha : siteAsserted t = true → siteAsserted s = true) : SiteLocalSound t :=
  fun ht i p hp => h (ha ht) i p ((k i).holder hp)

/-- The site-local flag is not newly set where the point is the same and no flag is. -/
theorem siteAsserted_of_flags {s t : State} (hl : t.siteLocal = s.siteLocal)
    (hp : ∀ i, t.siteLocal = some i → (t.point i).live.asserted = true → (s.point i).live.asserted = true)
    (h : siteAsserted t = true) : siteAsserted s = true := by
  unfold siteAsserted at *
  rw [← hl]
  cases ht : t.siteLocal with
  | none => simp [ht] at h
  | some i =>
    simp only [ht] at h
    exact hp i ht h

/-- A change of the Actuator Unit that takes no claim. -/
theorem ClaimsKept.of_acts {l : List Block} {s t : State} (h : ChangesOnly l s t)
    (k : ∀ i, ClaimStays (s.actuator i) (t.actuator i)) (hp : Block.points ∉ l := by decide)
    (hs : Block.site ∉ l := by decide) : ClaimsKept s t :=
  ⟨fun x => x.of_stays k, fun x => x.of_stays k fun ha => siteAsserted_congr (fun i => h.point i hp) (h.siteLocal hs) ▸ ha⟩

/-- A change of the points that sets no flag. -/
theorem ClaimsKept.of_points {l : List Block} {s t : State} (h : ChangesOnly l s t)
    (k : ∀ i, (t.point i).live.asserted = true → (s.point i).live.asserted = true) (ha : Block.acts ∉ l := by decide)
    (hs : Block.site ∉ l := by decide) : ClaimsKept s t := by
  have stays : ∀ i, ClaimStays (s.actuator i) (t.actuator i) := fun i => by
    rw [h.actuator i ha]
    exact .refl _
  exact ⟨fun x => x.of_stays stays, fun x => x.of_stays stays (siteAsserted_of_flags (h.siteLocal hs) fun i _ => k i)⟩

/-- A change elsewhere keeps both. -/
theorem ClaimsKept.of_frame {l : List Block} {s t : State} (h : ChangesOnly l s t) (ha : Block.acts ∉ l := by decide)
    (hp : Block.points ∉ l := by decide) (hs : Block.site ∉ l := by decide) : ClaimsKept s t :=
  .of_acts h (fun i => by rw [h.actuator i ha]; exact .refl _) hp hs

/-! ## Claims and the work list -/

theorem setActuator_claimsKept {i : ActIx} {e : ActuatorEntry} (h : ClaimStays (s.actuator i) e) :
    ClaimsKept s (s.setActuator i e) := by
  refine .of_acts (setActuator_frame s i e) fun j => ?_
  rw [setActuator_actuator]
  split
  · next hj => exact hj ▸ h
  · exact .refl _

theorem setWorkList_claimsKept (l : List WorkItem) : ClaimsKept s (s.setWorkList l) :=
  .of_acts (setWorkList_frame s l) fun _ => .refl _

theorem setRunning_claimsKept (x : Option RunningItem) : ClaimsKept s (s.setRunning x) :=
  .of_acts (setRunning_frame s x) fun _ => .refl _

theorem setInFlight_claimsKept (i : ActIx) (x : InFlight) : ClaimsKept s (setInFlight i x s) :=
  setActuator_claimsKept s (.inl ⟨rfl, rfl, Nat.le_refl _⟩)

theorem restartRefresh_claimsKept (i : ActIx) : ClaimsKept s (restartRefresh i s) := by
  unfold restartRefresh
  split
  · exact .refl s
  · exact .ite (setActuator_claimsKept s (.inl ⟨rfl, rfl, Nat.le_refl _⟩)) (.refl s)

theorem queueRefresh_claimsKept (i : ActIx) : ClaimsKept s (queueRefresh i s) :=
  .ite (.refl s) ((ClaimsKept.of_acts (recordMoment_frame s _ i) fun _ => .refl _).trans
    ((setWorkList_claimsKept _ _).trans (.of_frame (requestActuator_frame _))))

theorem endClaim_stays (m : Nat) (i a : ActIx) : ClaimStays (s.actuator a) ((endClaim m i s).actuator a) := by
  rw [endClaim_actuator]
  split
  · exact .inr ⟨rfl, rfl⟩
  · exact .refl _

theorem endClaim_claimsKept (m : Nat) (i : ActIx) : ClaimsKept s (endClaim m i s) :=
  .of_acts (endClaim_frame s m i) (endClaim_stays s m i)

theorem endClaimOf_claimsKept (m : Nat) (who : Port → Bool) (i : ActIx) : ClaimsKept s (endClaimOf m who s i) := by
  unfold endClaimOf
  split
  · exact .refl s
  · exact .ite (endClaim_claimsKept s m i) (.refl s)

theorem endClaims_claimsKept (m : Nat) (who : Port → Bool) : ClaimsKept s (endClaims m who s) := by
  rw [endClaims_eq]
  exact ClaimsKept.foldl (fun u i => endClaimOf_claimsKept u m who i) _ s

theorem takeExpiry_claimsKept (i : ActIx) : ClaimsKept s (takeExpiry i s) := .ite (endClaim_claimsKept s _ i) (.refl s)

theorem takeExpiries_claimsKept : ClaimsKept s (takeExpiries s) := ClaimsKept.foldl (fun u i => takeExpiry_claimsKept u i) _ s

theorem endClaimOf_holder {m : Nat} {who : Port → Bool} {i a : ActIx} {p : Port}
    (h : ((endClaimOf m who s i).actuator a).holder = some p) : (s.actuator a).holder = some p := by
  unfold endClaimOf at h
  split at h
  · exact h
  · split at h
    · exact (endClaim_stays s m i a).holder h
    · exact h

theorem endClaims_list_holder {m : Nat} {who : Port → Bool} {l : List ActIx} {s : State} {a : ActIx} {p : Port}
    (h : ((l.foldl (endClaimOf m who) s).actuator a).holder = some p) : (s.actuator a).holder = some p := by
  induction l generalizing s with
  | nil => exact h
  | cons i l ih => exact endClaimOf_holder s (ih h)

/-- After the end of the route ports' claims the Hut Port alone can hold (R148). -/
theorem endRouteClaims_holder {a : ActIx} {p : Port} (h : ((endRouteClaims s).actuator a).holder = some p) : p = .hut := by
  have ended : isRoute p = false := Bool.eq_false_iff.2 fun hr => by
    have hq : (s.actuator a).holder = some p := by
      rw [endRouteClaims, endClaims_eq] at h
      exact endClaims_list_holder h
    obtain ⟨hentry, -⟩ := endClaims_ended s (nextMoment s) hq hr
    rw [endRouteClaims, hentry] at h
    cases h
  cases p with
  | east => cases ended
  | west => cases ended
  | hut => rfl

theorem endRouteClaims_siteLocalSound : SiteLocalSound (endRouteClaims s) := fun _ _ _ h => endRouteClaims_holder s h

theorem writeOutcome_claimsKept (d : Option Port) {w : WorkItem} {i : ActIx} (hw : w.target = i) (v : Word16)
    (f : Option FailReason) : ClaimsKept s (writeOutcome d w i v f s) := by
  obtain ⟨⟨hholder, hlease, -, hdesc, -⟩, hothers, -⟩ := writeOutcome_taken s d hw v f
  refine .of_acts (writeOutcome_frame s d w i v f) fun a => ?_
  by_cases ha : a = i
  · subst ha
    exact .inl ⟨hdesc, hholder, hlease.le⟩
  · rw [hothers a ha]
    exact .refl _

/-! ## Live records and samples -/

/-- A live record that sets the site-local point's flag ends the route ports' claims (R41, R148). -/
theorem commitLive_claimsKept (d : Option Port) (i : PointIx) (x : LiveRecord) : ClaimsKept s (commitLive d i x s) := by
  have hlive := commitLive_live s d i (x := x)
  rw [commitLive_eq, handOff_eq] at hlive ⊢
  have hframe := (reportLive_frame s d i x).comp (handClock_blocks _ d i (s.point i).live x)
    (n := [.points, .arb, .clock, .notices, .ports, .routes])
  generalize handClock d i (s.point i).live x (reportLive d i x s) = u at hframe hlive ⊢
  have stays : ∀ a, ClaimStays (s.actuator a) (u.actuator a) := fun a => by
    rw [hframe.actuator]
    exact .refl _
  split at hlive
  · rw [if_pos ‹_›]
    exact ⟨fun h => (endClaims_claimsKept u _ _).claims (h.of_stays stays), fun _ => endRouteClaims_siteLocalSound u⟩
  · next hnot =>
    rw [if_neg hnot]
    refine ⟨fun h => h.of_stays stays, fun h => h.of_stays stays (siteAsserted_of_flags hframe.siteLocal fun j hj hset => ?_)⟩
    rw [hlive j] at hset
    split at hset
    · next hji =>
      subst hji
      exact eq_true_of_ne_false fun hclear => hnot ⟨hclear, hset, hj⟩
    · exact hset

theorem takeSample_claimsKept (d : Option Port) (i : PointIx) (x : Sample) : ClaimsKept s (takeSample d i x s) := by
  cases h : s.descOf i with
  | none =>
    rw [takeSample_none s h]
    exact .refl s
  | some desc =>
    have unmarked : ∀ j, ((marked i x s).point j).live = (s.point j).live := fun j => by
      rw [marked, setPoint_point]
      split
      · next e => rw [e]
      · rfl
    rw [takeSample_some s h]
    exact (ClaimsKept.of_points (marked_frame s i x) fun j hj => unmarked j ▸ hj).trans (commitLive_claimsKept _ d i _)

/-! ## The bus, the Scanner and the unit's grants -/

theorem dropRunning_claimsKept : ClaimsKept s (dropRunning s) := by
  unfold dropRunning
  split
  · exact .refl s
  · exact (setInFlight_claimsKept s _ .no).trans (setRunning_claimsKept _ none)

theorem closeTenure_claimsKept : ClaimsKept s (closeTenure s) := by
  have closed : ChangesOnly [.bus, .arb, .scan] s (((takeEnded s).setArb { s.arb with tenure := none, locked := .closed }).setScan
      { s.scan with inFlight := none }) :=
    ((setBus_frame s { s.bus with ended := none }).comp (setArb_frame _ _) (n := [.bus, .arb])).comp (setScan_frame _ _)
  exact ((ClaimsKept.of_frame closed).trans (dropRunning_claimsKept _)).trans (.of_frame (requestActuator_frame _))

theorem endTransaction_claimsKept (t : Transaction) : ClaimsKept s (endTransaction t s) := by
  unfold endTransaction
  simp only []
  split
  · exact (ClaimsKept.of_frame (setBus_frame s _)).trans (closeTenure_claimsKept _)
  · exact .of_frame (setBus_frame s _)

theorem endBeat_claimsKept (t : Transaction) (b : Beat) (a e i : Bool) (x : Word16) : ClaimsKept s (endBeat t b a e i x s) := by
  unfold endBeat
  split
  · exact endTransaction_claimsKept s _
  · exact .ite (.of_frame (setBus_frame s _)) (endTransaction_claimsKept s _)

theorem handOver_claimsKept (t : Transaction) (e : ServedEntry) : ClaimsKept s (handOver t s e) := by
  unfold handOver
  split
  · exact .refl s
  · split
    · exact .refl s
    · exact takeSample_claimsKept s none _ _

theorem completeRead_claimsKept (t : Transaction) : ClaimsKept s (completeRead t s) := by
  have taken : ClaimsKept s (dropGrant (takeEnded s)) :=
    .of_frame ((setBus_frame s _).comp (dropGrant_frame _) (n := [.bus, .arb]))
  exact ((taken.trans (ClaimsKept.foldl (fun u e => handOver_claimsKept u t e) _ _)).trans (.of_frame (setScan_frame _ _))).trans
    (.of_frame (walk_frame _ none))

theorem takeFeedback_claimsKept (d : Option Port) (i : ActIx) (x : Sample) : ClaimsKept s (takeFeedback d i x s) := by
  unfold takeFeedback
  split
  · exact .refl s
  · exact takeSample_claimsKept s d _ x

theorem finishExchange_claimsKept (x : RunningItem) (o : WriteOutcome) (z : Sample) : ClaimsKept s (finishExchange x o z s) := by
  have closed : ClaimsKept s ((setInFlight x.item.target .no (closeLocked s)).setRunning none) :=
    ((ClaimsKept.of_frame (closeLocked_frame s)).trans (setInFlight_claimsKept _ _ .no)).trans (setRunning_claimsKept _ none)
  exact (((closed.trans (takeExpiry_claimsKept _ _)).trans (takeFeedback_claimsKept _ _ _ _)).trans
    (.of_frame (respondItem_frame _ _ _))).trans (.of_frame (requestActuator_frame _))

theorem beginFeedback_claimsKept (x : RunningItem) (o : WriteOutcome) : ClaimsKept s (beginFeedback x o s) := by
  unfold beginFeedback
  split
  · exact (setRunning_claimsKept s _).trans (.of_frame (beginTransaction_frame _ _))
  · exact finishExchange_claimsKept s x o _

theorem completeExchangeWrite_claimsKept (t : Transaction) (x : RunningItem) : ClaimsKept s (completeExchangeWrite t x s) :=
  ((ClaimsKept.of_frame (setBus_frame s _)).trans (writeOutcome_claimsKept _ none rfl _ _)).trans (setRunning_claimsKept _ _)

theorem completeItemWrite_claimsKept (t : Transaction) (x : RunningItem) : ClaimsKept s (completeItemWrite t x s) := by
  have taken : ClaimsKept s (dropGrant (takeEnded s)) :=
    .of_frame ((setBus_frame s _).comp (dropGrant_frame _) (n := [.bus, .arb]))
  have closed : ClaimsKept s ((setInFlight x.item.target .no (dropGrant (takeEnded s))).setRunning none) :=
    (taken.trans (setInFlight_claimsKept _ _ .no)).trans (setRunning_claimsKept _ none)
  exact (((closed.trans (takeExpiry_claimsKept _ _)).trans (writeOutcome_claimsKept _ _ rfl _ _)).trans
    (.of_frame (respondItem_frame _ _ _))).trans (.of_frame (requestActuator_frame _))

theorem beginWrite_claimsKept (x : RunningItem) (t : Transaction) : ClaimsKept s (beginWrite x t s) := by
  have ran : ∀ f, ClaimsKept s ((setInFlight x.item.target f s).setRunning (some x)) := fun f =>
    (setInFlight_claimsKept s _ f).trans (setRunning_claimsKept _ (some x))
  exact (ClaimsKept.ite ((ran _).trans (.of_frame (setArb_frame _ _))) (ran _)).trans (.of_frame (beginTransaction_frame _ _))

theorem failWrite_claimsKept (x : RunningItem) : ClaimsKept s (failWrite x s) :=
  (((ClaimsKept.of_frame (dropGrant_frame s)).trans (writeOutcome_claimsKept _ _ rfl _ _)).trans
    (.of_frame (respondItem_frame _ _ _))).trans (.of_frame (requestActuator_frame _))

theorem failExchangeWrite_claimsKept (x : RunningItem) : ClaimsKept s (failExchangeWrite x s) :=
  ((writeOutcome_claimsKept s _ rfl _ _).trans (setInFlight_claimsKept _ _ _)).trans (beginFeedback_claimsKept _ _ _)

theorem runItem_claimsKept (w : WorkItem) (d : ActDescriptor) : ClaimsKept s (runItem w d s) := by
  unfold runItem
  simp only []
  split
  · exact beginWrite_claimsKept s _ _
  · exact .ite (failExchangeWrite_claimsKept s _) (failWrite_claimsKept s _)

theorem grantActuator_claimsKept : ClaimsKept s (grantActuator s) := by
  unfold grantActuator
  split
  · exact .of_frame (dropGrant_frame s)
  · simp only []
    split
    · exact ((setWorkList_claimsKept s _).trans (.of_frame (dropGrant_frame _))).trans (.of_frame (requestActuator_frame _))
    · exact (setWorkList_claimsKept s _).trans (runItem_claimsKept _ _ _)

theorem grantDirect_claimsKept (p : Port) : ClaimsKept s (grantDirect p s) := by
  unfold grantDirect
  split
  · split
    · exact .of_frame (dropGrant_frame s)
    · split
      · exact .of_frame (beginTransaction_frame s _)
      · exact .of_frame ((dropGrant_frame s).comp (respond_frame _ p _) (n := [.arb, .ports, .routes, .restart]))
  · exact .of_frame (dropGrant_frame s)

theorem grantScanner_claimsKept : ClaimsKept s (grantScanner s) := by
  unfold grantScanner
  simp only []
  generalize examine s s.scan.ahead = x
  have sampled : ClaimsKept s (x.unreadable.foldl (fun s i => takeSample none i (.failed .address) s) s) :=
    ClaimsKept.foldl (fun u i => takeSample_claimsKept u none i _) _ s
  generalize x.unreadable.foldl (fun s i => takeSample none i (.failed .address) s) s = u at sampled
  have passed : ClaimsKept s (walk none (dropGrant (u.setScan (passAll u.scan)))) :=
    ((sampled.trans (.of_frame (setScan_frame u _))).trans (.of_frame (dropGrant_frame _))).trans (.of_frame (walk_frame _ none))
  split
  · exact passed
  · split
    · exact passed
    · exact (sampled.trans (.of_frame (setScan_frame u _))).trans (.of_frame (beginTransaction_frame _ _))

theorem freeGrant_claimsKept : ClaimsKept s (freeGrant s) := by
  have composed : ∀ who u, ClaimsKept u (composeFor who u) := fun who u => by
    cases who with
    | actuatorUnit => exact grantActuator_claimsKept u
    | direct p => exact grantDirect_claimsKept u p
    | scanner => exact grantScanner_claimsKept u
  unfold freeGrant
  simp only []
  split
  · exact takeExpiries_claimsKept s
  · exact ((takeExpiries_claimsKept s).trans (.of_frame (setArb_frame _ _))).trans (composed _ _)

end Sys2Proof.Machine
end

section
/-! SUPPORT. The requests, the resets and the passing of time keep the claims sound. -/

set_option Elab.async false

namespace Sys2Proof.Machine

variable (s : State)

/-! ## Requests of the Point Table and the Scanner -/

/-- A record that is reset has its flag clear (R4). -/
theorem setPoint_reset_flag (i j : PointIx) (e : PointEntry) (st : PointState)
    (h : ((s.setPoint i (e.resetRecord st)).point j).live.asserted = true) : (s.point j).live.asserted = true := by
  rw [setPoint_point] at h
  split at h
  · cases h
  · exact h

theorem acceptDefine_claimsKept (d : Option Port) (i : PointIx) (new : Descriptor) : ClaimsKept s (acceptDefine d i new s) := by
  refine .of_points (acceptDefine_frame s d i new) fun j hj => ?_
  rw [acceptDefine_point] at hj
  refine setPoint_reset_flag s i j (s.point i) (.defined new) ?_
  split at hj
  · exact hj
  · exact hj

theorem acceptUndefine_claimsKept (d : Option Port) (i : PointIx) : ClaimsKept s (acceptUndefine d i s) :=
  .of_points (acceptUndefine_frame s d i) fun j hj => setPoint_reset_flag s i j _ .undefined (acceptUndefine_point s d i j ▸ hj)

theorem acceptLimits_claimsKept (d : Option Port) (i : PointIx) (old new : Descriptor) :
    ClaimsKept s (acceptLimits d i old new s) := by
  refine .of_points (acceptLimits_frame s d i old new) fun j hj => ?_
  rw [acceptLimits_point] at hj
  by_cases h : j = i
  · subst h
    split at hj
    · exact hj
    · rwa [setPoint_point_self] at hj
  · rwa [if_neg fun hc => h hc.2, setPoint_point_ne s h] at hj

theorem serveDefinePoint_claimsKept (d : Option Port) (req : Request) : ClaimsKept s (serveDefinePoint d req s).1 := by
  unfold serveDefinePoint
  simp only []
  repeat' split
  · exact .refl s
  · exact .refl s
  · exact .refl s
  · exact .refl s
  · exact acceptDefine_claimsKept s d _ _

theorem serveSetLimits_claimsKept (d : Option Port) (req : Request) : ClaimsKept s (serveSetLimits d req s).1 := by
  unfold serveSetLimits
  simp only []
  repeat' split
  · exact .refl s
  · exact .refl s
  · exact acceptLimits_claimsKept s d _ _ _
  · exact .refl s

theorem serveUndefinePoint_claimsKept (d : Option Port) (req : Request) : ClaimsKept s (serveUndefinePoint d req s).1 := by
  unfold serveUndefinePoint
  simp only []
  repeat' split
  · exact .refl s
  · exact .refl s
  · simp only [answer_fst]
    exact acceptUndefine_claimsKept s d _

theorem serveForcePoint_claimsKept (p : Port) (d : Option Port) (req : Request) : ClaimsKept s (serveForcePoint p d req s).1 := by
  unfold serveForcePoint
  simp only []
  repeat' split
  · exact .refl s
  · exact .refl s
  · exact .refl s
  · exact commitLive_claimsKept s d _ _

theorem serveUnforcePoint_claimsKept (p : Port) (d : Option Port) (req : Request) :
    ClaimsKept s (serveUnforcePoint p d req s).1 := by
  unfold serveUnforcePoint
  simp only []
  split
  · exact .refl s
  · split
    · exact .refl s
    · exact .ite (commitLive_claimsKept s d _ _) (.refl s)

theorem serveClearAsserted_claimsKept (p : Port) (d : Option Port) (req : Request) :
    ClaimsKept s (serveClearAsserted p d req s).1 := by
  unfold serveClearAsserted
  simp only []
  repeat' split
  · exact .refl s
  · exact .refl s
  · exact .refl s
  · exact commitLive_claimsKept s d _ _

theorem serveStartScan_frame (d : Option Port) (req : Request) : ChangesOnly cycleBlocks s (serveStartScan d req s).1 := by
  unfold serveStartScan
  simp only [scanAnswer]
  repeat' split
  · exact .refl _ s
  · exact (setScan_frame s _).comp (startCycle_frame _ d)
  · exact (setScan_frame s _).mono

theorem serveStopScan_frame (d : Option Port) (req : Request) : ChangesOnly cycleBlocks s (serveStopScan d req s).1 := by
  unfold serveStopScan
  simp only [scanAnswer]
  split
  · exact .refl _ s
  · simp only [answer_fst]
    split
    · exact (setScan_frame s _).comp (endOverrun_frame _ d)
    · exact (setScan_frame s _).mono

theorem serveScanAdd_claimsKept (d : Option Port) (req : Request) : ClaimsKept s (serveScanAdd d req s).1 := by
  unfold serveScanAdd
  simp only []
  split
  · exact .refl s
  · exact .refl s
  · next desc _ =>
    refine (ClaimsKept.of_points (scanAdded_frame s _ desc) fun j hj => ?_).trans (.of_frame (walk_frame _ d))
    rw [scanAdded, setScan_point, setPoint_point] at hj
    split at hj
    · next e => exact e ▸ hj
    · exact hj

theorem serveScanRemove_claimsKept (d : Option Port) (req : Request) : ClaimsKept s (serveScanRemove d req s).1 := by
  have flag : ∀ l : LiveRecord, (leftLive l).asserted = l.asserted := fun l => by
    unfold leftLive
    split <;> rfl
  unfold serveScanRemove
  simp only []
  split
  · exact .refl s
  · exact .refl s
  · next desc _ =>
    have removed : ∀ i, ClaimsKept s (scanRemoved i desc s) := fun i => by
      refine .of_points (scanRemoved_frame s i desc) fun j hj => ?_
      rw [scanRemoved, setScan_point, setPoint_point] at hj
      split at hj
      · next e => exact e ▸ flag _ ▸ hj
      · exact hj
    exact removed _

/-! ## Requests of the Actuator Unit (R139 to R151) -/

theorem acceptActuator_claimsKept (d : Option Port) (i : ActIx) (x : ActDescriptor) : ClaimsKept s (acceptActuator d i x s) := by
  refine .of_acts (acceptActuator_frame_noClaim s d i x) fun a => ?_
  rw [acceptActuator_actuator]
  split
  · exact .inr ⟨rfl, rfl⟩
  · exact .refl _

theorem acceptUndefineActuator_claimsKept (d : Option Port) (i : ActIx) : ClaimsKept s (acceptUndefineActuator d i s) := by
  refine .of_acts (acceptUndefineActuator_frame s d i) fun a => ?_
  rw [acceptUndefineActuator_actuator]
  split
  · exact .inr ⟨rfl, rfl⟩
  · exact .refl _

theorem serveDefineActuator_claimsKept (d : Option Port) (req : Request) : ClaimsKept s (serveDefineActuator d req s).1 := by
  unfold serveDefineActuator
  simp only []
  repeat' split
  · exact takeExpiry_claimsKept s _
  · exact takeExpiry_claimsKept s _
  · exact (takeExpiry_claimsKept s _).trans (acceptActuator_claimsKept _ d _ _)
  · exact .refl s

theorem serveUndefineActuator_claimsKept (d : Option Port) (req : Request) : ClaimsKept s (serveUndefineActuator d req s).1 := by
  unfold serveUndefineActuator
  simp only []
  repeat' split
  · exact .refl s
  · exact takeExpiry_claimsKept s _
  · exact takeExpiry_claimsKept s _
  · simp only [answer_fst]
    exact (takeExpiry_claimsKept s _).trans (acceptUndefineActuator_claimsKept _ d _)

theorem serveReadActuator_claimsKept (d : Option Port) (req : Request) : ClaimsKept s (serveReadActuator d req s).1 := by
  unfold serveReadActuator
  simp only []
  repeat' split
  · exact .refl s
  · exact takeExpiry_claimsKept s _
  · exact takeExpiry_claimsKept s _

/-- A CLAIM or EXCHANGE that passes the checks comes from a port of the mask, and from no route port while the site-local flag is
set (R143). -/
theorem checkActuator_admits {p : Port} {k : ActRequest} {i : ActIx} {v : Word16} (hk : k.claims = true)
    (h : checkActuator s p k i v = none) : (∃ d, (s.actuator i).desc = some d ∧ d.portMask.get p = true)
      ∧ (siteAsserted s = true → p = .hut) := by
  unfold checkActuator at h
  cases hd : (s.actuator i).desc with
  | none => simp [hd] at h
  | some d =>
    simp only [hd, hk, true_and] at h
    split at h
    · cases h
    split at h
    · cases h
    next hmask =>
    split at h
    · cases h
    next hsite =>
    refine ⟨⟨d, rfl, eq_true_of_ne_false hmask⟩, fun hs => ?_⟩
    cases p with
    | hut => rfl
    | east => exact absurd ⟨rfl, hs⟩ hsite
    | west => exact absurd ⟨rfl, hs⟩ hsite

/-- A claim taken by a port that passes the checks, for a lease within bounds. -/
theorem takeClaim_claimsKept {i : ActIx} {p : Port} {n : Nat}
    (hd : ∃ d, (s.actuator i).desc = some d ∧ d.portMask.get p = true) (hp : siteAsserted s = true → p = .hut)
    (hn : ClaimsSound s → n ≤ 3600) : ClaimsKept s (takeClaim i p n s) := by
  refine ⟨fun h j => ?_, fun h hs j q hq => ?_⟩
  · show ClaimSound ((takeClaim i p n s).actuator j)
    rw [takeClaim, setActuator_actuator]
    split
    · exact ⟨hn h, hd⟩
    · exact h j
  · have hs' : siteAsserted s = true := hs
    rw [takeClaim, setActuator_actuator] at hq
    split at hq
    · exact Option.some.inj hq ▸ hp hs'
    · exact h hs' j q hq

theorem queueItem_claimsKept (i : ActIx) (v : Word16) (w : WorkItem) : ClaimsKept s (queueItem i v w s) := by
  have requested : ClaimsKept s (s.setActuator i { s.actuator i with requested := some v }) :=
    setActuator_claimsKept s (.inl ⟨rfl, rfl, Nat.le_refl _⟩)
  exact (requested.trans (setWorkList_claimsKept _ _)).trans (.of_frame (requestActuator_frame _))

theorem serveActuator_claimsKept {p : Port} {k : ActRequest} {v : Word16} {req : Request} {accept : ActIx → State → Served}
    (h : ∀ i u, checkActuator u p k i v = none → ClaimsKept u (accept i u).1) :
    ClaimsKept s (serveActuator p k v req accept s).1 := by
  unfold serveActuator
  split
  · exact .refl s
  · simp only []
    split
    · exact takeExpiry_claimsKept s _
    · next hc => exact (takeExpiry_claimsKept s _).trans (h _ _ hc)

theorem clampLease_le (n : Nat) : clampLease n ≤ 3600 := Nat.min_le_left _ _

theorem exchangeLease_le (i : ActIx) (n : Nat) (h : ClaimsSound s) : exchangeLease (s.actuator i) n ≤ 3600 := by
  obtain ⟨hlease, -⟩ := h i
  unfold exchangeLease
  repeat' split
  · decide
  · exact hlease
  · exact clampLease_le n

theorem serveClaim_claimsKept (p : Port) (d : Option Port) (req : Request) : ClaimsKept s (serveClaim p d req s).1 :=
  serveActuator_claimsKept s fun _ u hc =>
    have ⟨hmask, hsite⟩ := checkActuator_admits u rfl hc
    takeClaim_claimsKept u hmask hsite fun _ => clampLease_le _

theorem serveRelease_claimsKept (p : Port) (d : Option Port) (req : Request) : ClaimsKept s (serveRelease p d req s).1 :=
  serveActuator_claimsKept s fun i u _ => endClaim_claimsKept u _ i

theorem serveCommand_claimsKept (p : Port) (d : Option Port) (req : Request) : ClaimsKept s (serveCommand p d req s).1 :=
  serveActuator_claimsKept s fun i u _ => queueItem_claimsKept u i _ _

theorem serveExchange_claimsKept (p : Port) (d : Option Port) (req : Request) : ClaimsKept s (serveExchange p d req s).1 :=
  serveActuator_claimsKept s fun i u hc =>
    have ⟨hmask, hsite⟩ := checkActuator_admits u rfl hc
    (takeClaim_claimsKept u hmask hsite (exchangeLease_le u i _)).trans (queueItem_claimsKept _ i _ _)

/-! ## The site points (R148, R179) -/

/-- A site-local point newly named with its flag set ends the route ports' claims (R179). -/
theorem acceptSitePoints_claimsKept (d : Option Port) (x y : Option PointIx) : ClaimsKept s (acceptSitePoints d x y s) := by
  have hframe := siteClocked_frame s d x y
  obtain ⟨hlocal, -⟩ := siteClocked_site s d x y
  have stays : ∀ a, ClaimStays (s.actuator a) ((siteClocked d x y s).actuator a) := fun a => by
    rw [hframe.actuator]
    exact .refl _
  rw [acceptSitePoints_eq]
  split
  · exact ⟨fun h => (endClaims_claimsKept _ _ _).claims (h.of_stays stays), fun _ => endRouteClaims_siteLocalSound _⟩
  · next hnot =>
    refine ⟨fun h => h.of_stays stays, fun h hset => ?_⟩
    have hsame : x = s.siteLocal := Decidable.byContradiction fun hne => hnot ⟨hne, hset⟩
    exact h.of_stays stays (siteAsserted_of_flags (hlocal.trans hsame) fun i _ => by rw [hframe.point]; exact id) hset

theorem serveSetSitePoints_claimsKept (d : Option Port) (req : Request) : ClaimsKept s (serveSetSitePoints d req s).1 := by
  unfold serveSetSitePoints
  simp only []
  repeat' split
  · exact .refl s
  · exact .refl s
  · exact acceptSitePoints_claimsKept s d _ _

/-! ## The hut link and the ports -/

theorem endHutClaims_claimsKept : ClaimsKept s (endHutClaims s) :=
  ((setWorkList_claimsKept s _).trans (setRunning_claimsKept _ _)).trans (endClaims_claimsKept _ _ _)

theorem serveRestartHut_claimsKept (r : RoutePort) (d : Option Port) (req : Request) :
    ClaimsKept s (serveRestartHut r d req s).1 := by
  have cleared : ∀ u, ClaimsKept u (withdrawHutDirect (clearHutPort (startPulse u))) := fun u =>
    ((ClaimsKept.of_frame (setLink_frame u _)).trans (.of_frame (setPort_frame _ .hut _))).trans
      (.of_frame (withdrawHutDirect_frame _))
  have restarted : ∀ u, ClaimsKept u (restartHut u) := fun u =>
    ((cleared u).trans (endHutClaims_claimsKept _)).trans
      (.of_frame (ChangesOnly.foldl (fun u k => answerNoAnswer_frame u k) slotIndices _))
  unfold serveRestartHut
  split
  · exact .refl s
  · simp only []
    exact (ClaimsKept.of_frame (respond_frame s _ _)).trans (restarted _)

theorem linkDown_claimsKept (r : RoutePort) : ClaimsKept s (linkDown r s) :=
  ((ClaimsKept.of_frame (setRoute_frame s r _)).trans (.of_frame (reportActivity_frame _ none _ _))).trans
    (endClaims_claimsKept _ _ _)

/-! ## Restarts and the passing of time -/

theorem powerOnReset_claimsKept {s t : State} (h : execPowerOnReset s = .next t) : ClaimsKept s t := by
  injection h with h
  subst h
  have ⟨_, _, _, _, hclaims, hsite, _⟩ := resetMeetsInvariants
  exact ⟨fun _ => hclaims, fun _ => hsite⟩

theorem porRelease_claimsKept {a b : Bool} {s t : State} (h : execPorRelease a b s = .next t) : ClaimsKept s t := by
  unfold execPorRelease at h
  split at h
  · injection h with h
    exact h ▸ ⟨id, id⟩
  · injection h with h
    exact h ▸ .refl s

theorem beginRestart_claimsKept (p : Port) : ClaimsKept s (beginRestart p s) := by
  have begun : ClaimsKept s (restartBegun p s) := .of_acts (restartBegun_frame s p) fun _ => .refl _
  rw [beginRestart_eq]
  exact .ite begun (begun.trans (closeTenure_claimsKept _))

/-- Step 4 ends every claim, and step 6 clears every flag (R20, R157). -/
theorem finishRestart_claimsKept (p : Port) : ClaimsKept s (finishRestart p s) := by
  have silent : ClaimsKept s (restartNotices (restartPorts p s)) :=
    (ClaimsKept.of_frame (restartPorts_frame s p)).trans (.of_frame (restartNotices_frame _))
  have unclaimed : ∀ u, ClaimsKept u (restartActuators u) := fun u => .of_acts (restartActuators_frame u) fun a => by
    rw [restartActuators_actuator]
    exact .inr ⟨rfl, rfl⟩
  have initial : ∀ u, ClaimsKept u (restartPoints u) := fun u => .of_points (restartPoints_frame u) fun j hj => by
    rw [restartPoints_point] at hj
    cases hj
  exact ((((((silent.trans (unclaimed _)).trans (.of_frame (restartLink_frame _))).trans (initial _)).trans
    (.of_frame (restartScan_frame _))).trans (.of_frame (restartClock_frame _)))).trans (.of_frame (setRestart_frame _ _))

theorem tick_claimsKept : ClaimsKept s (tick s) :=
  .of_acts (tick_frame s) fun a => by rw [tick_actuator]; exact .inl ⟨rfl, rfl, Nat.le_refl _⟩

/-- A second tick lowers leases and ends no claim by itself (R146, notes/assumptions/11.md). -/
theorem secondTick_claimsKept {s t : State} (h : execSecondTick s = .next t) : ClaimsKept s t := by
  rcases event_cases h with rfl | ⟨-, -, rfl⟩
  · exact .refl _
  · refine .of_acts ((secondTick_frame s).comp (decideHreq_frame _) (n := [.acts, .uptime, .hreq])) fun a => ?_
    have entry : (decideHreq { s with
        uptime := s.uptime + 1
        acts := { s.acts with entries := s.acts.entries.map tickEntry, moments := tickMoments s.acts.moments } }).actuator a
        = tickEntry (s.actuator a) := by
      simp [State.actuator, decideHreq, Vector.get_eq_getElem]
    rw [entry]
    exact .inl ⟨rfl, rfl, Nat.sub_le _ _⟩

end Sys2Proof.Machine
end

section
/-! PROOFS. Every step keeps the claims sound (O57). -/

set_option Elab.async false

namespace Sys2Proof.Machine

variable (s : State)

/-! ## Events and rows -/

theorem event_claimsKept {e : Bool} {f : State → State} {s t : State} (h : event e f s = .next t) (hf : ClaimsKept s (f s)) :
    ClaimsKept s t := by
  rcases event_cases h with rfl | ⟨-, -, rfl⟩
  · exact .refl _
  · exact hf.trans (.of_frame (decideHreq_frame _))

theorem serve_claimsKept {p : Port} {accept : Request → Bool} {f : Option Port → Request → State → Served} {s t : State}
    (h : serve p accept f s = .next t) (hf : ∀ d req s, ClaimsKept s (f d req s).1) : ClaimsKept s t := by
  rcases serve_cases h with rfl | ⟨req, -, -, rfl⟩
  · exact .refl _
  · exact (((ClaimsKept.of_frame (takeHead_frame s p)).trans (hf _ req _)).trans (.of_frame (finishService_frame p _))).trans
      (.of_frame (decideHreq_frame _))

/-- A request row whose service changes none of the actuators, the points and the site references. -/
theorem serve_claimsKept_of_frame {l : List Block} {p : Port} {accept : Request → Bool}
    {f : Option Port → Request → State → Served} {s t : State} (h : serve p accept f s = .next t)
    (hf : ∀ d req s, ChangesOnly l s (f d req s).1) (ha : Block.acts ∉ l := by decide) (hp : Block.points ∉ l := by decide)
    (hs : Block.site ∉ l := by decide) : ClaimsKept s t :=
  serve_claimsKept h fun d req s => .of_frame (hf d req s) ha hp hs

/-- A request row whose service changes nothing. -/
theorem serve_claimsKept_of_read {p : Port} {accept : Request → Bool} {f : Option Port → Request → State → Served}
    {s t : State} (h : serve p accept f s = .next t) (hf : ∀ d req s, (f d req s).1 = s) : ClaimsKept s t :=
  serve_claimsKept h fun d req s => by rw [hf]; exact .refl s

theorem execBeatEnd_claimsKept {clock : Nat} {a e i : Bool} {x : Word16} {s t : State}
    (h : execBeatEnd clock a e i x s = .next t) : ClaimsKept s t := by
  unfold execBeatEnd at h
  split at h
  · exact event_claimsKept h (.refl s)
  · split at h
    · exact event_claimsKept h (.refl s)
    · exact event_claimsKept h (endBeat_claimsKept s _ _ _ _ _ _)

theorem execReservedGrant_claimsKept {s t : State} (h : execReservedGrant s = .next t) : ClaimsKept s t := by
  unfold execReservedGrant at h
  split at h
  · exact event_claimsKept h (.refl s)
  · exact event_claimsKept h ((ClaimsKept.of_frame (setArb_frame s _)).trans (beginFeedback_claimsKept _ _ _))

theorem execReadCompletion_claimsKept {s t : State} (h : execReadCompletion s = .next t) : ClaimsKept s t := by
  unfold execReadCompletion at h
  split at h
  · exact event_claimsKept h (.refl s)
  · exact event_claimsKept h (completeRead_claimsKept s _)

theorem execActuatorWriteCompletion_claimsKept {s t : State} (h : execActuatorWriteCompletion s = .next t) :
    ClaimsKept s t := by
  unfold execActuatorWriteCompletion at h
  split at h
  · exact event_claimsKept h (.refl s)
  · refine event_claimsKept h ?_
    split
    · exact completeExchangeWrite_claimsKept s _ _
    · exact completeItemWrite_claimsKept s _ _

theorem execExchangeReadCompletion_claimsKept {s t : State} (h : execExchangeReadCompletion s = .next t) :
    ClaimsKept s t := by
  unfold execExchangeReadCompletion at h
  split at h
  · exact event_claimsKept h (.refl s)
  · exact event_claimsKept h ((ClaimsKept.of_frame (setBus_frame s _)).trans (finishExchange_claimsKept _ _ _ _))

theorem execDirectTransferCompletion_claimsKept {s t : State} (h : execDirectTransferCompletion s = .next t) :
    ClaimsKept s t := by
  unfold execDirectTransferCompletion at h
  split at h
  · exact event_claimsKept h (.refl s)
  · split at h
    · exact event_claimsKept h (.of_frame (completeDirect_frame s _ _))
    · exact event_claimsKept h (.refl s)

theorem execSupervisionRestart_claimsKept {s t : State} (h : execSupervisionRestart s = .next t) : ClaimsKept s t := by
  unfold execSupervisionRestart at h
  split at h
  · exact event_claimsKept h (beginRestart_claimsKept s _)
  · exact event_claimsKept h (.refl s)

theorem execSupervisionRestartSteps_claimsKept {s t : State} (h : execSupervisionRestartSteps s = .next t) :
    ClaimsKept s t := by
  unfold execSupervisionRestartSteps at h
  split at h
  · exact event_claimsKept h (finishRestart_claimsKept s _)
  · exact event_claimsKept h (.refl s)

theorem execLeaseExpiry_claimsKept {i : Nat} {s t : State} (h : execLeaseExpiry i s = .next t) : ClaimsKept s t := by
  unfold execLeaseExpiry at h
  split at h
  · exact event_claimsKept h (takeExpiry_claimsKept s _)
  · exact event_claimsKept h (.refl s)

theorem execRefreshTimerExpiry_claimsKept {i : Nat} {s t : State} (h : execRefreshTimerExpiry i s = .next t) :
    ClaimsKept s t := by
  unfold execRefreshTimerExpiry at h
  split at h
  · exact event_claimsKept h ((restartRefresh_claimsKept s _).trans (queueRefresh_claimsKept _ _))
  · exact event_claimsKept h (.refl s)

theorem execReferralTimeout_claimsKept {k : Nat} {s t : State} (h : execReferralTimeout k s = .next t) : ClaimsKept s t := by
  unfold execReferralTimeout at h
  split at h
  · exact event_claimsKept h (.of_frame (answerNoAnswer_frame s _))
  · exact event_claimsKept h (.refl s)

/-! ## Every command -/

theorem exec_claimsKept {c : Instr} {s t : State} (h : exec c s = .next t) : ClaimsKept s t := by
  cases c with
  | powerOnReset => exact powerOnReset_claimsKept h
  | porRelease a b => exact porRelease_claimsKept h
  | routeFrameComplete r b => exact event_claimsKept h (.of_frame (takeByte_frame s _ b))
  | interByteTimeout r => exact event_claimsKept h (.of_frame (setReceiver_frame s _ _))
  | framingError r => exact event_claimsKept h (.of_frame (setReceiver_frame s _ _))
  | chipSelectRelease m n => exact event_claimsKept h (.of_frame (releaseChipSelect_frame s m n))
  | linkTimeout r => exact event_claimsKept h (linkDown_claimsKept s r)
  | frameSent p => exact event_claimsKept h (.of_frame (sendHead_frame s p))
  | definePoint p => exact serve_claimsKept h fun d req s => serveDefinePoint_claimsKept s d req
  | setLimits p => exact serve_claimsKept h fun d req s => serveSetLimits_claimsKept s d req
  | undefinePoint p => exact serve_claimsKept h fun d req s => serveUndefinePoint_claimsKept s d req
  | readPoint p => exact serve_claimsKept_of_read h fun d req s => serveReadPoint_fst s d req
  | readPoints p => exact serve_claimsKept_of_read h fun d req s => serveReadPoints_fst s d req
  | findTag p => exact serve_claimsKept_of_read h fun d req s => serveFindTag_fst s d req
  | forcePoint p => exact serve_claimsKept h fun d req s => serveForcePoint_claimsKept s p d req
  | unforcePoint p => exact serve_claimsKept h fun d req s => serveUnforcePoint_claimsKept s p d req
  | clearAsserted p => exact serve_claimsKept h fun d req s => serveClearAsserted_claimsKept s p d req
  | startScan => exact serve_claimsKept_of_frame h fun d req s => serveStartScan_frame s d req
  | stopScan => exact serve_claimsKept_of_frame h fun d req s => serveStopScan_frame s d req
  | setScanPeriod p => exact serve_claimsKept_of_frame h fun d req s => setScan_frame s _
  | scanAdd p => exact serve_claimsKept h fun d req s => serveScanAdd_claimsKept s d req
  | scanRemove p => exact serve_claimsKept h fun d req s => serveScanRemove_claimsKept s d req
  | readScanList p => exact serve_claimsKept_of_read h fun _ _ _ => rfl
  | setModuleClass p => exact serve_claimsKept_of_frame h fun d req s => serveSetModuleClass_frame s d req
  | assignModuleClass p => exact serve_claimsKept_of_frame h fun d req s => serveAssignModuleClass_frame s d req
  | readModuleClasses p => exact serve_claimsKept_of_read h fun _ _ _ => rfl
  | readModule p => exact serve_claimsKept_of_frame h fun d req s => serveDirect_frame s p d req
  | writeModule p => exact serve_claimsKept_of_frame h fun d req s => serveDirect_frame s p d req
  | setEconomy => exact serve_claimsKept_of_frame h fun d req s => serveSetEconomy_frame s d req
  | ackNotice p => exact serve_claimsKept_of_frame h fun d req s => serveAckNotice_frame s p d req
  | post p => exact serve_claimsKept_of_frame h fun d req s => servePost_frame s p d req
  | unpost p => exact serve_claimsKept_of_frame h fun d req s => serveUnpost_frame s p d req
  | setGroupThreshold p => exact serve_claimsKept_of_frame h fun d req s => serveSetGroupThreshold_frame s d req
  | fetchNotice p => exact serve_claimsKept_of_frame h fun d req s => serveFetchNotice_frame s p d req
  | fetchNoticeIdentity p => exact serve_claimsKept_of_read h fun d req s => serveFetchNoticeIdentity_fst s p d req
  | setLevel p => exact serve_claimsKept_of_frame h fun d req s => serveSetLevel_frame s p d req
  | readSummary p => exact serve_claimsKept_of_frame h fun d req s => serveReadSummary_frame s p d req
  | defineActuator p => exact serve_claimsKept h fun d req s => serveDefineActuator_claimsKept s d req
  | undefineActuator p => exact serve_claimsKept h fun d req s => serveUndefineActuator_claimsKept s d req
  | readActuator p => exact serve_claimsKept h fun d req s => serveReadActuator_claimsKept s d req
  | claim p => exact serve_claimsKept h fun d req s => serveClaim_claimsKept s p d req
  | release p => exact serve_claimsKept h fun d req s => serveRelease_claimsKept s p d req
  | command p => exact serve_claimsKept h fun d req s => serveCommand_claimsKept s p d req
  | exchange p => exact serve_claimsKept h fun d req s => serveExchange_claimsKept s p d req
  | takeReferral => exact serve_claimsKept_of_frame h fun d req s => serveTakeReferral_frame s d req
  | answerReferral => exact serve_claimsKept_of_frame h fun d req s => serveAnswerReferral_frame s d req
  | referral r => exact serve_claimsKept_of_frame h fun d req s => serveReferral_frame s r d req
  | restartHutController r => exact serve_claimsKept h fun d req s => serveRestartHut_claimsKept s r d req
  | setPermissions => exact serve_claimsKept_of_frame h fun d req s => serveSetPermissions_frame s d req
  | setSitePoints => exact serve_claimsKept h fun d req s => serveSetSitePoints_claimsKept s d req
  | identify p => exact serve_claimsKept_of_read h fun _ _ _ => rfl
  | restartSupervision p => exact serve_claimsKept_of_read h fun _ _ _ => rfl
  | supervisionRestart => exact execSupervisionRestart_claimsKept h
  | supervisionRestartSteps => exact execSupervisionRestartSteps_claimsKept h
  | freeGrant => exact event_claimsKept h (freeGrant_claimsKept s)
  | reservedGrant => exact execReservedGrant_claimsKept h
  | beatEnd c a e i x => exact execBeatEnd_claimsKept h
  | busRecoveryEnd => exact .of_frame (execBusRecoveryEnd_frame h)
  | readCompletion => exact execReadCompletion_claimsKept h
  | periodTimerExpiry => exact event_claimsKept h (.of_frame (periodExpired_frame s))
  | handoverBegin => exact .of_frame (execHandoverBegin_frame h)
  | handoverEnd => exact event_claimsKept h (.of_frame (enterClock_frame s))
  | actuatorWriteCompletion => exact execActuatorWriteCompletion_claimsKept h
  | exchangeReadCompletion => exact execExchangeReadCompletion_claimsKept h
  | directTransferCompletion => exact execDirectTransferCompletion_claimsKept h
  | secondTick => exact secondTick_claimsKept h
  | leaseExpiry i => exact execLeaseExpiry_claimsKept h
  | refreshTimerExpiry i => exact execRefreshTimerExpiry_claimsKept h
  | referralTimeout k => exact execReferralTimeout_claimsKept h
  | pulseTimerExpiry => exact .of_frame (execPulseTimerExpiry_frame h)
  | silenceTimerExpiry => exact .of_frame (execSilenceTimerExpiry_frame h)
  | rxdByte r b => exact event_claimsKept h (.of_frame (takeByte_frame s _ b))

/-- Settles O57: every command keeps both, as no claim is taken past the checks of R143 and the setting of the site-local flag ends the
route ports' claims; and a millisecond changes neither. -/
theorem claimsStaySound : Obligations.ClaimsStaySound := by
  intro s t h
  have kept : ClaimsKept s t := by
    unfold step at h
    split at h
    · injection h with h
      subst h
      exact .ite (.refl s) (tick_claimsKept s)
    · next c rest _ => exact ClaimsKept.trans (t := { s with pending := rest }) ⟨id, id⟩ (exec_claimsKept h)
  exact ⟨kept.claims, kept.site⟩

end Sys2Proof.Machine
end

section
/-! SUPPORT. What every operation keeps of the COMMANDs and EXCHANGEs of the ports and of the executors that hold on them (R138, R149,
R174). -/

set_option Elab.async false

namespace Sys2Proof.Machine

variable (s : State)

/-! ## The items of a port -/

/-- How many COMMANDs and EXCHANGEs of port p wait in the work list. -/
def itemCount (p : Port) (s : State) : Nat := s.acts.workList.countP fun w => decide (w.port = some p)

/-- The port that an item of the unit's tenure is to answer. -/
def RunningItem.wanted (x : RunningItem) : Option Port := if x.answer then x.item.port else none

/-- 1 where the item of the unit's tenure is to answer port p, else 0. -/
def runCount (p : Port) (s : State) : Nat := if s.acts.running.bind RunningItem.wanted = some p then 1 else 0

/-- How many COMMANDs and EXCHANGEs of port p are to be answered, waiting or running. -/
def itemLoad (p : Port) (s : State) : Nat := itemCount p s + runCount p s

/-- The executor of port p holds on a COMMAND or EXCHANGE. -/
def HoldsItem (p : Port) (s : State) : Prop :=
  ∃ req, (s.port p).executor = .serving req ∧ (kindOf req.kind = some .command ∨ kindOf req.kind = some .exchange)

/-- One port's part of `ItemsHeld`. -/
def PortHeld (p : Port) (s : State) : Prop := itemLoad p s ≤ 1 ∧ (0 < itemLoad p s → HoldsItem p s)

theorem RunningItem.wanted_some {x : RunningItem} {p : Port} : x.wanted = some p ↔ x.answer = true ∧ x.item.port = some p := by
  unfold RunningItem.wanted
  split <;> simp_all

theorem runCount_pos {p : Port} {s : State} : 0 < runCount p s ↔ ∃ x, s.acts.running = some x ∧ x.wanted = some p := by
  unfold runCount
  split <;> simp_all [Option.bind_eq_some_iff]

theorem runCount_le (p : Port) : runCount p s ≤ 1 := by
  unfold runCount
  split <;> decide

theorem itemCount_zero {p : Port} {s : State} : itemCount p s = 0 ↔ NoItems p s := by
  simp [itemCount, List.countP_eq_zero, NoItems]

theorem itemCount_pos {p : Port} {s : State} : 0 < itemCount p s ↔ ∃ w ∈ s.acts.workList, w.port = some p := by
  simp [itemCount, List.countP_pos_iff]

theorem itemCount_le_load (p : Port) : itemCount p s ≤ itemLoad p s := Nat.le_add_right _ _

/-- The invariant, port by port. -/
theorem itemsHeld_iff : ItemsHeld s ↔ (∀ p, PortHeld p s) ∧ ∀ q, s.restart = .running q → ∀ p, itemCount p s = 0 := by
  constructor
  · rintro ⟨hwait, hone, hrun, hrestart⟩
    refine ⟨fun p => ?_, fun q hq p => itemCount_zero.2 fun w hw hp => ?_⟩
    · have count : itemCount p s ≤ 1 := by
        rw [itemCount, List.countP_eq_length_filter]
        exact hone p
      rcases Nat.eq_zero_or_pos (runCount p s) with h0 | hpos
      · refine ⟨by unfold itemLoad; omega, fun hl => ?_⟩
        obtain ⟨w, hw, hp⟩ := itemCount_pos.1 (by unfold itemLoad at hl; omega : 0 < itemCount p s)
        exact hwait w hw p hp
      · obtain ⟨x, hx, hxp⟩ := runCount_pos.1 hpos
        obtain ⟨ha, hp⟩ := RunningItem.wanted_some.1 hxp
        obtain ⟨hnone, hheld⟩ := hrun x p hx ha hp
        have zero := itemCount_zero.2 hnone
        exact ⟨by have := runCount_le s p; unfold itemLoad; omega, fun _ => hheld⟩
    · rw [hrestart q hq w hw] at hp
      cases hp
  · rintro ⟨hheld, hrestart⟩
    refine ⟨fun w hw p hp => ?_, fun p => ?_, fun x p hx ha hp => ?_, fun q hq w hw => ?_⟩
    · have hpos : 0 < itemCount p s := itemCount_pos.2 ⟨w, hw, hp⟩
      exact (hheld p).2 (Nat.lt_of_lt_of_le hpos (itemCount_le_load s p))
    · rw [← List.countP_eq_length_filter]
      exact (itemCount_le_load s p).trans (hheld p).1
    · have hpos : 0 < runCount p s := runCount_pos.2 ⟨x, hx, RunningItem.wanted_some.2 ⟨ha, hp⟩⟩
      obtain ⟨hload, hhold⟩ := hheld p
      unfold itemLoad at hload hhold
      exact ⟨itemCount_zero.1 (by omega), hhold (by omega)⟩
    · cases hp : w.port with
      | none => rfl
      | some p => exact absurd hp (itemCount_zero.1 (hrestart q hq p) w hw)

/-! ## What is kept -/

/-- From s to t no port has an item more, no restart begins to run, and a port that holds on its one item does so still or has none left;
the executor of port o is left out. -/
structure ItemsKept (o : Option Port) (s t : State) : Prop where
  items : ∀ p, itemCount p t ≤ itemCount p s
  load : ∀ p, itemLoad p t ≤ itemLoad p s
  executor : ∀ p, o ≠ some p → HoldsItem p s → itemLoad p s ≤ 1 → HoldsItem p t ∨ itemLoad p t = 0
  restart : ∀ q, t.restart = .running q → s.restart = .running q

variable {o : Option Port}

theorem ItemsKept.refl : ItemsKept o s s := ⟨fun _ => Nat.le_refl _, fun _ => Nat.le_refl _, fun _ _ h _ => .inl h, fun _ h => h⟩

theorem ItemsKept.trans {s t u : State} (h : ItemsKept o s t) (k : ItemsKept o t u) : ItemsKept o s u := by
  refine ⟨fun p => (k.items p).trans (h.items p), fun p => (k.load p).trans (h.load p), fun p hp hs hl => ?_,
    fun q hq => h.restart q (k.restart q hq)⟩
  rcases h.executor p hp hs hl with ht | hzero
  · exact k.executor p hp ht ((h.load p).trans hl)
  · exact .inr (Nat.le_zero.1 (hzero ▸ k.load p))

theorem ItemsKept.foldl {α : Type} {f : State → α → State} (h : ∀ s a, ItemsKept o s (f s a)) (xs : List α) (s : State) :
    ItemsKept o s (xs.foldl f s) := by
  induction xs generalizing s with
  | nil => exact .refl s
  | cons a xs ih => exact (h s a).trans (ih (f s a))

theorem ItemsKept.ite {c : Prop} [Decidable c] {s t u : State} (h : ItemsKept o s t) (k : ItemsKept o s u) :
    ItemsKept o s (if c then t else u) := by
  split
  · exact h
  · exact k

/-- What every port keeps, every port but one keeps. -/
theorem ItemsKept.but {s t : State} (h : ItemsKept none s t) : ItemsKept o s t :=
  ⟨h.items, h.load, fun p _ => h.executor p (by simp), h.restart⟩

/-- A port that held on no item has none to keep. -/
theorem ItemsKept.of_but {p : Port} {s t : State} (h : ItemsKept (some p) s t) (hp : ¬ HoldsItem p s) : ItemsKept none s t := by
  refine ⟨h.items, h.load, fun q _ hq => h.executor q ?_ hq, h.restart⟩
  rintro ⟨⟩
  exact hp hq

/-- A port whose items are all gone has none to keep. -/
theorem ItemsKept.of_gone {p : Port} {s t : State} (h : ItemsKept (some p) s t) (hp : itemLoad p s ≤ 1 → itemLoad p t = 0) :
    ItemsKept none s t := by
  refine ⟨h.items, h.load, fun q _ hq hl => ?_, h.restart⟩
  by_cases e : q = p
  · exact .inr (e ▸ hp (e ▸ hl))
  · exact h.executor q (fun hp => e (Option.some.inj hp).symm) hq hl

theorem PortHeld.of_kept {p : Port} {s t : State} (h : PortHeld p s) (k : ItemsKept o s t) (ho : o ≠ some p) : PortHeld p t := by
  obtain ⟨hload, hheld⟩ := h
  refine ⟨(k.load p).trans hload, fun hpos => ?_⟩
  exact (k.executor p ho (hheld (Nat.lt_of_lt_of_le hpos (k.load p))) hload).resolve_right (Nat.pos_iff_ne_zero.1 hpos)

theorem ItemsHeld.of_kept {s t : State} (h : ItemsHeld s) (k : ItemsKept none s t) : ItemsHeld t := by
  obtain ⟨hheld, hrestart⟩ := (itemsHeld_iff s).1 h
  exact (itemsHeld_iff t).2 ⟨fun p => (hheld p).of_kept k (by simp),
    fun q hq p => Nat.le_zero.1 (hrestart q (k.restart q hq) p ▸ k.items p)⟩

/-! ## Changes elsewhere -/

theorem holdsItem_congr {p : Port} {s t : State} (h : (t.port p).executor = (s.port p).executor) : HoldsItem p t ↔ HoldsItem p s := by
  rw [HoldsItem, HoldsItem, h]

theorem ItemsKept.of_same {s t : State} (hw : ∀ p, itemCount p t ≤ itemCount p s) (hr : ∀ p, runCount p t ≤ runCount p s)
    (he : ∀ p, o ≠ some p → (t.port p).executor = (s.port p).executor) (hs : ∀ q, t.restart = .running q → s.restart = .running q) :
    ItemsKept o s t :=
  ⟨hw, fun p => Nat.add_le_add (hw p) (hr p), fun p hp h _ => .inl ((holdsItem_congr (he p hp)).2 h), hs⟩

theorem itemCount_congr {p : Port} {s t : State} (h : t.acts.workList = s.acts.workList) : itemCount p t = itemCount p s := by
  rw [itemCount, itemCount, h]

theorem runCount_congr {p : Port} {s t : State} (h : t.acts.running = s.acts.running) : runCount p t = runCount p s := by
  rw [runCount, runCount, h]

theorem itemLoad_congr {p : Port} {s t : State} (h : t.acts = s.acts) : itemLoad p t = itemLoad p s := by
  rw [itemLoad, itemLoad, itemCount_congr (congrArg _ h), runCount_congr (congrArg _ h)]

/-- A change of the Actuator Unit that gives no port an item. -/
theorem ItemsKept.of_acts {l : List Block} {s t : State} (h : ChangesOnly l s t) (hw : ∀ p, itemCount p t ≤ itemCount p s)
    (hr : t.acts.running = s.acts.running) (hp : Block.ports ∉ l := by decide) (hs : Block.restart ∉ l := by decide) :
    ItemsKept o s t :=
  .of_same hw (fun _ => (runCount_congr hr).le) (fun p _ => by rw [h.port p hp]) fun q hq => h.restart hs ▸ hq

/-- A change of the ports that leaves the executors alone. -/
theorem ItemsKept.of_ports {l : List Block} {s t : State} (h : ChangesOnly l s t)
    (he : ∀ p, o ≠ some p → (t.port p).executor = (s.port p).executor) (ha : Block.acts ∉ l := by decide)
    (hs : Block.restart ∉ l := by decide) : ItemsKept o s t :=
  have acts := h.acts ha
  .of_same (fun _ => (itemCount_congr (congrArg _ acts)).le) (fun _ => (runCount_congr (congrArg _ acts)).le) he
    fun _ hq => h.restart hs ▸ hq

/-- Notice Delivery leaves the executors alone (R124). -/
theorem ItemsKept.of_delivers {l : List Block} {d : Option Port} {s t : State} (k : Delivers d s t) (h : ChangesOnly l s t)
    (ha : Block.acts ∉ l := by decide) (hs : Block.restart ∉ l := by decide) : ItemsKept o s t := by
  refine .of_ports h (fun p _ => ?_) ha hs
  obtain ⟨-, -, he, -⟩ := k.ports p
  exact he

theorem ItemsKept.of_frame {l : List Block} {s t : State} (h : ChangesOnly l s t) (ha : Block.acts ∉ l := by decide)
    (hp : Block.ports ∉ l := by decide) (hs : Block.restart ∉ l := by decide) : ItemsKept o s t :=
  .of_ports h (fun p _ => by rw [h.port p hp]) ha hs

/-! ## Executors -/

theorem setExecutor_itemsKept (p : Port) (x : Executor) : ItemsKept (some p) s (s.setExecutor p x) := by
  refine .of_ports (setExecutor_frame s p x) fun q hq => ?_
  rw [setExecutor_port, if_neg fun e => hq (by rw [e])]

/-- The placing of a response may make a restart due, but begins none (R181). -/
theorem placeReply_itemsKept (p : Port) (req : Request) (r : Reply) : ItemsKept (some p) s (placeReply p req r s) := by
  have acts : (placeReply p req r s).acts = s.acts := (placeReply_frame s p req r).acts
  refine .of_same (fun _ => (itemCount_congr (congrArg _ acts)).le) (fun _ => (runCount_congr (congrArg _ acts)).le)
    (fun q hq => ?_) fun q hq => ?_
  · rw [placeReply_port, if_neg fun e => hq (by rw [e])]
  · rw [placeReply_restart] at hq
    split at hq
    · cases hq
    · exact hq

theorem respond_itemsKept (p : Port) (r : Reply) : ItemsKept (some p) s (respond p r s) := by
  unfold respond
  split
  · exact .ite (placeReply_itemsKept s p _ r) (setExecutor_itemsKept s p _)
  · exact .refl s

/-! ## An item answered -/

/-- From s to t port q, where there is one, has lost an item. -/
structure ItemSpent (q : Option Port) (s t : State) : Prop where
  kept : ItemsKept none s t
  spent : ∀ p, q = some p → itemLoad p t < itemLoad p s

theorem ItemSpent.trans {q : Option Port} {s t u : State} (h : ItemSpent q s t) (k : ItemsKept none t u) : ItemSpent q s u :=
  ⟨h.kept.trans k, fun p hp => Nat.lt_of_le_of_lt (k.load p) (h.spent p hp)⟩

/-- A port that has lost its item may be answered. -/
theorem ItemSpent.respond {p : Port} {s t : State} (h : ItemSpent (some p) s t) (r : Reply) :
    ItemsKept none s (Machine.respond p r t) := by
  have answered := respond_itemsKept t p r
  refine (h.kept.but.trans answered).of_gone fun hl => ?_
  have hlost := h.spent p rfl
  have hkept := answered.load p
  omega

theorem ItemSpent.respondItem {x : RunningItem} {s t : State} (h : ItemSpent x.wanted s t) (r : Reply) :
    ItemsKept none s (Machine.respondItem x r t) := by
  cases hw : x.wanted with
  | none =>
    have hnone : x.answer = false ∨ x.item.port = none := by
      unfold RunningItem.wanted at hw
      split at hw
      · exact .inr hw
      · exact .inl (by simp_all)
    rw [respondItem_none t hnone]
    exact h.kept
  | some p =>
    obtain ⟨ha, hp⟩ := RunningItem.wanted_some.1 hw
    rw [respondItem_some t ha hp]
    rw [hw] at h
    exact h.respond r

/-! ## The work list (R138, R155) -/

theorem countP_filter_le {α : Type} (p k : α → Bool) (l : List α) : (l.filter k).countP p ≤ l.countP p :=
  List.filter_sublist.countP_le

theorem setWorkList_filter_itemsKept (k : WorkItem → Bool) : ItemsKept o s (s.setWorkList (s.acts.workList.filter k)) :=
  .of_acts (setWorkList_frame s _) (fun _ => countP_filter_le _ k _) rfl

theorem setActuator_itemsKept (i : ActIx) (e : ActuatorEntry) : ItemsKept o s (s.setActuator i e) :=
  .of_acts (setActuator_frame s i e) (fun _ => Nat.le_refl _) rfl

theorem setInFlight_itemsKept (i : ActIx) (x : InFlight) : ItemsKept o s (setInFlight i x s) := setActuator_itemsKept s i _

theorem requestActuator_itemsKept : ItemsKept o s (requestActuator s) := .of_frame (requestActuator_frame s)

/-- An internal item is no port's. -/
theorem setWorkList_append_itemsKept {w : WorkItem} (hw : w.port = none) :
    ItemsKept o s (s.setWorkList (s.acts.workList ++ [w])) := by
  refine .of_acts (setWorkList_frame s _) (fun p => ?_) rfl
  simp [itemCount, List.countP_append, hw]

theorem recordMoment_itemsKept (m : Nat) (i : ActIx) : ItemsKept o s (recordMoment m i s) :=
  .of_acts (recordMoment_frame s m i) (fun _ => Nat.le_refl _) rfl

theorem restartRefresh_itemsKept (i : ActIx) : ItemsKept o s (restartRefresh i s) := by
  unfold restartRefresh
  split
  · exact .refl s
  · exact .ite (setActuator_itemsKept s i _) (.refl s)

theorem queuePolicy_itemsKept (m : Nat) (i : ActIx) : ItemsKept o s (queuePolicy m i s) := by
  have dropped : ItemsKept o s (recordMoment m i (dropRefresh i s)) :=
    (setWorkList_filter_itemsKept s _).trans (recordMoment_itemsKept _ m i)
  exact .ite (requestActuator_itemsKept s)
    ((dropped.trans (setWorkList_append_itemsKept _ rfl)).trans (requestActuator_itemsKept _))

theorem queueRefresh_itemsKept (i : ActIx) : ItemsKept o s (queueRefresh i s) :=
  .ite (.refl s) (((recordMoment_itemsKept s _ i).trans
    (setWorkList_append_itemsKept (recordMoment s.acts.moments.now i s) rfl)).trans (requestActuator_itemsKept _))

theorem applyPolicy_itemsKept (m : Nat) (i : ActIx) : ItemsKept o s (applyPolicy m i s) := by
  unfold applyPolicy
  split
  · exact .refl s
  · exact .ite (queuePolicy_itemsKept s m i) (.refl s)

/-! ## The end of a claim (R147) -/

/-- A COMMAND or EXCHANGE of the port leaves the work list. -/
theorem dismissed_itemSpent {p : Port} {i : ActIx} (h : s.acts.workList.any (isCommandOf p i) = true) :
    ItemSpent (some p) s (s.setWorkList (s.acts.workList.filter fun w => !isCommandOf p i w)) := by
  refine ⟨setWorkList_filter_itemsKept s _, fun q hq => ?_⟩
  cases hq
  obtain ⟨w, hw, hc⟩ := List.any_eq_true.1 h
  have fewer : (s.acts.workList.filter fun w => !isCommandOf p i w).countP (fun w => decide (w.port = some p))
      < s.acts.workList.countP fun w => decide (w.port = some p) := by
    rw [List.countP_eq_countP_filter_add s.acts.workList (fun w => decide (w.port = some p)) fun w => !isCommandOf p i w]
    have gone : 0 < (s.acts.workList.filter fun w => !!isCommandOf p i w).countP fun w => decide (w.port = some p) :=
      List.countP_pos_iff.2 ⟨w, List.mem_filter.2 ⟨hw, by simpa using hc⟩, by simpa using (isCommandOf_iff.1 hc).1⟩
    simpa using gone
  exact Nat.add_lt_add_right fewer _

theorem dismissCommand_itemsKept (p : Port) (i : ActIx) : ItemsKept none s (dismissCommand p i s) := by
  unfold dismissCommand
  split
  · next h => exact (dismissed_itemSpent s h).respond _
  · exact .refl s

theorem endClaim_itemsKept (m : Nat) (i : ActIx) : ItemsKept none s (endClaim m i s) := by
  unfold endClaim
  split
  · exact .refl s
  · exact ((setActuator_itemsKept s i _).trans (dismissCommand_itemsKept _ _ i)).trans (applyPolicy_itemsKept _ m i)

theorem endClaims_itemsKept (m : Nat) (who : Port → Bool) : ItemsKept none s (endClaims m who s) := by
  refine ItemsKept.foldl (fun u i => ?_) _ s
  split
  · exact .refl u
  · exact .ite (endClaim_itemsKept u m i) (.refl u)

theorem takeExpiry_itemsKept (i : ActIx) : ItemsKept none s (takeExpiry i s) := .ite (endClaim_itemsKept s _ i) (.refl s)

theorem takeExpiries_itemsKept : ItemsKept none s (takeExpiries s) := ItemsKept.foldl (fun u i => takeExpiry_itemsKept u i) _ s

/-! ## Live records and samples -/

theorem commitLive_itemsKept (d : Option Port) (i : PointIx) (x : LiveRecord) : ItemsKept none s (commitLive d i x s) := by
  obtain ⟨u, hdel, hframe, -, h | h⟩ := commitLive_cases s d i x
  · exact h ▸ .of_delivers hdel hframe
  · exact h ▸ (ItemsKept.of_delivers hdel hframe).trans (endClaims_itemsKept u _ _)

theorem takeSample_itemsKept (d : Option Port) (i : PointIx) (x : Sample) : ItemsKept none s (takeSample d i x s) := by
  cases h : s.descOf i with
  | none =>
    rw [takeSample_none s h]
    exact .refl s
  | some desc =>
    rw [takeSample_some s h]
    exact (ItemsKept.of_frame (marked_frame s i x)).trans (commitLive_itemsKept _ d i _)

theorem walk_itemsKept (d : Option Port) : ItemsKept o s (walk d s) := .of_delivers (walk_delivers s d) (walk_frame s d)

theorem handOver_itemsKept (t : Transaction) (e : ServedEntry) : ItemsKept none s (handOver t s e) := by
  unfold handOver
  repeat' split
  · exact .refl s
  · exact .refl s
  · exact takeSample_itemsKept s none _ _

theorem completeRead_itemsKept (t : Transaction) : ItemsKept none s (completeRead t s) := by
  have taken : ItemsKept none s (dropGrant (takeEnded s)) :=
    .of_frame ((setBus_frame s _).comp (dropGrant_frame _) (n := [.bus, .arb]))
  exact ((taken.trans (ItemsKept.foldl (fun u e => handOver_itemsKept u t e) _ _)).trans (.of_frame (setScan_frame _ _))).trans
    (walk_itemsKept _ none)

theorem takeFeedback_itemsKept (d : Option Port) (i : ActIx) (x : Sample) : ItemsKept none s (takeFeedback d i x s) := by
  unfold takeFeedback
  split
  · exact .refl s
  · exact takeSample_itemsKept s d _ x

/-! ## The item of the unit's tenure (R149 to R152) -/

theorem itemLoad_setRunning (p : Port) (x : Option RunningItem) : itemLoad p (s.setRunning x)
    = itemCount p s + if x.bind RunningItem.wanted = some p then 1 else 0 := rfl

/-- With nothing in the unit's tenure, no port has an item more. -/
theorem setRunning_none_itemsKept : ItemsKept o s (s.setRunning none) :=
  .of_same (fun _ => Nat.le_refl _) (fun _ => Nat.zero_le _) (fun _ _ => rfl) fun _ h => h

/-- The item x is the unit's: its port had it in s, it does not wait in t, and the executors are as they were. -/
structure ItemTaken (x : RunningItem) (s t : State) : Prop where
  kept : ItemsKept none s t
  taken : ∀ p, x.wanted = some p → itemCount p t < itemLoad p s
  executor : ∀ p, (t.port p).executor = (s.port p).executor

theorem ItemTaken.of_running {x : RunningItem} {s : State} (h : s.acts.running = some x) : ItemTaken x s s := by
  refine ⟨.refl s, fun p hp => ?_, fun _ => rfl⟩
  have hpos : 0 < runCount p s := runCount_pos.2 ⟨x, h, hp⟩
  unfold itemLoad
  omega

theorem ItemTaken.of_spent {x : RunningItem} {s t : State} (h : ItemSpent x.wanted s t)
    (he : ∀ p, (t.port p).executor = (s.port p).executor) : ItemTaken x s t :=
  ⟨h.kept, fun p hp => Nat.lt_of_le_of_lt (itemCount_le_load t p) (h.spent p hp), he⟩

theorem ItemTaken.trans {x : RunningItem} {s t u : State} (h : ItemTaken x s t) (k : ItemsKept none t u)
    (he : ∀ p, (u.port p).executor = (t.port p).executor) : ItemTaken x s u :=
  ⟨h.kept.trans k, fun p hp => Nat.lt_of_le_of_lt (k.items p) (h.taken p hp), fun p => (he p).trans (h.executor p)⟩

/-- The item leaves the tenure. -/
theorem ItemTaken.dropped {x : RunningItem} {s t : State} (h : ItemTaken x s t) : ItemSpent x.wanted s (t.setRunning none) :=
  ⟨h.kept.trans (setRunning_none_itemsKept t), h.taken⟩

/-- The item stands in the tenure, and its port holds on it still. -/
theorem ItemTaken.runs {x y : RunningItem} {s t : State} (h : ItemTaken x s t) (hy : y.wanted = x.wanted) :
    ItemsKept none s (t.setRunning (some y)) := by
  refine ⟨h.kept.items, fun p => ?_, fun p _ hs _ => .inl ((holdsItem_congr (h.executor p)).2 hs), h.kept.restart⟩
  rw [itemLoad_setRunning]
  split
  · next e => exact h.taken p (hy ▸ e)
  · exact (itemCount_le_load t p).trans (h.kept.load p)

theorem writeOutcome_itemsKept (d : Option Port) {w : WorkItem} {i : ActIx} (hw : w.target = i) (v : Word16)
    (f : Option FailReason) : ItemsKept o s (writeOutcome d w i v f s) := by
  obtain ⟨-, hrunning⟩ := writeOutcome_flight s d w i v f
  refine .of_same (fun p => ?_) (fun _ => (runCount_congr hrunning).le) (fun p _ => ?_) fun q hq => ?_
  · rw [itemCount, (writeOutcome_taken s d hw v f).work]
    split
    · exact countP_filter_le _ _ _
    · exact Nat.le_refl _
  · obtain ⟨-, -, he, -⟩ := (writeOutcome_delivers s d w i v f).ports p
    exact he
  · rwa [(writeOutcome_frame s d w i v f).restart] at hq

theorem writeOutcome_executor (d : Option Port) (w : WorkItem) (i : ActIx) (v : Word16) (f : Option FailReason) (p : Port) :
    ((writeOutcome d w i v f s).port p).executor = (s.port p).executor := by
  obtain ⟨-, -, he, -⟩ := (writeOutcome_delivers s d w i v f).ports p
  exact he

theorem dropRunning_itemsKept : ItemsKept o s (dropRunning s) := by
  unfold dropRunning
  split
  · exact .refl s
  · exact (setInFlight_itemsKept s _ .no).trans (setRunning_none_itemsKept _)

theorem closeTenure_itemsKept : ItemsKept o s (closeTenure s) := by
  have closed : ChangesOnly [.bus, .arb, .scan] s (((takeEnded s).setArb { s.arb with tenure := none, locked := .closed }).setScan
      { s.scan with inFlight := none }) :=
    ((setBus_frame s { s.bus with ended := none }).comp (setArb_frame _ _) (n := [.bus, .arb])).comp (setScan_frame _ _)
  exact ((ItemsKept.of_frame closed).trans (dropRunning_itemsKept _)).trans (requestActuator_itemsKept _)

theorem endTransaction_itemsKept (t : Transaction) : ItemsKept o s (endTransaction t s) := by
  unfold endTransaction
  simp only []
  split
  · exact (ItemsKept.of_frame (setBus_frame s _)).trans (closeTenure_itemsKept _)
  · exact .of_frame (setBus_frame s _)

theorem endBeat_itemsKept (t : Transaction) (b : Beat) (a e i : Bool) (x : Word16) : ItemsKept o s (endBeat t b a e i x s) := by
  unfold endBeat
  split
  · exact endTransaction_itemsKept s _
  · exact .ite (.of_frame (setBus_frame s _)) (endTransaction_itemsKept s _)

variable {s t : State} {x : RunningItem}

theorem ItemTaken.finished (h : ItemTaken x s t) (o : WriteOutcome) (z : Sample) : ItemsKept none s (finishExchange x o z t) := by
  have closed : ItemSpent x.wanted s ((setInFlight x.item.target .no (closeLocked t)).setRunning none) :=
    ((h.trans (.of_frame (closeLocked_frame t)) fun _ => rfl).trans (setInFlight_itemsKept _ _ .no) fun _ => rfl).dropped
  exact (((closed.trans (takeExpiry_itemsKept _ _)).trans (takeFeedback_itemsKept _ _ _ _)).respondItem _).trans
    (requestActuator_itemsKept _)

theorem ItemTaken.feedback (h : ItemTaken x s t) (o : WriteOutcome) : ItemsKept none s (beginFeedback x o t) := by
  unfold beginFeedback
  split
  · exact (h.runs (y := { x with outcome := some o }) rfl).trans (.of_frame (beginTransaction_frame _ _))
  · exact h.finished o _

theorem ItemTaken.exchangeWritten (h : ItemTaken x s t) (z : Transaction) : ItemsKept none s (completeExchangeWrite z x t) := by
  have ended : ItemTaken x s (takeEnded t) := h.trans (.of_frame (setBus_frame t _)) fun _ => rfl
  have written : ItemTaken x s (writeOutcome none x.item x.item.target x.value z.failure (takeEnded t)) :=
    ended.trans (writeOutcome_itemsKept _ none rfl _ _) (writeOutcome_executor _ none _ _ _ _)
  exact written.runs (y := { x with outcome := some ⟨z.failure, z.answered⟩ }) rfl

theorem ItemTaken.itemWritten (h : ItemTaken x s t) (z : Transaction) : ItemsKept none s (completeItemWrite z x t) := by
  have taken : ItemTaken x s (dropGrant (takeEnded t)) :=
    h.trans (.of_frame ((setBus_frame t _).comp (dropGrant_frame _) (n := [.bus, .arb]))) fun _ => rfl
  have closed : ItemSpent x.wanted s ((setInFlight x.item.target .no (dropGrant (takeEnded t))).setRunning none) :=
    (taken.trans (setInFlight_itemsKept _ _ .no) fun _ => rfl).dropped
  exact (((closed.trans (takeExpiry_itemsKept _ _)).trans (writeOutcome_itemsKept _ _ rfl _ _)).respondItem _).trans
    (requestActuator_itemsKept _)

/-! ## The unit's grant (R150 to R153) -/

theorem ItemTaken.begun (h : ItemTaken x s t) (z : Transaction) : ItemsKept none s (beginWrite x z t) := by
  have ran : ∀ f, ItemsKept none s ((setInFlight x.item.target f t).setRunning (some x)) := fun f =>
    (h.trans (setInFlight_itemsKept t _ f) fun _ => rfl).runs rfl
  exact (ItemsKept.ite ((ran _).trans (.of_frame (setArb_frame _ _))) (ran _)).trans (.of_frame (beginTransaction_frame _ _))

theorem ItemTaken.exchangeFailed (h : ItemTaken x s t) : ItemsKept none s (failExchangeWrite x t) :=
  ((h.trans (writeOutcome_itemsKept t _ rfl _ _) fun p => writeOutcome_executor _ _ _ _ _ _ p).trans
    (setInFlight_itemsKept _ _ _) fun _ => rfl).feedback _

theorem ItemSpent.writeFailed (h : ItemSpent x.wanted s t) : ItemsKept none s (failWrite x t) :=
  (((h.trans (.of_frame (dropGrant_frame t))).trans (writeOutcome_itemsKept _ _ rfl _ _)).respondItem _).trans
    (requestActuator_itemsKept _)

/-- An item that leaves the work list leaves it for its port. -/
theorem erased_itemSpent {w : WorkItem} (h : w ∈ s.acts.workList) : ItemSpent w.port s (s.setWorkList (s.acts.workList.erase w)) := by
  have sub : ∀ p, itemCount p (s.setWorkList (s.acts.workList.erase w)) ≤ itemCount p s := fun p =>
    List.erase_sublist.countP_le
  refine ⟨.of_acts (setWorkList_frame s _) sub rfl, fun p hp => Nat.add_lt_add_right ?_ _⟩
  have hpos : 0 < itemCount p s := itemCount_pos.2 ⟨w, h, hp⟩
  unfold itemCount at hpos ⊢
  rw [setWorkList_acts, List.countP_erase, if_pos ⟨h, by simpa using hp⟩]
  omega

theorem runItem_itemsKept {w : WorkItem} (d : ActDescriptor) (h : ItemSpent w.port s t)
    (he : ∀ p, (t.port p).executor = (s.port p).executor) : ItemsKept none s (runItem w d t) := by
  have spent : ∀ v, ItemSpent (RunningItem.wanted ⟨w, v, true, none⟩) s t := fun _ => h
  unfold runItem
  simp only []
  split
  · exact (ItemTaken.of_spent (spent _) he).begun _
  · exact .ite (ItemTaken.of_spent (spent _) he).exchangeFailed (spent _).writeFailed

variable (s)

theorem grantActuator_itemsKept : ItemsKept none s (grantActuator s) := by
  unfold grantActuator
  split
  · exact .of_frame (dropGrant_frame s)
  · next w hw =>
    obtain ⟨hmem, -⟩ := firstItem_some hw
    have spent := erased_itemSpent hmem
    simp only []
    split
    · exact (spent.kept.trans (.of_frame (dropGrant_frame _))).trans (requestActuator_itemsKept _)
    · exact runItem_itemsKept _ spent fun _ => rfl

end Sys2Proof.Machine
end

section
/-! SUPPORT. The grants, the ports, the requests and the restarts keep the items of the ports and the executors that hold on them. -/

set_option Elab.async false

namespace Sys2Proof.Machine

variable (s : State) {o : Option Port}

/-! ## Direct transfers and free grants -/

/-- A direct transfer is no item (R78). -/
theorem not_holdsItem_of_job {p : Port} {req : Request} {j : DirectJob} {s : State} (he : (s.port p).executor = .serving req)
    (hj : jobOf req = some j) : ¬ HoldsItem p s := by
  rintro ⟨r, hr, hk⟩
  cases he.symm.trans hr
  rcases hk with hk | hk
  · simp [jobOf, hk] at hj
  · simp [jobOf, hk] at hj

theorem grantDirect_itemsKept (p : Port) : ItemsKept none s (grantDirect p s) := by
  unfold grantDirect
  split
  · next he =>
    split
    · exact .of_frame (dropGrant_frame s)
    · next hj =>
      split
      · exact .of_frame (beginTransaction_frame s _)
      · exact ((ItemsKept.of_frame (dropGrant_frame s)).trans (respond_itemsKept _ p _)).of_but (not_holdsItem_of_job he hj)
  · exact .of_frame (dropGrant_frame s)

theorem respondDirect_itemsKept (p : Port) (t : Transaction) : ItemsKept none s (respondDirect p t s) := by
  unfold respondDirect
  split
  · next he =>
    split
    · exact .refl s
    · next hj => exact (respond_itemsKept s p _).of_but (not_holdsItem_of_job he hj)
  · exact .refl s

theorem completeDirect_itemsKept (p : Port) (t : Transaction) : ItemsKept none s (completeDirect p t s) := by
  have taken := (ItemsKept.of_frame (o := none) (setBus_frame s { s.bus with ended := none })).trans
    (.of_frame (setArb_frame _ { s.arb with tenure := none }))
  exact .ite taken (taken.trans (respondDirect_itemsKept _ p t))

theorem grantScanner_itemsKept : ItemsKept none s (grantScanner s) := by
  unfold grantScanner
  simp only []
  generalize examine s s.scan.ahead = x
  have sampled : ItemsKept none s (x.unreadable.foldl (fun s i => takeSample none i (.failed .address) s) s) :=
    ItemsKept.foldl (fun u i => takeSample_itemsKept u none i _) _ s
  generalize x.unreadable.foldl (fun s i => takeSample none i (.failed .address) s) s = u at sampled
  have passed : ItemsKept none s (walk none (dropGrant (u.setScan (passAll u.scan)))) :=
    ((sampled.trans (.of_frame (setScan_frame u _))).trans (.of_frame (dropGrant_frame _))).trans (walk_itemsKept _ none)
  repeat' split
  · exact passed
  · exact passed
  · exact (sampled.trans (.of_frame (setScan_frame u _))).trans (.of_frame (beginTransaction_frame _ _))

theorem freeGrant_itemsKept : ItemsKept none s (freeGrant s) := by
  have composed : ∀ who u, ItemsKept none u (composeFor who u) := fun who u => by
    cases who with
    | actuatorUnit => exact grantActuator_itemsKept u
    | direct p => exact grantDirect_itemsKept u p
    | scanner => exact grantScanner_itemsKept u
  unfold freeGrant
  simp only []
  split
  · exact takeExpiries_itemsKept s
  · exact ((takeExpiries_itemsKept s).trans (.of_frame (setArb_frame _ _))).trans (composed _ _)

/-! ## Receivers and transmitters (R164, R170 to R176) -/

theorem setPort_itemsKept (p : Port) (x : PortState) (h : x.executor = (s.port p).executor := by rfl) :
    ItemsKept o s (s.setPort p x) := by
  refine .of_ports (setPort_frame s p x) fun q _ => ?_
  rw [setPort_port]
  split
  · next e => rw [h, e]
  · rfl

theorem pushFrame_itemsKept (p : Port) (f : OutFrame) (v : Nat) : ItemsKept o s (pushFrame p f v s) :=
  (setPort_itemsKept s p _).trans (.of_frame (setReported_frame _ p v))

theorem placeIfRoom_itemsKept (p : Port) (k t : Byte) (r : Result) : ItemsKept o s (placeIfRoom p k t r s) :=
  .ite (pushFrame_itemsKept s p _ _) (.refl s)

theorem reportActivity_itemsKept (d : Option Port) (id : NoticeId) (a : Bool) : ItemsKept o s (reportActivity d id a s) :=
  .of_delivers (reportActivity_delivers s d id a) (reportActivity_frame s d id a)

theorem validFrame_itemsKept (p : Port) : ItemsKept o s (validFrame p s) := by
  unfold validFrame
  split
  · exact .ite ((ItemsKept.of_frame (setLink_frame s _)).trans (reportActivity_itemsKept _ _ _ _)) (.of_frame (setLink_frame s _))
  · exact .ite (.of_frame (setRoute_frame s _ _))
      ((ItemsKept.of_frame (setRoute_frame s _ _)).trans (reportActivity_itemsKept _ _ _ _))

theorem enqueue_itemsKept (p : Port) (req : Request) : ItemsKept o s (enqueue p req s) :=
  .ite (setPort_itemsKept s p _) (placeIfRoom_itemsKept s p _ _ _)

theorem checkRequest_itemsKept (p : Port) (req : Request) : ItemsKept o s (checkRequest p req s) := by
  have refused : ∀ r, ItemsKept o s (placeIfRoom p req.kind req.tag r s) := fun r => placeIfRoom_itemsKept s p _ _ r
  unfold checkRequest
  split
  · exact .ite (refused _) (.ite (refused _) (enqueue_itemsKept s p req))
  · exact .ite (enqueue_itemsKept s p req) (refused _)

theorem checkFrame_itemsKept (p : Port) (b : List Byte) : ItemsKept o s (checkFrame p b s) :=
  .ite ((validFrame_itemsKept s p).trans (checkRequest_itemsKept _ p _)) (.refl s)

theorem setReceiver_itemsKept (p : Port) (x : Receiver) : ItemsKept o s (setReceiver p x s) := setPort_itemsKept s p _

theorem takeByte_itemsKept (p : Port) (b : Byte) : ItemsKept o s (takeByte p b s) := by
  unfold takeByte
  split
  · exact .ite (setReceiver_itemsKept s p _) (.refl s)
  · exact .ite (setReceiver_itemsKept s p _)
      (.ite (setReceiver_itemsKept s p _) ((setReceiver_itemsKept s p _).trans (checkFrame_itemsKept _ p _)))

theorem releaseChipSelect_itemsKept (m : List Byte) (n : Nat) : ItemsKept o s (releaseChipSelect m n s) := by
  unfold releaseChipSelect
  simp only []
  have released := setPort_itemsKept (o := o) s .hut { s.port .hut with
    transmitter := hutTransmitter (m.length - (s.port .hut).clocked - n) s
    clocked := 0 }
  generalize s.setPort .hut _ = u at released ⊢
  repeat' split
  · exact released
  · exact released.trans (checkFrame_itemsKept u _ _)
  · exact released

theorem placeAnswer_itemsKept (k : ReferralIx) (q : Referral) (c : Byte) (b : List Byte) :
    ItemsKept o s (placeAnswer k q c b s) :=
  .of_ports (placeAnswer_frame s k q c b) fun p _ => placeAnswer_executor s k q c b p

theorem answerNoAnswer_itemsKept (k : ReferralIx) : ItemsKept o s (answerNoAnswer s k) := by
  unfold answerNoAnswer
  split
  · exact placeAnswer_itemsKept s k _ _ _
  · exact placeAnswer_itemsKept s k _ _ _
  · exact .refl s

/-- An executor that waits for room holds on no item. -/
theorem placeWaiting_itemsKept (p : Port) : ItemsKept none s (placeWaiting p s) := by
  unfold placeWaiting
  split
  · next he =>
    refine (placeReply_itemsKept s p _ _).of_but ?_
    rintro ⟨req, hr, -⟩
    rw [he] at hr
    cases hr
  · exact .of_ports (placeHeld_frame s p) fun q _ => placeHeld_executor s p q

theorem fillFreed_itemsKept (p : Port) : ItemsKept none s (fillFreed p s) := by
  have cleared : ∀ r, ItemsKept none s (setOwed r false s) := fun r => .of_frame (setOwed_frame s r false)
  unfold fillFreed
  split
  · exact placeWaiting_itemsKept s p
  · exact .ite (.ite ((cleared _).trans (pushFrame_itemsKept _ p _ _)) ((cleared _).trans (placeWaiting_itemsKept _ p)))
      (placeWaiting_itemsKept s p)

theorem beginFrame_itemsKept (p : Port) (b : List Byte) : ItemsKept o s (beginFrame p b s) := by
  unfold beginFrame
  split
  · exact (setPort_itemsKept s p _).trans (.of_frame (setRoute_frame _ _ _))
  · exact setPort_itemsKept s p _

theorem sendHead_itemsKept (p : Port) : ItemsKept none s (sendHead p s) := by
  unfold sendHead
  split
  · exact .refl s
  · exact ((setPort_itemsKept s p _).trans (beginFrame_itemsKept _ p _)).trans (fillFreed_itemsKept _ p)

/-! ## Requests of the Point Table, the Scanner and Clock Control -/

theorem serveDefinePoint_itemsKept (d : Option Port) (req : Request) : ItemsKept none s (serveDefinePoint d req s).1 := by
  unfold serveDefinePoint
  simp only []
  repeat' split
  · exact .refl s
  · exact .refl s
  · exact .refl s
  · exact .refl s
  · exact .of_delivers (acceptDefine_delivers s d _ _) (acceptDefine_frame s d _ _)

theorem serveSetLimits_itemsKept (d : Option Port) (req : Request) : ItemsKept none s (serveSetLimits d req s).1 := by
  unfold serveSetLimits
  simp only []
  repeat' split
  · exact .refl s
  · exact .refl s
  · exact .of_delivers (acceptLimits_delivers s d _ _ _) (acceptLimits_frame s d _ _ _)
  · exact .refl s

theorem serveUndefinePoint_itemsKept (d : Option Port) (req : Request) : ItemsKept none s (serveUndefinePoint d req s).1 := by
  unfold serveUndefinePoint
  simp only []
  repeat' split
  · exact .refl s
  · exact .refl s
  · simp only [answer_fst]
    exact .of_delivers (acceptUndefine_delivers s d _) (acceptUndefine_frame s d _)

theorem serveForcePoint_itemsKept (p : Port) (d : Option Port) (req : Request) :
    ItemsKept none s (serveForcePoint p d req s).1 := by
  unfold serveForcePoint
  simp only []
  repeat' split
  · exact .refl s
  · exact .refl s
  · exact .refl s
  · exact commitLive_itemsKept s d _ _

theorem serveUnforcePoint_itemsKept (p : Port) (d : Option Port) (req : Request) :
    ItemsKept none s (serveUnforcePoint p d req s).1 := by
  unfold serveUnforcePoint
  simp only []
  split
  · exact .refl s
  · split
    · exact .refl s
    · exact .ite (commitLive_itemsKept s d _ _) (.refl s)

theorem serveClearAsserted_itemsKept (p : Port) (d : Option Port) (req : Request) :
    ItemsKept none s (serveClearAsserted p d req s).1 := by
  unfold serveClearAsserted
  simp only []
  repeat' split
  · exact .refl s
  · exact .refl s
  · exact .refl s
  · exact commitLive_itemsKept s d _ _

theorem startCycle_itemsKept (d : Option Port) : ItemsKept o s (startCycle d s) :=
  .of_delivers (startCycle_delivers s d) (startCycle_frame s d)

theorem periodExpired_itemsKept : ItemsKept o s (periodExpired s) :=
  .ite (startCycle_itemsKept s none) (.ite (.of_frame (setScan_frame s _))
    (((ItemsKept.of_frame (setScan_frame s _)).trans (.of_frame (setScan_frame _ _))).trans (reportActivity_itemsKept _ _ _ _)))

theorem serveStartScan_itemsKept (d : Option Port) (req : Request) : ItemsKept none s (serveStartScan d req s).1 := by
  unfold serveStartScan
  simp only [scanAnswer]
  repeat' split
  · exact .refl s
  · exact (ItemsKept.of_frame (setScan_frame s _)).trans (startCycle_itemsKept _ d)
  · exact .of_frame (setScan_frame s _)

theorem serveStopScan_itemsKept (d : Option Port) (req : Request) : ItemsKept none s (serveStopScan d req s).1 := by
  unfold serveStopScan
  simp only [scanAnswer]
  split
  · exact .refl s
  · exact .ite ((ItemsKept.of_frame (setScan_frame s _)).trans (.of_delivers (endOverrun_delivers _ d) (endOverrun_frame _ d)))
      (.of_frame (setScan_frame s _))

theorem serveScanAdd_itemsKept (d : Option Port) (req : Request) : ItemsKept none s (serveScanAdd d req s).1 := by
  unfold serveScanAdd
  simp only []
  split
  · exact .refl s
  · exact .refl s
  · exact (ItemsKept.of_frame (scanAdded_frame s _ _)).trans (walk_itemsKept _ d)

theorem serveScanRemove_itemsKept (d : Option Port) (req : Request) : ItemsKept none s (serveScanRemove d req s).1 := by
  unfold serveScanRemove
  simp only []
  split
  · exact .refl s
  · exact .refl s
  · exact .of_frame (scanRemoved_frame s _ _)

theorem serveSetEconomy_itemsKept (d : Option Port) (req : Request) : ItemsKept none s (serveSetEconomy d req s).1 := by
  unfold serveSetEconomy
  split
  · exact .refl s
  · exact (ItemsKept.of_frame (setClock_frame s _)).trans
      (.of_delivers (reevaluateClock_delivers _ d) (reevaluateClock_frame _ d))

theorem enterClock_itemsKept : ItemsKept o s (enterClock s) := by
  unfold enterClock
  split
  · exact ((ItemsKept.of_frame (setClock_frame s _)).trans (.of_frame (setHold_frame _ false))).trans
      (.of_delivers (reportEconomy_delivers _ none true) (reportEconomy_frame _ none true))
  · exact (ItemsKept.of_frame (setClock_frame s _)).trans (.of_frame (setHold_frame _ false))
  · exact .refl s

/-! ## Requests of the Notice Table and Notice Delivery -/

/-- A change of the Notice Table, and what Notice Delivery makes of it (R124). -/
theorem settled_itemsKept (d : Option Port) {t : State} (h : ChangesOnly [.notices] s t) : ItemsKept o s (settle d t) :=
  (ItemsKept.of_frame h).trans (.of_delivers (settle_delivers t d) (settle_frame t d))

theorem acknowledge_itemsKept (p : Port) (d : Option Port) (n : Notice) : ItemsKept none s (acknowledge p d n s).1 := by
  unfold acknowledge
  split
  · exact .refl s
  · simp only [answer_fst]
    exact settled_itemsKept s d (updateNotice_frame s _ _)
  · simp only [answer_fst]
    exact settled_itemsKept s d (removeNotice_frame s _)

theorem serveAckNotice_itemsKept (p : Port) (d : Option Port) (req : Request) :
    ItemsKept none s (serveAckNotice p d req s).1 := by
  unfold serveAckNotice
  repeat' split
  · exact .refl s
  · exact .refl s
  · exact acknowledge_itemsKept s p d _
  · exact .refl s

theorem servePost_itemsKept (p : Port) (d : Option Port) (req : Request) : ItemsKept none s (servePost p d req s).1 := by
  have posted : ∀ k x, ItemsKept none s (settle d (postEntry k x (setPosting k (some x) s))) := fun k x =>
    settled_itemsKept s d ((setPosting_frame s k _).comp (postEntry_frame _ k x))
  unfold servePost
  simp only []
  repeat' split
  · exact .refl s
  · simp only [answer_fst]
    exact posted _ _
  · exact .refl s
  · simp only [answer_fst]
    exact posted _ _

theorem serveUnpost_itemsKept (p : Port) (d : Option Port) (req : Request) : ItemsKept none s (serveUnpost p d req s).1 := by
  unfold serveUnpost
  repeat' split
  · exact .refl s
  · exact .refl s
  · simp only [answer_fst]
    exact settled_itemsKept s d ((setPosting_frame s _ none).comp (applyReport_frame _ _ _))
  · exact .refl s

theorem serveSetGroupThreshold_itemsKept (d : Option Port) (req : Request) :
    ItemsKept none s (serveSetGroupThreshold d req s).1 := by
  unfold serveSetGroupThreshold
  simp only []
  split
  · simp only [answer_fst]
    exact settled_itemsKept s d (setNotices_frame s _)
  · exact .refl s

theorem serveFetchNotice_itemsKept (p : Port) (d : Option Port) (req : Request) :
    ItemsKept none s (serveFetchNotice p d req s).1 := by
  unfold serveFetchNotice
  split
  · exact .refl s
  · simp only [answer_fst]
    exact settled_itemsKept s d (updateNotice_frame s _ _)

theorem serveSetLevel_itemsKept (p : Port) (d : Option Port) (req : Request) : ItemsKept none s (serveSetLevel p d req s).1 := by
  simp only [serveSetLevel, answer_fst]
  exact (setPort_itemsKept s p _).trans (.of_delivers (settle_delivers _ d) (settle_frame _ d))

/-! ## Requests of the Actuator Unit (R139 to R145) -/

/-- The items that DEFINE ACTUATOR drops and queues are internal (R140). -/
theorem acceptActuator_itemsKept (d : Option Port) (i : ActIx) (x : ActDescriptor) : ItemsKept none s (acceptActuator d i x s) := by
  refine .of_same (fun p => ?_) (fun _ => (runCount_congr (acceptActuator_running s d i x)).le) (fun p _ => ?_) fun q hq => ?_
  · have internal : (if x.kind = .held then [WorkItem.policy i] else []).countP (fun w => decide (w.port = some p)) = 0 := by
      split <;> rfl
    rw [itemCount, acceptActuator_work, List.countP_append, internal]
    exact countP_filter_le _ _ _
  · obtain ⟨-, -, he, -⟩ := (acceptActuator_delivers s d i x).ports p
    exact he
  · rwa [(acceptActuator_frame_noClaim s d i x).restart] at hq

theorem acceptUndefineActuator_itemsKept (d : Option Port) (i : ActIx) : ItemsKept none s (acceptUndefineActuator d i s) :=
  (((ItemsKept.of_frame (removeNotice_frame s (.actuator i))).trans (setWorkList_filter_itemsKept _ _)).trans
    (setActuator_itemsKept _ i _)).trans (.of_delivers (settle_delivers _ d) (settle_frame _ d))

theorem serveDefineActuator_itemsKept (d : Option Port) (req : Request) : ItemsKept none s (serveDefineActuator d req s).1 := by
  unfold serveDefineActuator
  simp only []
  repeat' split
  · exact takeExpiry_itemsKept s _
  · exact takeExpiry_itemsKept s _
  · exact (takeExpiry_itemsKept s _).trans (acceptActuator_itemsKept _ d _ _)
  · exact .refl s

theorem serveUndefineActuator_itemsKept (d : Option Port) (req : Request) :
    ItemsKept none s (serveUndefineActuator d req s).1 := by
  unfold serveUndefineActuator
  simp only []
  repeat' split
  · exact .refl s
  · exact takeExpiry_itemsKept s _
  · exact takeExpiry_itemsKept s _
  · simp only [answer_fst]
    exact (takeExpiry_itemsKept s _).trans (acceptUndefineActuator_itemsKept _ d _)

theorem serveReadActuator_itemsKept (d : Option Port) (req : Request) : ItemsKept none s (serveReadActuator d req s).1 := by
  unfold serveReadActuator
  simp only []
  repeat' split
  · exact .refl s
  · exact takeExpiry_itemsKept s _
  · exact takeExpiry_itemsKept s _

theorem serveActuator_itemsKept {p : Port} {k : ActRequest} {v : Word16} {req : Request} {accept : ActIx → State → Served}
    (h : ∀ i u, ItemsKept none u (accept i u).1) : ItemsKept none s (serveActuator p k v req accept s).1 := by
  unfold serveActuator
  simp only []
  repeat' split
  · exact .refl s
  · exact takeExpiry_itemsKept s _
  · exact (takeExpiry_itemsKept s _).trans (h _ _)

theorem serveClaim_itemsKept (p : Port) (d : Option Port) (req : Request) : ItemsKept none s (serveClaim p d req s).1 :=
  serveActuator_itemsKept s fun i u => setActuator_itemsKept u i _

theorem serveRelease_itemsKept (p : Port) (d : Option Port) (req : Request) : ItemsKept none s (serveRelease p d req s).1 :=
  serveActuator_itemsKept s fun i u => endClaim_itemsKept u _ i

/-! ## The site points, the hut link and the route links -/

theorem acceptSitePoints_itemsKept (d : Option Port) (x y : Option PointIx) : ItemsKept none s (acceptSitePoints d x y s) := by
  have clocked : ItemsKept none s (siteClocked d x y s) := .of_delivers (siteClocked_delivers s d x y) (siteClocked_frame s d x y)
  rw [acceptSitePoints_eq]
  exact .ite (clocked.trans (endClaims_itemsKept _ _ _)) clocked

theorem serveSetSitePoints_itemsKept (d : Option Port) (req : Request) : ItemsKept none s (serveSetSitePoints d req s).1 := by
  unfold serveSetSitePoints
  simp only []
  repeat' split
  · exact .refl s
  · exact .refl s
  · exact acceptSitePoints_itemsKept s d _ _

theorem serveAnswerReferral_itemsKept (d : Option Port) (req : Request) :
    ItemsKept none s (serveAnswerReferral d req s).1 := by
  unfold serveAnswerReferral
  repeat' split
  · exact .refl s
  · exact .refl s
  · exact placeAnswer_itemsKept s _ _ _ _
  · exact .refl s

/-- The executor is IDLE as soon as the request is referred (R160). -/
theorem serveReferral_itemsKept (r : RoutePort) (d : Option Port) (req : Request) :
    ItemsKept (some (toPort r)) s (serveReferral r d req s).1 := by
  unfold serveReferral
  repeat' split
  · exact .refl s
  · exact .refl s
  · exact .refl s
  · exact (ItemsKept.of_frame (fillSlot_frame s _ r req)).trans (setExecutor_itemsKept _ _ _)

theorem muteHut_wanted (x : RunningItem) : (muteHut x).wanted = if x.wanted = some .hut then none else x.wanted := by
  unfold muteHut
  by_cases h : isItemOf .hut x.item = true
  · rw [if_pos h]
    have hp := port_of_isItemOf.1 h
    cases ha : x.answer <;> simp [RunningItem.wanted, ha, hp]
  · rw [if_neg h, if_neg fun hw => h (port_of_isItemOf.2 (RunningItem.wanted_some.1 hw).2)]

theorem hutItemsGone_runCount (p : Port) : runCount p (hutItemsGone s) = if p = .hut then 0 else runCount p s := by
  have running : (hutItemsGone s).acts.running.bind RunningItem.wanted
      = (s.acts.running.bind RunningItem.wanted).bind fun q => if q = .hut then none else some q := by
    show (s.acts.running.map muteHut).bind RunningItem.wanted = _
    cases s.acts.running with
    | none => rfl
    | some x =>
      simp only [Option.map_some, Option.bind_some, muteHut_wanted]
      cases hw : x.wanted with
      | none => rfl
      | some q => by_cases hq : q = .hut <;> simp [hq]
  unfold runCount
  rw [running]
  cases s.acts.running.bind RunningItem.wanted with
  | none => simp
  | some q => by_cases hq : q = .hut <;> by_cases hp : p = .hut <;> simp_all [eq_comm]

/-- The hut's executor is abandoned with its items, waiting and in flight (R148, R165). -/
theorem hutItemsGone_itemsKept : ItemsKept none s (hutItemsGone (hutPortEmptied s)) := by
  have emptied : ItemsKept (some .hut) s (hutPortEmptied s) := by
    refine .of_ports (hutPortEmptied_frame s) fun p hp => ?_
    rw [hutPortEmptied_port, if_neg fun e => hp (by rw [e])]
  have gone : ItemsKept (some .hut) (hutPortEmptied s) (hutItemsGone (hutPortEmptied s)) := by
    refine .of_same (fun p => countP_filter_le _ _ _) (fun p => ?_) (fun p _ => rfl) fun q hq => hq
    rw [hutItemsGone_runCount]
    split
    · exact Nat.zero_le _
    · exact Nat.le_refl _
  refine (emptied.trans gone).of_gone fun _ => ?_
  rw [itemLoad, itemCount_zero.2 (hutItemsGone_noItems _), hutItemsGone_runCount, if_pos rfl]

theorem restartHut_itemsKept : ItemsKept none s (restartHut s) := by
  rw [restartHut_eq, hutPathCleared, endHutClaims_eq]
  exact ((hutItemsGone_itemsKept s).trans (endClaims_itemsKept _ _ _)).trans
    (ItemsKept.foldl (fun u k => answerNoAnswer_itemsKept u k) _ _)

theorem serveRestartHut_itemsKept (r : RoutePort) (d : Option Port) (req : Request) :
    ItemsKept (some (toPort r)) s (serveRestartHut r d req s).1 := by
  unfold serveRestartHut
  split
  · exact .refl s
  · simp only []
    exact (respond_itemsKept s _ _).trans (restartHut_itemsKept _).but

theorem linkDown_itemsKept (r : RoutePort) : ItemsKept none s (linkDown r s) :=
  ((ItemsKept.of_frame (setRoute_frame s r _)).trans (reportActivity_itemsKept _ none _ true)).trans (endClaims_itemsKept _ _ _)

/-! ## The passing of time -/

theorem tick_itemsKept : ItemsKept none s (tick s) := by
  refine .of_same (fun _ => Nat.le_refl _) (fun _ => Nat.le_refl _) (fun p _ => ?_) fun _ hq => hq
  cases p <;> rfl

theorem secondTick_itemsKept {s t : State} (h : execSecondTick s = .next t) : ItemsKept none s t := by
  rcases event_cases h with rfl | ⟨-, -, rfl⟩
  · exact .refl _
  · exact .of_same (fun _ => Nat.le_refl _) (fun _ => Nat.le_refl _) (fun _ _ => rfl) fun _ hq => hq

/-! ## Supervision restart (R157, R181) -/

theorem ItemsHeld.of_none {s : State} (h : ∀ p, itemLoad p s = 0) : ItemsHeld s :=
  (itemsHeld_iff s).2 ⟨fun p => ⟨by rw [h p]; decide, fun hp => absurd (h p) (Nat.pos_iff_ne_zero.1 hp)⟩,
    fun _ _ p => Nat.le_zero.1 (h p ▸ itemCount_le_load s p)⟩

/-- With no item waiting, a restart may begin. -/
theorem ItemsHeld.restarting {s : State} (h : ItemsHeld s) (h0 : ∀ p, itemCount p s = 0) (r : RestartState) :
    ItemsHeld (s.setRestart r) :=
  (itemsHeld_iff _).2 ⟨((itemsHeld_iff s).1 h).1, fun _ _ => h0⟩

/-- Step 1 empties the work list (R157). -/
theorem beginRestart_itemsHeld {s : State} (h : ItemsHeld s) (p : Port) : ItemsHeld (beginRestart p s) := by
  have emptied : ItemsKept none s ((abandonCycle s).setWorkList []) :=
    (ItemsKept.of_frame ((setScannerWaiting_frame s false).comp (setScan_frame _ _) (n := [.arb, .scan]))).trans
      (.of_acts (setWorkList_frame _ []) (fun _ => Nat.zero_le _) rfl)
  have begun : ItemsHeld (restartBegun p s) :=
    (h.of_kept (emptied.trans (.of_frame (setArb_frame _ (arbiterRestart _))))).restarting (fun _ => rfl) (.running p)
  rw [beginRestart_eq]
  split
  · exact begun
  · exact begun.of_kept (closeTenure_itemsKept _)

/-- Step 4 gives up the item in flight, and the work list holds no port's item since step 1 (R157). -/
theorem finishRestart_itemsHeld {s : State} (h : ItemsHeld s) {p : Port} (hp : s.restart = .running p) :
    ItemsHeld (finishRestart p s) := by
  have acts : (finishRestart p s).acts = (restartCleared p s).acts := by
    have hframe := restarted_cleared_frame s p
    rw [finishRestart_eq, setRestart_acts]
    unfold restarted at hframe
    exact hframe.acts
  obtain ⟨-, hnone⟩ := (itemsHeld_iff s).1 h
  refine .of_none fun q => ?_
  have cleared : NoItems q (actuatorsCleared (restartNotices (restartPorts p s))) := itemCount_zero.1 (hnone p hp q)
  have waiting : NoItems q (restartCleared p s) := by
    have queued := cleared.of_workKept (restartActuators_queued _).work
    unfold NoItems at queued ⊢
    rwa [restartCleared_acts]
  have running : runCount q (restartCleared p s) = 0 := by
    rw [runCount, restartCleared_running]
    rfl
  rw [itemLoad_congr acts, itemLoad, itemCount_zero.2 waiting, running]

end Sys2Proof.Machine
end

section
/-! PROOFS. Every step keeps the executor of a port held on its one COMMAND or EXCHANGE (O60). -/

set_option Elab.async false

namespace Sys2Proof.Machine

variable (s : State)

/-! ## Events and rows -/

theorem event_itemsKept {e : Bool} {f : State → State} {s t : State} (h : event e f s = .next t)
    (hf : ItemsKept none s (f s)) : ItemsKept none s t := by
  rcases event_cases h with rfl | ⟨-, -, rfl⟩
  · exact .refl _
  · exact hf.trans (.of_frame (decideHreq_frame _))

/-- A request is taken by an IDLE executor with no restart in progress (R174, R181). -/
theorem serve_taken {p : Port} {accept : Request → Bool} {f : Option Port → Request → State → Served} {s t : State}
    (h : serve p accept f s = .next t) : t = s ∨ ∃ req, s.restart = .idle ∧ (s.port p).executor = .idle ∧ accept req = true
      ∧ (s.port p).requests.head? = some req ∧ t = decideHreq (finishService p (f (deferral s p) req (takeHead p s))) := by
  rcases event_cases h with rfl | ⟨-, hcan, ht⟩
  · exact .inl rfl
  · cases hq : headRequest s p with
    | none => simp [canTake, hq] at hcan
    | some req =>
      simp only [canTake, hq, Bool.and_eq_true, decide_eq_true_eq] at hcan
      obtain ⟨⟨hrestart, hidle⟩, haccept⟩ := hcan
      simp only [hq] at ht
      exact .inr ⟨req, hrestart, hidle, haccept, hq, ht⟩

theorem not_holdsItem_of_idle {p : Port} {s : State} (h : (s.port p).executor = .idle) : ¬ HoldsItem p s := by
  rintro ⟨req, hr, -⟩
  cases h.symm.trans hr

theorem takeHead_itemsKept (p : Port) : ItemsKept (some p) s (takeHead p s) := by
  unfold takeHead
  split
  · exact .refl s
  · refine .of_ports (setPort_frame s p _) fun q hq => ?_
    rw [setPort_port_ne s fun e => hq (by rw [e])]

theorem finishService_itemsKept (p : Port) (x : Served) : ItemsKept (some p) x.1 (finishService p x) := by
  obtain ⟨u, r⟩ := x
  cases r with
  | none => exact .refl u
  | some reply => exact respond_itemsKept u p reply

/-- A request row: an IDLE executor holds on no item, so that nothing of its port is to be kept. -/
theorem serve_itemsKept_but {p : Port} {accept : Request → Bool} {f : Option Port → Request → State → Served} {s t : State}
    (h : serve p accept f s = .next t) (hf : ∀ d req s, ItemsKept (some p) s (f d req s).1) : ItemsKept none s t := by
  rcases serve_taken h with rfl | ⟨req, -, hidle, -, -, rfl⟩
  · exact .refl _
  · have served := ((takeHead_itemsKept s p).trans (hf (deferral s p) req _)).trans (finishService_itemsKept p _)
    exact (served.of_but (not_holdsItem_of_idle hidle)).trans (.of_frame (decideHreq_frame _))

theorem serve_itemsKept {p : Port} {accept : Request → Bool} {f : Option Port → Request → State → Served} {s t : State}
    (h : serve p accept f s = .next t) (hf : ∀ d req s, ItemsKept none s (f d req s).1) : ItemsKept none s t :=
  serve_itemsKept_but h fun d req s => (hf d req s).but

/-- A request row whose service changes none of the actuators, the ports and the restart. -/
theorem serve_itemsKept_of_frame {l : List Block} {p : Port} {accept : Request → Bool}
    {f : Option Port → Request → State → Served} {s t : State} (h : serve p accept f s = .next t)
    (hf : ∀ d req s, ChangesOnly l s (f d req s).1) (ha : Block.acts ∉ l := by decide) (hp : Block.ports ∉ l := by decide)
    (hs : Block.restart ∉ l := by decide) : ItemsKept none s t :=
  serve_itemsKept h fun d req s => .of_frame (hf d req s) ha hp hs

/-- A request row whose service changes nothing. -/
theorem serve_itemsKept_of_read {p : Port} {accept : Request → Bool} {f : Option Port → Request → State → Served}
    {s t : State} (h : serve p accept f s = .next t) (hf : ∀ d req s, (f d req s).1 = s) : ItemsKept none s t :=
  serve_itemsKept h fun d req s => by rw [hf]; exact .refl s

/-! ## An accepted COMMAND or EXCHANGE (R149, R151) -/

/-- The executor of port p serves a COMMAND or EXCHANGE that has not joined the work list yet. -/
structure ItemServed (p : Port) (s : State) : Prop where
  held : ItemsHeld s
  free : itemLoad p s = 0
  holds : HoldsItem p s
  idle : ∀ q, s.restart ≠ .running q

theorem ItemServed.of_kept {p : Port} {s t : State} (h : ItemServed p s) (k : ItemsKept none s t)
    (he : (t.port p).executor = (s.port p).executor) : ItemServed p t :=
  ⟨h.held.of_kept k, Nat.le_zero.1 (h.free ▸ k.load p), (holdsItem_congr he).2 h.holds, fun q hq => h.idle q (k.restart q hq)⟩

theorem ItemServed.takeExpiry {p : Port} {s : State} (h : ItemServed p s) (i : ActIx) :
    ItemServed p (Machine.takeExpiry i s) := by
  have noItems : NoItems p s := itemCount_zero.1 (Nat.le_zero.1 (h.free ▸ itemCount_le_load s p))
  refine h.of_kept (takeExpiry_itemsKept s i) ?_
  unfold Machine.takeExpiry
  split
  · exact (endClaim_claimsEnd s noItems _ i).request.executor
  · rfl

theorem ItemServed.takeClaim {p : Port} {s : State} (h : ItemServed p s) (i : ActIx) (q : Port) (n : Nat) :
    ItemServed p (Machine.takeClaim i q n s) := h.of_kept (setActuator_itemsKept s i _) rfl

theorem queueItem_acts (i : ActIx) (v : Word16) (w : WorkItem) : (queueItem i v w s).acts
    = { (s.setActuator i { s.actuator i with requested := some v }).acts with workList := s.acts.workList ++ [w] } := by
  unfold queueItem
  simp only [requestActuator_acts]
  rfl

/-- The item joins the work list, and the executor holds on it. -/
theorem ItemServed.queued {p : Port} {s : State} (h : ItemServed p s) (i : ActIx) (v : Word16) {w : WorkItem}
    (hw : w.port = some p) : ItemsHeld (queueItem i v w s) := by
  have hframe := queueItem_frame s i v w
  have load : ∀ q, itemLoad q (queueItem i v w s) = itemLoad q s + if q = p then 1 else 0 := fun q => by
    have acts := queueItem_acts s i v w
    have count : itemCount q (queueItem i v w s) = itemCount q s + if q = p then 1 else 0 := by
      rw [itemCount, acts, itemCount, List.countP_append, List.countP_singleton, hw]
      simp [eq_comm]
    rw [itemLoad, itemLoad, count, runCount_congr (s := s) (by rw [acts]; rfl)]
    omega
  obtain ⟨hheld, -⟩ := (itemsHeld_iff s).1 h.held
  refine (itemsHeld_iff _).2 ⟨fun q => ?_, fun q hq => absurd (hframe.restart ▸ hq) (h.idle q)⟩
  have holds : HoldsItem q (queueItem i v w s) ↔ HoldsItem q s := holdsItem_congr (by rw [hframe.port])
  rw [PortHeld, load q, holds]
  split
  · next e =>
    subst e
    exact ⟨by rw [h.free], fun _ => h.holds⟩
  · exact hheld q

/-- A COMMAND or EXCHANGE that the checks refuse queues nothing; an accepted one joins the work list (R143, R149, R151). -/
theorem ItemServed.actuator {p : Port} {k : ActRequest} {v : Word16} {req : Request} {accept : ActIx → State → Served}
    {s : State} (h : ItemServed p s)
    (ha : ∀ i u, ItemServed p u → ItemsHeld (accept i u).1 ∧ (accept i u).2 = none) :
    ItemsKept none s (serveActuator p k v req accept s).1
      ∨ ItemsHeld (serveActuator p k v req accept s).1 ∧ (serveActuator p k v req accept s).2 = none := by
  unfold serveActuator
  simp only []
  repeat' split
  · exact .inl (.refl s)
  · exact .inl (takeExpiry_itemsKept s _)
  · exact .inr (ha _ _ (h.takeExpiry _))

/-- A COMMAND or EXCHANGE row. -/
theorem serveItem_itemsHeld {p : Port} {k : Kind} {f : Option Port → Request → State → Served} {s t : State}
    (h : serve p (ofKind k) f s = .next t) (hk : k = .command ∨ k = .exchange) (hi : ItemsHeld s)
    (hf : ∀ d req u, ItemServed p u → ItemsKept none u (f d req u).1 ∨ ItemsHeld (f d req u).1 ∧ (f d req u).2 = none) :
    ItemsHeld t := by
  rcases serve_taken h with rfl | ⟨req, hrestart, hidle, hkind, hq, rfl⟩
  · exact hi
  have unheld := not_holdsItem_of_idle hidle
  have taken := takeHead_itemsKept s p
  have free : itemLoad p (takeHead p s) = 0 := by
    obtain ⟨hheld, -⟩ := (itemsHeld_iff s).1 hi
    obtain ⟨-, hholds⟩ := hheld p
    have hzero : ¬ 0 < itemLoad p s := fun hpos => unheld (hholds hpos)
    have := taken.load p
    omega
  have serving : ItemServed p (takeHead p s) := by
    refine ⟨hi.of_kept (taken.of_but unheld), free, ⟨req, takeHead_executor hq, ?_⟩, fun q hq => ?_⟩
    · rw [ofKind, decide_eq_true_eq] at hkind
      rcases hk with rfl | rfl
      · exact .inl hkind
      · exact .inr hkind
    · cases hrestart.symm.trans (taken.restart q hq)
  refine ItemsHeld.of_kept ?_ (.of_frame (decideHreq_frame _))
  rcases hf (deferral s p) req _ serving with kept | ⟨held, hnone⟩
  · exact hi.of_kept (((taken.trans kept.but).trans (finishService_itemsKept p _)).of_but unheld)
  · generalize f (deferral s p) req (takeHead p s) = x at held hnone
    obtain ⟨u, r⟩ := x
    cases hnone
    exact held

theorem serveCommand_itemsHeld {p : Port} (d : Option Port) (req : Request) {u : State} (h : ItemServed p u) :
    ItemsKept none u (serveCommand p d req u).1
      ∨ ItemsHeld (serveCommand p d req u).1 ∧ (serveCommand p d req u).2 = none :=
  h.actuator fun i _ hu => ⟨hu.queued i _ rfl, rfl⟩

theorem serveExchange_itemsHeld {p : Port} (d : Option Port) (req : Request) {u : State} (h : ItemServed p u) :
    ItemsKept none u (serveExchange p d req u).1
      ∨ ItemsHeld (serveExchange p d req u).1 ∧ (serveExchange p d req u).2 = none :=
  h.actuator fun i _ hu => ⟨(hu.takeClaim i p _).queued i _ rfl, rfl⟩

/-! ## Events of the bus, the timers and the restart -/

theorem execBeatEnd_itemsKept {clock : Nat} {a e i : Bool} {x : Word16} {s t : State}
    (h : execBeatEnd clock a e i x s = .next t) : ItemsKept none s t := by
  unfold execBeatEnd at h
  repeat' split at h
  · exact event_itemsKept h (.refl s)
  · exact event_itemsKept h (.refl s)
  · exact event_itemsKept h (endBeat_itemsKept s _ _ _ _ _ _)

theorem exchangeBetween_some {x : RunningItem} {o : WriteOutcome} {s : State} (h : exchangeBetween s = some (x, o)) :
    s.acts.running = some x := by
  obtain ⟨y, hy, z, -, e⟩ : ∃ y, s.acts.running = some y ∧ ∃ z, y.outcome = some z ∧ (y, z) = (x, o) := by
    simpa [exchangeBetween, Option.bind_eq_some_iff] using h
  cases e
  exact hy

theorem execReservedGrant_itemsKept {s t : State} (h : execReservedGrant s = .next t) : ItemsKept none s t := by
  unfold execReservedGrant at h
  split at h
  · exact event_itemsKept h (.refl s)
  · next hx =>
    have taken := (ItemTaken.of_running (exchangeBetween_some hx)).trans (.of_frame (setArb_frame s (reserve s.arb))) fun _ => rfl
    exact event_itemsKept h (taken.feedback _)

theorem execReadCompletion_itemsKept {s t : State} (h : execReadCompletion s = .next t) : ItemsKept none s t := by
  unfold execReadCompletion at h
  split at h
  · exact event_itemsKept h (.refl s)
  · exact event_itemsKept h (completeRead_itemsKept s _)

theorem unitEnded_running {w : Bool} {t : Transaction} {x : RunningItem} {s : State} (h : unitEnded s w = some (t, x)) :
    s.acts.running = some x := by
  unfold unitEnded at h
  split at h
  · next hx =>
    split at h
    · cases h
      exact hx
    · cases h
  · cases h

theorem execActuatorWriteCompletion_itemsKept {s t : State} (h : execActuatorWriteCompletion s = .next t) :
    ItemsKept none s t := by
  unfold execActuatorWriteCompletion at h
  split at h
  · exact event_itemsKept h (.refl s)
  · next hx =>
    have running := ItemTaken.of_running (unitEnded_running hx)
    refine event_itemsKept h ?_
    split
    · exact running.exchangeWritten _
    · exact running.itemWritten _

theorem execExchangeReadCompletion_itemsKept {s t : State} (h : execExchangeReadCompletion s = .next t) :
    ItemsKept none s t := by
  unfold execExchangeReadCompletion at h
  split at h
  · exact event_itemsKept h (.refl s)
  · next hx =>
    have running := ItemTaken.of_running (unitEnded_running hx)
    have taken := running.trans (u := takeEnded s) (.of_frame (setBus_frame s _)) fun _ => rfl
    exact event_itemsKept h (taken.finished _ _)

theorem execDirectTransferCompletion_itemsKept {s t : State} (h : execDirectTransferCompletion s = .next t) :
    ItemsKept none s t := by
  unfold execDirectTransferCompletion at h
  repeat' split at h
  · exact event_itemsKept h (.refl s)
  · exact event_itemsKept h (completeDirect_itemsKept s _ _)
  · exact event_itemsKept h (.refl s)

theorem execLeaseExpiry_itemsKept {i : Nat} {s t : State} (h : execLeaseExpiry i s = .next t) : ItemsKept none s t := by
  unfold execLeaseExpiry at h
  split at h
  · exact event_itemsKept h (takeExpiry_itemsKept s _)
  · exact event_itemsKept h (.refl s)

theorem execRefreshTimerExpiry_itemsKept {i : Nat} {s t : State} (h : execRefreshTimerExpiry i s = .next t) :
    ItemsKept none s t := by
  unfold execRefreshTimerExpiry at h
  split at h
  · exact event_itemsKept h ((restartRefresh_itemsKept s _).trans (queueRefresh_itemsKept _ _))
  · exact event_itemsKept h (.refl s)

theorem execReferralTimeout_itemsKept {k : Nat} {s t : State} (h : execReferralTimeout k s = .next t) : ItemsKept none s t := by
  unfold execReferralTimeout at h
  split at h
  · exact event_itemsKept h (answerNoAnswer_itemsKept s _)
  · exact event_itemsKept h (.refl s)

theorem execSilenceTimerExpiry_itemsKept {s t : State} (h : execSilenceTimerExpiry s = .next t) : ItemsKept none s t :=
  event_itemsKept h ((ItemsKept.of_frame (setLink_frame s _)).trans (reportActivity_itemsKept _ none _ true))

theorem event_itemsHeld {e : Bool} {f : State → State} {s t : State} (h : event e f s = .next t) (hi : ItemsHeld s)
    (hf : ItemsHeld (f s)) : ItemsHeld t := by
  rcases event_cases h with rfl | ⟨-, -, rfl⟩
  · exact hi
  · exact hf.of_kept (.of_frame (decideHreq_frame _))

theorem execSupervisionRestart_itemsHeld {s t : State} (h : execSupervisionRestart s = .next t) (hi : ItemsHeld s) :
    ItemsHeld t := by
  unfold execSupervisionRestart at h
  split at h
  · exact event_itemsHeld h hi (beginRestart_itemsHeld hi _)
  · exact event_itemsHeld h hi hi

theorem execSupervisionRestartSteps_itemsHeld {s t : State} (h : execSupervisionRestartSteps s = .next t) (hi : ItemsHeld s) :
    ItemsHeld t := by
  unfold execSupervisionRestartSteps at h
  split at h
  · next hp => exact event_itemsHeld h hi (finishRestart_itemsHeld hi hp)
  · exact event_itemsHeld h hi hi

theorem powerOnReset_itemsHeld {s t : State} (h : execPowerOnReset s = .next t) : ItemsHeld t := by
  injection h with h
  subst h
  obtain ⟨-, -, -, -, -, -, -, -, -, -, -, -, hitems⟩ := resetMeetsInvariants
  exact hitems

theorem porRelease_itemsKept {a b : Bool} {s t : State} (h : execPorRelease a b s = .next t) : ItemsKept none s t := by
  unfold execPorRelease at h
  split at h
  · injection h with h
    exact h ▸ .of_same (fun _ => Nat.le_refl _) (fun _ => Nat.le_refl _) (fun _ _ => rfl) fun _ hq => hq
  · injection h with h
    exact h ▸ .refl s

/-! ## Every command -/

/-- The commands that give no port an item and begin or end no restart. -/
def keepsItems : Instr → Bool
  | .powerOnReset | .command _ | .exchange _ | .supervisionRestart | .supervisionRestartSteps => false
  | _ => true

theorem exec_itemsKept {c : Instr} {s t : State} (h : exec c s = .next t) (hc : keepsItems c = true) : ItemsKept none s t := by
  cases c with
  | powerOnReset => cases hc
  | porRelease a b => exact porRelease_itemsKept h
  | routeFrameComplete r b => exact event_itemsKept h (takeByte_itemsKept s _ b)
  | interByteTimeout r => exact event_itemsKept h (setReceiver_itemsKept s _ _)
  | framingError r => exact event_itemsKept h (setReceiver_itemsKept s _ _)
  | chipSelectRelease m n => exact event_itemsKept h (releaseChipSelect_itemsKept s m n)
  | linkTimeout r => exact event_itemsKept h (linkDown_itemsKept s r)
  | frameSent p => exact event_itemsKept h (sendHead_itemsKept s p)
  | definePoint p => exact serve_itemsKept h fun d req s => serveDefinePoint_itemsKept s d req
  | setLimits p => exact serve_itemsKept h fun d req s => serveSetLimits_itemsKept s d req
  | undefinePoint p => exact serve_itemsKept h fun d req s => serveUndefinePoint_itemsKept s d req
  | readPoint p => exact serve_itemsKept_of_read h fun d req s => serveReadPoint_fst s d req
  | readPoints p => exact serve_itemsKept_of_read h fun d req s => serveReadPoints_fst s d req
  | findTag p => exact serve_itemsKept_of_read h fun d req s => serveFindTag_fst s d req
  | forcePoint p => exact serve_itemsKept h fun d req s => serveForcePoint_itemsKept s p d req
  | unforcePoint p => exact serve_itemsKept h fun d req s => serveUnforcePoint_itemsKept s p d req
  | clearAsserted p => exact serve_itemsKept h fun d req s => serveClearAsserted_itemsKept s p d req
  | startScan => exact serve_itemsKept h fun d req s => serveStartScan_itemsKept s d req
  | stopScan => exact serve_itemsKept h fun d req s => serveStopScan_itemsKept s d req
  | setScanPeriod p => exact serve_itemsKept_of_frame h fun d req s => setScan_frame s _
  | scanAdd p => exact serve_itemsKept h fun d req s => serveScanAdd_itemsKept s d req
  | scanRemove p => exact serve_itemsKept h fun d req s => serveScanRemove_itemsKept s d req
  | readScanList p => exact serve_itemsKept_of_read h fun _ _ _ => rfl
  | setModuleClass p => exact serve_itemsKept_of_frame h fun d req s => serveSetModuleClass_frame s d req
  | assignModuleClass p => exact serve_itemsKept_of_frame h fun d req s => serveAssignModuleClass_frame s d req
  | readModuleClasses p => exact serve_itemsKept_of_read h fun _ _ _ => rfl
  | readModule p => exact serve_itemsKept_of_frame h fun d req s => serveDirect_frame s p d req
  | writeModule p => exact serve_itemsKept_of_frame h fun d req s => serveDirect_frame s p d req
  | setEconomy => exact serve_itemsKept h fun d req s => serveSetEconomy_itemsKept s d req
  | ackNotice p => exact serve_itemsKept h fun d req s => serveAckNotice_itemsKept s p d req
  | post p => exact serve_itemsKept h fun d req s => servePost_itemsKept s p d req
  | unpost p => exact serve_itemsKept h fun d req s => serveUnpost_itemsKept s p d req
  | setGroupThreshold p => exact serve_itemsKept h fun d req s => serveSetGroupThreshold_itemsKept s d req
  | fetchNotice p => exact serve_itemsKept h fun d req s => serveFetchNotice_itemsKept s p d req
  | fetchNoticeIdentity p => exact serve_itemsKept_of_read h fun d req s => serveFetchNoticeIdentity_fst s p d req
  | setLevel p => exact serve_itemsKept h fun d req s => serveSetLevel_itemsKept s p d req
  | readSummary p => exact serve_itemsKept_of_frame h fun d req s => serveReadSummary_frame s p d req
  | defineActuator p => exact serve_itemsKept h fun d req s => serveDefineActuator_itemsKept s d req
  | undefineActuator p => exact serve_itemsKept h fun d req s => serveUndefineActuator_itemsKept s d req
  | readActuator p => exact serve_itemsKept h fun d req s => serveReadActuator_itemsKept s d req
  | claim p => exact serve_itemsKept h fun d req s => serveClaim_itemsKept s p d req
  | release p => exact serve_itemsKept h fun d req s => serveRelease_itemsKept s p d req
  | command p => cases hc
  | exchange p => cases hc
  | takeReferral => exact serve_itemsKept_of_frame h fun d req s => serveTakeReferral_frame s d req
  | answerReferral => exact serve_itemsKept h fun d req s => serveAnswerReferral_itemsKept s d req
  | referral r => exact serve_itemsKept_but h fun d req s => serveReferral_itemsKept s r d req
  | restartHutController r => exact serve_itemsKept_but h fun d req s => serveRestartHut_itemsKept s r d req
  | setPermissions => exact serve_itemsKept_of_frame h fun d req s => serveSetPermissions_frame s d req
  | setSitePoints => exact serve_itemsKept h fun d req s => serveSetSitePoints_itemsKept s d req
  | identify p => exact serve_itemsKept_of_read h fun _ _ _ => rfl
  | restartSupervision p => exact serve_itemsKept_of_read h fun _ _ _ => rfl
  | supervisionRestart => cases hc
  | supervisionRestartSteps => cases hc
  | freeGrant => exact event_itemsKept h (freeGrant_itemsKept s)
  | reservedGrant => exact execReservedGrant_itemsKept h
  | beatEnd c a e i x => exact execBeatEnd_itemsKept h
  | busRecoveryEnd => exact .of_frame (execBusRecoveryEnd_frame h)
  | readCompletion => exact execReadCompletion_itemsKept h
  | periodTimerExpiry => exact event_itemsKept h (periodExpired_itemsKept s)
  | handoverBegin => exact .of_frame (execHandoverBegin_frame h)
  | handoverEnd => exact event_itemsKept h (enterClock_itemsKept s)
  | actuatorWriteCompletion => exact execActuatorWriteCompletion_itemsKept h
  | exchangeReadCompletion => exact execExchangeReadCompletion_itemsKept h
  | directTransferCompletion => exact execDirectTransferCompletion_itemsKept h
  | secondTick => exact secondTick_itemsKept h
  | leaseExpiry i => exact execLeaseExpiry_itemsKept h
  | refreshTimerExpiry i => exact execRefreshTimerExpiry_itemsKept h
  | referralTimeout k => exact execReferralTimeout_itemsKept h
  | pulseTimerExpiry => exact .of_frame (execPulseTimerExpiry_frame h)
  | silenceTimerExpiry => exact execSilenceTimerExpiry_itemsKept h
  | rxdByte r b => exact event_itemsKept h (takeByte_itemsKept s _ b)

theorem exec_itemsHeld {c : Instr} {s t : State} (h : exec c s = .next t) (hi : ItemsHeld s) : ItemsHeld t := by
  by_cases hc : keepsItems c = true
  · exact hi.of_kept (exec_itemsKept h hc)
  · cases c with
    | powerOnReset => exact powerOnReset_itemsHeld h
    | command p => exact serveItem_itemsHeld h (.inl rfl) hi fun d req _ hu => serveCommand_itemsHeld d req hu
    | exchange p => exact serveItem_itemsHeld h (.inr rfl) hi fun d req _ hu => serveExchange_itemsHeld d req hu
    | supervisionRestart => exact execSupervisionRestart_itemsHeld h hi
    | supervisionRestartSteps => exact execSupervisionRestartSteps_itemsHeld h hi
    | _ => exact absurd rfl hc

/-- Settles O60: a request is taken by an executor that holds on no item; an executor that holds on one goes on to something else only
as the item is answered or given up; and step 1 of a supervision restart empties the work list. -/
theorem itemsStayHeld : Obligations.ItemsStayHeld := by
  intro s t hi h
  unfold step at h
  split at h
  · injection h with h
    subst h
    exact hi.of_kept (.ite (.refl s) (tick_itemsKept s))
  · next c rest _ => exact exec_itemsHeld (s := { s with pending := rest }) h hi

end Sys2Proof.Machine
end

section
/-! SUPPORT. CLAIM, EXCHANGE, COMMAND and RELEASE: the checks of R143 row by row, and what follows them. -/

set_option Elab.async false

namespace Sys2Proof.Machine

/-! ## The rows of R143 -/

section rows
variable {s : State} {p : Port} {k : ActRequest} {i : ActIx} {v : Word16}

theorem checkActuator_undefined (hd : (s.actuator i).desc = none) : checkActuator s p k i v = some (bare .notDefined) := by
  simp [checkActuator, hd]

variable {d : ActDescriptor} (hd : (s.actuator i).desc = some d)
include hd

theorem checkActuator_noFeedback (hk : k = .exchange) (hf : d.feedback = none) :
    checkActuator s p k i v = some (bare .noFeedback) := by
  simp [checkActuator, hd, hk, hf]

section claims
variable (hk : k.claims = true) (hf : k = .exchange → d.feedback ≠ none)
include hk hf

theorem checkActuator_portProtected (hm : d.portMask.get p = false) :
    checkActuator s p k i v = some (bare .portProtected) := by
  have feedback : ¬ (k = .exchange ∧ d.feedback = none) := fun ⟨h, hn⟩ => hf h hn
  simp [checkActuator, hd, feedback, hk, hm]

variable (hm : d.portMask.get p = true)
include hm

theorem checkActuator_siteLocal (hp : isRoute p = true) (hs : siteAsserted s = true) :
    checkActuator s p k i v = some (bare .siteLocal) := by
  have feedback : ¬ (k = .exchange ∧ d.feedback = none) := fun ⟨h, hn⟩ => hf h hn
  simp [checkActuator, hd, feedback, hk, hm, hp, hs]

variable (hl : p = .hut ∨ siteAsserted s = false)
include hl

/-- A port of the mask that the site-local flag does not bar meets the checks on the holder and on the value. -/
theorem checkActuator_claims : checkActuator s p k i v
    = if (s.actuator i).holder ≠ none ∧ (s.actuator i).holder ≠ some p then some ⟨.heldBy, claimPart i (s.actuator i)⟩
      else if k.carriesValue = true ∧ d.maxValue.toNat < v.toNat then some (bare .outOfRange) else none := by
  have feedback : ¬ (k = .exchange ∧ d.feedback = none) := fun ⟨h, hn⟩ => hf h hn
  have admitted : ¬ (isRoute p = true ∧ siteAsserted s = true) := by
    rintro ⟨hr, hs⟩
    rcases hl with rfl | hl
    · cases hr
    · rw [hl] at hs
      cases hs
  simp [checkActuator, hd, feedback, hk, hm, admitted]

theorem checkActuator_heldBy {q : Port} (hh : (s.actuator i).holder = some q) (hq : q ≠ p) :
    checkActuator s p k i v = some ⟨.heldBy, claimPart i (s.actuator i)⟩ := by
  rw [checkActuator_claims hd hk hf hm hl, if_pos (by simp [hh, hq])]

variable (hh : (s.actuator i).holder = none ∨ (s.actuator i).holder = some p)
include hh

theorem checkActuator_claims_outOfRange (hc : k.carriesValue = true) (hv : d.maxValue.toNat < v.toNat) :
    checkActuator s p k i v = some (bare .outOfRange) := by
  rw [checkActuator_claims hd hk hf hm hl, if_neg fun ⟨hn, hp⟩ => hh.elim hn hp, if_pos ⟨hc, hv⟩]

theorem checkActuator_claims_admits (hv : k.carriesValue = true → v.toNat ≤ d.maxValue.toNat) :
    checkActuator s p k i v = none := by
  rw [checkActuator_claims hd hk hf hm hl, if_neg fun ⟨hn, hp⟩ => hh.elim hn hp,
    if_neg fun ⟨hc, hlt⟩ => Nat.not_lt.2 (hv hc) hlt]

end claims

section needs
variable (hk : k.claims = false)
include hk

/-- A request that takes no claim meets the checks on the holder and on the value alone. -/
theorem checkActuator_needs : checkActuator s p k i v
    = if (s.actuator i).holder ≠ some p then some ⟨.notHolder, claimPart i (s.actuator i)⟩
      else if k.carriesValue = true ∧ d.maxValue.toNat < v.toNat then some (bare .outOfRange) else none := by
  have feedback : k ≠ .exchange := by
    rintro rfl
    cases hk
  simp [checkActuator, hd, feedback, hk]

theorem checkActuator_notHolder (hh : (s.actuator i).holder ≠ some p) :
    checkActuator s p k i v = some ⟨.notHolder, claimPart i (s.actuator i)⟩ := by
  rw [checkActuator_needs hd hk, if_pos hh]

variable (hh : (s.actuator i).holder = some p)
include hh

theorem checkActuator_needs_outOfRange (hc : k.carriesValue = true) (hv : d.maxValue.toNat < v.toNat) :
    checkActuator s p k i v = some (bare .outOfRange) := by
  rw [checkActuator_needs hd hk, if_neg (not_not.2 hh), if_pos ⟨hc, hv⟩]

theorem checkActuator_needs_admits (hv : k.carriesValue = true → v.toNat ≤ d.maxValue.toNat) :
    checkActuator s p k i v = none := by
  rw [checkActuator_needs hd hk, if_neg (not_not.2 hh), if_neg fun ⟨hc, hlt⟩ => Nat.not_lt.2 (hv hc) hlt]

end needs

end rows

theorem takeHead_checkActuator (s : State) (p q : Port) (k : ActRequest) (i : ActIx) (v : Word16) :
    checkActuator (takeHead q s) p k i v = checkActuator s p k i v := by
  have site : siteAsserted (takeHead q s) = siteAsserted s := siteAsserted_congr (takeHead_point s q) (takeHead_siteLocal s q)
  simp only [checkActuator, takeHead_actuator, site]

/-! ## Requests that name an actuator -/

theorem actIxOf_none {b : Byte} (h : 31 < b.toNat) : actIxOf b = none := by
  rw [actIxOf, dif_neg (by omega)]

section served
variable {s : State} {p : Port} {k : ActRequest} {v : Word16} {req : Request} {accept : ActIx → State → Served}

theorem serveActuator_noActuator (h : 31 < (byteAt req.body 0).toNat) :
    serveActuator p k v req accept s = (s, some ⟨.outOfRange, []⟩) := by
  simp only [serveActuator, actIxOf_none h]
  rfl

variable {i : ActIx} (hi : (byteAt req.body 0).toNat = i.val) (hx : expiryDue s i = false)
include hi hx

/-- A request for an actuator that exists, once it is taken: with no expiry due, the checks of R143 decide. -/
theorem serveActuator_refused {r : Reply} (h : checkActuator s p k i v = some r) :
    serveActuator p k v req accept (takeHead p s) = (takeHead p s, some r) := by
  simp only [serveActuator, actIxOf_some hi, takeExpiry_none _ ((takeHead_expiryDue s p i).trans hx), takeHead_checkActuator, h]
  rfl

theorem serveActuator_admitted (h : checkActuator s p k i v = none) :
    serveActuator p k v req accept (takeHead p s) = accept i (takeHead p s) := by
  simp only [serveActuator, actIxOf_some hi, takeExpiry_none _ ((takeHead_expiryDue s p i).trans hx), takeHead_checkActuator, h]

end served

end Sys2Proof.Machine
end

section
/-! PROOFS. The refusals of CLAIM, EXCHANGE, COMMAND and RELEASE (O40). -/

set_option Elab.async false

namespace Sys2Proof.Machine

/-! ## The four kinds as the columns of R143 -/

/-- The kind of a column. -/
def ActRequest.kind : ActRequest → Kind
  | .claim => .claim
  | .exchange => .exchange
  | .command => .command
  | .release => .release

/-- The row of a column on a port. -/
def ActRequest.instr (p : Port) : ActRequest → Instr
  | .claim => .claim p
  | .exchange => .exchange p
  | .command => .command p
  | .release => .release p

/-- The value that the checks see: that of the request where it carries one. -/
def ActRequest.value (req : Request) : ActRequest → Word16
  | .claim => 0
  | .exchange => word16At req.body 1
  | .command => word16At req.body 1
  | .release => 0

/-- Each of the four rows runs the checks of its column. -/
theorem actRequest_row (k : ActRequest) (p : Port) : ∃ accept : Request → ActIx → State → Served, ∀ s,
    exec (k.instr p) s = serve p (ofKind k.kind) (fun _ req u => serveActuator p k (k.value req) req (accept req) u) s := by
  cases k with
  | claim => exact ⟨fun req i s =>
      let s1 := takeClaim i p (clampLease (word16At req.body 1).toNat) s
      answer s1 ⟨.ok, claimPart i (s1.actuator i)⟩, fun _ => rfl⟩
  | exchange => exact ⟨fun req i s => (queueItem i (word16At req.body 1) (.exchange p i (word16At req.body 1))
      (takeClaim i p (exchangeLease (s.actuator i) (word16At req.body 3).toNat) s), none), fun _ => rfl⟩
  | command => exact ⟨fun req i s => (queueItem i (word16At req.body 1) (.command p i (word16At req.body 1)) s, none),
      fun _ => rfl⟩
  | release => exact ⟨fun _ i s =>
      let s1 := endClaim (nextMoment s) i s
      answer s1 ⟨.ok, claimPart i (s1.actuator i)⟩, fun _ => rfl⟩

section asked
variable {k : ActRequest} {p : Port} {s : State} {req : Request} (h : Asked k.kind p s req)
include h

/-- A refusal of R143 is the only answer. -/
theorem actRequest_refused {i : ActIx} {r : Reply} (hi : (byteAt req.body 0).toNat = i.val) (hx : expiryDue s i = false)
    (hr : checkActuator s p k i (k.value req) = some r) : AnswersOnly (k.instr p) p req r.result r.body s := by
  obtain ⟨accept, hrow⟩ := actRequest_row k p
  exact answersOnly_of_kind h (by cases k <;> decide) (hrow s) (serveActuator_refused hi hx hr)

theorem actRequest_noActuator (hb : 31 < (byteAt req.body 0).toNat) : AnswersOnly (k.instr p) p req .outOfRange [] s := by
  obtain ⟨accept, hrow⟩ := actRequest_row k p
  exact answersOnly_of_kind h (by cases k <;> decide) (hrow s) (serveActuator_noActuator hb)

end asked

/-- One of the four rows is that of a column. -/
theorem actRequest_of_row {p : Port} {k : Kind} {c : Instr} (h : (k, c) = (.claim, .claim p) ∨ (k, c) = (.exchange, .exchange p)
    ∨ (k, c) = (.command, .command p) ∨ (k, c) = (.release, .release p)) : ∃ K : ActRequest, k = K.kind ∧ c = K.instr p := by
  rcases h with h | h | h | h
  · exact ⟨.claim, congrArg Prod.fst h, congrArg Prod.snd h⟩
  · exact ⟨.exchange, congrArg Prod.fst h, congrArg Prod.snd h⟩
  · exact ⟨.command, congrArg Prod.fst h, congrArg Prod.snd h⟩
  · exact ⟨.release, congrArg Prod.fst h, congrArg Prod.snd h⟩

/-- An actuator that does not exist is out of range for every request (R139, R141 to R143). -/
theorem noActuator_outOfRange {p : Port} {s : State} {req : Request} {k : Kind} {c : Instr} (hb : 31 < (byteAt req.body 0).toNat)
    (hc : (k, c) = (.claim, .claim p) ∨ (k, c) = (.exchange, .exchange p) ∨ (k, c) = (.command, .command p)
      ∨ (k, c) = (.release, .release p) ∨ (k, c) = (.readActuator, .readActuator p)
      ∨ (k, c) = (.defineActuator, .defineActuator p) ∨ (k, c) = (.undefineActuator, .undefineActuator p))
    (h : Asked k p s req) : AnswersOnly c p req .outOfRange [] s := by
  have four : ((k, c) = (.claim, .claim p) ∨ (k, c) = (.exchange, .exchange p) ∨ (k, c) = (.command, .command p)
      ∨ (k, c) = (.release, .release p)) → AnswersOnly c p req .outOfRange [] s := fun hrow => by
    obtain ⟨K, rfl, rfl⟩ := actRequest_of_row hrow
    exact actRequest_noActuator h hb
  rcases hc with hc | hc | hc | hc | hc | hc | hc
  · exact four (.inl hc)
  · exact four (.inr (.inl hc))
  · exact four (.inr (.inr (.inl hc)))
  · exact four (.inr (.inr (.inr hc)))
  · cases hc
    exact answersOnly_of_kind h (by decide) rfl (by simp only [serveReadActuator, actIxOf_none hb]; rfl)
  · cases hc
    exact answersOnly_of_kind h (by decide) rfl (by simp only [serveDefineActuator, actIxOf_none hb]; rfl)
  · cases hc
    exact answersOnly_of_kind h (by decide) rfl (by simp only [serveUndefineActuator, actIxOf_none hb]; rfl)

theorem isRoute_of_ne {p : Port} (h : p ≠ .hut) : isRoute p = true := by
  cases p with
  | east => rfl
  | west => rfl
  | hut => exact absurd rfl h

theorem ActRequest.kind_exchange {k : ActRequest} (h : k.kind = .exchange) : k = .exchange := by
  cases k with
  | exchange => rfl
  | claim => cases h
  | command => cases h
  | release => cases h

theorem ActRequest.kind_command {k : ActRequest} (h : k.kind = .command) : k = .command := by
  cases k with
  | command => rfl
  | claim => cases h
  | exchange => cases h
  | release => cases h

/-- CLAIM and EXCHANGE take claims. -/
theorem ActRequest.claims_of_kind {k : ActRequest} {P : Prop} (h : k.kind = .claim ∨ k.kind = .exchange ∧ P) :
    k.claims = true ∧ (k = .exchange → P) := by
  rcases h with h | ⟨h, hp⟩
  · cases k with
    | claim => exact ⟨rfl, nofun⟩
    | exchange => cases h
    | command => cases h
    | release => cases h
  · cases kind_exchange h
    exact ⟨rfl, fun _ => hp⟩

/-- COMMAND and RELEASE take none. -/
theorem ActRequest.not_claims_of_kind {k : ActRequest} (h : k.kind = .command ∨ k.kind = .release) : k.claims = false := by
  cases k with
  | command => rfl
  | release => rfl
  | claim => rcases h with h | h <;> cases h
  | exchange => rcases h with h | h <;> cases h

/-- Settles O40: each row of R143 is one equation of the checks. -/
theorem actuatorRequestsRefusedInOrder : Obligations.ActuatorRequestsRefusedInOrder := by
  refine ⟨fun p s req k c hb hc h => noActuator_outOfRange hb hc h, fun p s req i hi hx k c hc h => ?_⟩
  obtain ⟨K, rfl, rfl⟩ := actRequest_of_row hc
  have refused : ∀ {r : Reply}, checkActuator s p K i (K.value req) = some r →
      AnswersOnly (K.instr p) p req r.result r.body s := fun hr => actRequest_refused h hi hx hr
  refine ⟨fun hd => refused (checkActuator_undefined hd), fun d hd => ⟨fun hk hf => ?_, fun hk => ?_, fun hk => ?_⟩⟩
  · exact refused (checkActuator_noFeedback hd (ActRequest.kind_exchange hk) hf)
  · obtain ⟨hclaims, hf⟩ := ActRequest.claims_of_kind hk
    refine ⟨fun hm => refused (checkActuator_portProtected hd hclaims hf hm),
      fun hm hp hs => refused (checkActuator_siteLocal hd hclaims hf hm (isRoute_of_ne hp) hs), fun hm hl => ⟨fun q hq hne => ?_,
      fun hh hx hv => ?_⟩⟩
    · exact refused (checkActuator_heldBy hd hclaims hf hm hl hq hne)
    · cases ActRequest.kind_exchange hx
      exact refused (checkActuator_claims_outOfRange hd hclaims hf hm hl hh rfl hv)
  · have hclaims := ActRequest.not_claims_of_kind hk
    refine ⟨fun hh => refused (checkActuator_notHolder hd hclaims hh), fun hh hx hv => ?_⟩
    cases ActRequest.kind_command hx
    exact refused (checkActuator_needs_outOfRange hd hclaims hh rfl hv)

end Sys2Proof.Machine
end

section
/-! PROOFS. COMMAND and EXCHANGE join the work list (O42). -/

set_option Elab.async false

namespace Sys2Proof.Machine

/-! ## The item that is queued (R138, R149) -/

/-- The unit asks for the bus for the item, unless it has a tenure (R138). -/
theorem queueItem_arb (s : State) (i : ActIx) (v : Word16) (w : WorkItem) : (queueItem i v w s).arb
    = { s.arb with waiting := { s.arb.waiting with
        actuatorUnit := s.arb.waiting.actuatorUnit || decide (s.arb.tenure ≠ some .actuatorUnit) } } := by
  unfold queueItem requestActuator
  by_cases ht : s.arb.tenure = some .actuatorUnit
  · rw [if_neg fun h => h.2 ht, decide_eq_false (not_not.2 ht), Bool.or_false]
    rfl
  · rw [if_pos ⟨by simp, ht⟩, decide_eq_true ht, Bool.or_true]
    rfl

/-- The lease that an EXCHANGE leaves, in its three cases (R151). -/
theorem exchangeLease_free {e : ActuatorEntry} {n : Nat} (hn : n = 0) (he : e.holder = none) : exchangeLease e n = 60 := by
  rw [exchangeLease, if_pos hn, if_pos he]

theorem exchangeLease_held {e : ActuatorEntry} {n : Nat} {p : Port} (hn : n = 0) (he : e.holder = some p) :
    exchangeLease e n = e.lease := by
  rw [exchangeLease, if_pos hn, if_neg (by simp [he])]

theorem exchangeLease_asked {e : ActuatorEntry} {n : Nat} (hn : n ≠ 0) : exchangeLease e n = min 3600 n := by
  rw [exchangeLease, if_neg hn, clampLease, Nat.max_eq_right (Nat.one_le_iff_ne_zero.2 hn)]

section queued
variable {s : State} {p : Port} {req : Request} {i : ActIx} {d : ActDescriptor} {v : Word16}

/-- A request whose item is queued holds the executor, and changes the Actuator Unit and the arbiter's waiting set alone. -/
theorem serve_queued {k : Kind} {f : Option Port → Request → State → Served} {u : State} {w : WorkItem} (h : Taken s p req)
    (hk : kindOf req.kind = some k) (hf : ∀ d, f d req (takeHead p s) = (queueItem i v w u, none))
    (hu : ChangesOnly [.acts] (takeHead p s) u) :
    ∃ t, serve p (ofKind k) f s = .next t ∧ Holding p req s t ∧ ChangesOnly [.acts, .arb, .ports, .hreq] s t
      ∧ t.acts = { (u.setActuator i { u.actuator i with requested := some v }).acts with workList := u.acts.workList ++ [w] }
      ∧ t.arb = { s.arb with waiting := { s.arb.waiting with
          actuatorUnit := s.arb.waiting.actuatorUnit || decide (s.arb.tenure ≠ some .actuatorUnit) } } := by
  have queued := hu.comp (queueItem_frame u i v w) (n := [.acts, .arb])
  have accepted : ofKind k req = true := by simp [ofKind, hk]
  obtain ⟨t, ht, hold, hkept⟩ := serve_held h accepted hf queued.ports (queued.routes.trans (takeHead_frame s p).routes)
  refine ⟨t, ht, hold, ((takeHead_frame s p).comp queued (n := [.ports, .acts, .arb])).comp hkept, ?_, ?_⟩
  · rw [hkept.acts, queueItem_acts]
  · rw [hkept.arb, queueItem_arb, hu.arb, takeHead_arb]

variable (hi : (byteAt req.body 0).toNat = i.val) (hx : expiryDue s i = false) (hd : (s.actuator i).desc = some d)
  (hv : word16At req.body 1 = v) (hmax : v.toNat ≤ d.maxValue.toNat)
include hi hx hd hv hmax

theorem command_queued (h : Taken s p req) (hk : kindOf req.kind = some .command) (hh : (s.actuator i).holder = some p) :
    ∃ t, exec (.command p) s = .next t ∧ Holding p req s t ∧ ChangesOnly [.acts, .arb, .ports, .hreq] s t
      ∧ t.acts = { (s.setActuator i { s.actuator i with requested := some v }).acts with
          workList := s.acts.workList ++ [.command p i v] }
      ∧ t.arb = { s.arb with waiting := { s.arb.waiting with
          actuatorUnit := s.arb.waiting.actuatorUnit || decide (s.arb.tenure ≠ some .actuatorUnit) } } := by
  subst hv
  have admitted := checkActuator_needs_admits (k := .command) hd rfl hh fun _ => hmax
  have served : ∀ d, serveCommand p d req (takeHead p s)
      = (queueItem i (word16At req.body 1) (.command p i (word16At req.body 1)) (takeHead p s), none) := fun _ => by
    rw [serveCommand, serveActuator_admitted hi hx admitted]
  obtain ⟨t, ht, hold, hframe, hacts, harb⟩ := serve_queued h hk served (.refl _ _)
  refine ⟨t, ht, hold, hframe, ?_, harb⟩
  rw [hacts, takeHead_actuator, setActuator_acts, takeHead_acts, ← setActuator_acts]

/-- An accepted EXCHANGE takes or renews the claim for the lease of R151. -/
theorem exchange_queued (h : Taken s p req) (hk : kindOf req.kind = some .exchange) (hf : d.feedback ≠ none)
    (hm : d.portMask.get p = true) (hl : p = .hut ∨ siteAsserted s = false)
    (hh : (s.actuator i).holder = none ∨ (s.actuator i).holder = some p) :
    ∃ t, exec (.exchange p) s = .next t ∧ Holding p req s t ∧ ChangesOnly [.acts, .arb, .ports, .hreq] s t
      ∧ t.acts = { (s.setActuator i { s.actuator i with
            requested := some v
            holder := some p
            lease := exchangeLease (s.actuator i) (word16At req.body 3).toNat }).acts with
          workList := s.acts.workList ++ [.exchange p i v] }
      ∧ t.arb = { s.arb with waiting := { s.arb.waiting with
          actuatorUnit := s.arb.waiting.actuatorUnit || decide (s.arb.tenure ≠ some .actuatorUnit) } } := by
  subst hv
  have admitted := checkActuator_claims_admits (k := .exchange) hd rfl (fun _ => hf) hm hl hh fun _ => hmax
  have served : ∀ d, serveExchange p d req (takeHead p s)
      = (queueItem i (word16At req.body 1) (.exchange p i (word16At req.body 1))
        (takeClaim i p (exchangeLease ((takeHead p s).actuator i) (word16At req.body 3).toNat) (takeHead p s)), none) := fun _ => by
    rw [serveExchange, serveActuator_admitted hi hx admitted]
  obtain ⟨t, ht, hold, hframe, hacts, harb⟩ := serve_queued h hk served (takeClaim_frame _ _ _ _)
  refine ⟨t, ht, hold, hframe, ?_, harb⟩
  rw [hacts]
  simp [takeClaim, Vector.set_set]

end queued

/-- Settles O42: an accepted request is admitted by the checks of R143, and its item joins the work list. -/
theorem commandAndExchangeQueued : Obligations.CommandAndExchangeQueued := by
  intro p s req i d v hi hx hd hv hmax
  refine ⟨fun h hk hh => command_queued hi hx hd hv hmax h hk hh, fun h hk hf hm hl hh => ?_⟩
  obtain ⟨t, ht, hold, hframe, hacts, harb⟩ := exchange_queued hi hx hd hv hmax h hk hf hm hl hh
  refine ⟨t, _, ht, hold, hframe, hacts, fun hz hn => ?_, fun hz hn => ?_, fun hz => ?_, harb⟩
  · exact exchangeLease_free (by rw [hz]; rfl) hn
  · exact exchangeLease_held (by rw [hz]; rfl) hn
  · exact exchangeLease_asked fun hn => hz (BitVec.eq_of_toNat_eq hn)

end Sys2Proof.Machine
end

section
/-! PROOFS. The ticks and the refresh timers (O45). -/

set_option Elab.async false

namespace Sys2Proof.Machine

variable {s : State}

/-! ## The tick of the second timebase (R146, R180) -/

/-- The state once the second timebase has ticked, HREQ apart. -/
def secondTicked (s : State) : State :=
  { s with
    uptime := s.uptime + 1
    acts := { s.acts with entries := s.acts.entries.map tickEntry, moments := tickMoments s.acts.moments } }

theorem execSecondTick_next (h : s.por = false) : exec .secondTick s = .next (decideHreq (secondTicked s)) :=
  event_next (f := secondTicked) h rfl

theorem secondTicked_actuator (i : ActIx) : (secondTicked s).actuator i = tickEntry (s.actuator i) := by
  simp [State.actuator, secondTicked, Vector.get_eq_getElem]

theorem secondTick_ticked (h : s.por = false) :
    ∃ t, exec .secondTick s = .next t ∧ ChangesOnly [.acts, .uptime, .hreq] s t ∧ t.uptime = s.uptime + 1
      ∧ (∀ i, t.actuator i = { s.actuator i with lease := (s.actuator i).lease - 1 })
      ∧ t.acts.workList = s.acts.workList ∧ t.acts.running = s.acts.running
      ∧ t.acts.moments = { s.acts.moments with now := s.acts.moments.now + 1, ticked := s.acts.moments.now + 1 } := by
  have hnext := execSecondTick_next h
  refine ⟨_, hnext, execSecondTick_frame hnext, rfl, fun i => ?_, rfl, rfl, rfl⟩
  rw [(decideHreq_frame _).actuator, secondTicked_actuator]
  rfl

/-! ## The refresh timers (R154) -/

theorem execRefreshTimerExpiry_eq (i : ActIx) (s : State) : exec (.refreshTimerExpiry i.val) s
    = event (s.actuator i).refreshTimer.expired (fun s => queueRefresh i (restartRefresh i s)) s := dif_pos i.isLt

/-- A refresh timer that has not reached 0 has no expiry (notes/assumptions/1.md and 5.md). -/
theorem refreshTimer_idle {i : ActIx} (h : (s.actuator i).refreshTimer ≠ some 0) : exec (.refreshTimerExpiry i.val) s = .next s := by
  rw [execRefreshTimerExpiry_eq]
  exact event_none (.inr (timer_not_expired h))

section expiry
variable {i : ActIx} {d : ActDescriptor}

/-- A HELD actuator's timer restarts with its interval. -/
theorem restartRefresh_held (hd : (s.actuator i).desc = some d) (hk : d.kind = .held) :
    restartRefresh i s = s.setActuator i { s.actuator i with refreshTimer := some d.interval } := by
  simp [restartRefresh, hd, hk]

/-- Nothing more is queued for an actuator that has an internal item pending. -/
theorem queueRefresh_pending (h : WorkItem.policy i ∈ s.acts.workList ∨ WorkItem.refresh i ∈ s.acts.workList) :
    queueRefresh i s = s := if_pos h

/-- The state once a REFRESH has joined the work list, before the unit asks for the bus. -/
def refreshQueued (i : ActIx) (s : State) : State :=
  (recordMoment s.acts.moments.now i s).setWorkList (s.acts.workList ++ [.refresh i])

theorem queueRefresh_queued (h : ¬ (WorkItem.policy i ∈ s.acts.workList ∨ WorkItem.refresh i ∈ s.acts.workList)) :
    queueRefresh i s = requestActuator (refreshQueued i s) := if_neg h

/-- It is queued at the present moment, which goes on. -/
theorem refreshQueued_moments : (refreshQueued i s).acts.moments.queuedAt.get i = s.acts.moments.now
    ∧ (refreshQueued i s).acts.moments.now = s.acts.moments.now := by
  simp [refreshQueued, recordMoment, Vector.get_eq_getElem]

theorem queueRefresh_actuator (a : ActIx) : (queueRefresh i s).actuator a = s.actuator a := by
  by_cases h : WorkItem.policy i ∈ s.acts.workList ∨ WorkItem.refresh i ∈ s.acts.workList
  · rw [queueRefresh_pending h]
  · rw [queueRefresh_queued h, (requestActuator_frame _).actuator]
    rfl

theorem queueRefresh_running : (queueRefresh i s).acts.running = s.acts.running := by
  by_cases h : WorkItem.policy i ∈ s.acts.workList ∨ WorkItem.refresh i ∈ s.acts.workList
  · rw [queueRefresh_pending h]
  · rw [queueRefresh_queued h, requestActuator_acts]
    rfl

/-- The expiry of a HELD actuator's refresh timer (R154). -/
theorem refreshTimer_expired (hpor : s.por = false) (hx : (s.actuator i).refreshTimer = some 0)
    (hd : (s.actuator i).desc = some d) (hk : d.kind = .held) :
    ∃ t, exec (.refreshTimerExpiry i.val) s = .next t ∧ ChangesOnly [.acts, .arb, .hreq] s t
      ∧ t.actuator i = { s.actuator i with refreshTimer := some d.interval } ∧ (∀ j, j ≠ i → t.actuator j = s.actuator j)
      ∧ t.acts.running = s.acts.running
      ∧ ((WorkItem.policy i ∈ s.acts.workList ∨ WorkItem.refresh i ∈ s.acts.workList) →
        t.acts.workList = s.acts.workList ∧ t.arb = s.arb ∧ t.acts.moments = s.acts.moments)
      ∧ (WorkItem.policy i ∉ s.acts.workList → WorkItem.refresh i ∉ s.acts.workList →
        t.acts.workList = s.acts.workList ++ [.refresh i] ∧ t.acts.moments.queuedAt.get i = s.acts.moments.now
          ∧ t.acts.moments.now = s.acts.moments.now
          ∧ (s.arb.tenure ≠ some .actuatorUnit → t.arb.waiting.actuatorUnit = true)) := by
  have hnext : exec (.refreshTimerExpiry i.val) s = .next (decideHreq (queueRefresh i (restartRefresh i s))) := by
    rw [execRefreshTimerExpiry_eq]
    exact event_next hpor (timer_expired_iff.2 hx)
  have hframe := ((restartRefresh_frame s i).comp (queueRefresh_frame (restartRefresh i s) i) (n := [.acts, .arb])).comp
    (decideHreq_frame (queueRefresh i (restartRefresh i s))) (n := [.acts, .arb, .hreq])
  refine ⟨_, hnext, hframe, ?_⟩
  have hlast := decideHreq_frame (queueRefresh i (restartRefresh i s))
  simp only [hlast.actuator, hlast.acts, hlast.arb]
  rw [restartRefresh_held hd hk]
  generalize hu : s.setActuator i { s.actuator i with refreshTimer := some d.interval } = u
  have entry : u.actuator i = { s.actuator i with refreshTimer := some d.interval } := hu ▸ setActuator_actuator_self s i _
  have others : ∀ j, j ≠ i → u.actuator j = s.actuator j := fun j hj => by
    rw [← hu, setActuator_actuator, if_neg hj]
  have work : u.acts.workList = s.acts.workList := hu ▸ rfl
  have running : u.acts.running = s.acts.running := hu ▸ rfl
  have moments : u.acts.moments = s.acts.moments := hu ▸ rfl
  have arb : u.arb = s.arb := hu ▸ rfl
  refine ⟨(queueRefresh_actuator i).trans entry, fun j hj => (queueRefresh_actuator j).trans (others j hj),
    queueRefresh_running.trans running, fun h => ?_, fun hp hr => ?_⟩
  · rw [queueRefresh_pending (work ▸ h)]
    exact ⟨work, arb, moments⟩
  · obtain ⟨queuedAt, now⟩ := refreshQueued_moments (s := u) (i := i)
    rw [queueRefresh_queued (work ▸ not_or.2 ⟨hp, hr⟩), requestActuator_acts]
    refine ⟨congrArg (· ++ [WorkItem.refresh i]) work, queuedAt.trans (congrArg _ moments), now.trans (congrArg _ moments),
      fun ht => ?_⟩
    have free : (refreshQueued i u).arb.tenure ≠ some .actuatorUnit := arb.symm ▸ ht
    rw [requestActuator_asks free]
    simp [refreshQueued]

end expiry

/-- Settles O45: a tick lowers the leases alone, and a refresh expiry restarts its timer and queues what is not pending. -/
theorem ticksAndRefreshes : Obligations.TicksAndRefreshes :=
  ⟨fun _ hpor => secondTick_ticked hpor, fun _ _ hx => refreshTimer_idle hx,
    fun _ _ _ hpor hx hd hk => refreshTimer_expired hpor hx hd hk⟩

end Sys2Proof.Machine
end

section
/-! PROOFS. Claims granted, read, released and expired (O41). -/

set_option Elab.async false

namespace Sys2Proof.Machine

variable {s : State} {p : Port} {req : Request} {i : ActIx} {d : ActDescriptor}

/-! ## The end of a held claim (R147) -/

theorem endClaim_ended (hh : (s.actuator i).holder = some p) (m : Nat) : ClaimEnded i s (endClaim m i s) := by
  have held : (s.actuator i).holder ≠ none := by simp [hh]
  refine ⟨?_, fun d hd hs => endClaim_policy s m held hd hs⟩
  rw [endClaim_actuator, if_pos ⟨rfl, held⟩]

theorem endClaim_others (m : Nat) {j : ActIx} (hj : j ≠ i) : (endClaim m i s).actuator j = s.actuator j := by
  rw [endClaim_actuator, if_neg fun h => hj h.1]

/-- No restart begins: the only responses are refusals. -/
theorem endClaim_frame_noRestart (m : Nat) (i : ActIx) : ChangesOnly [.acts, .arb, .ports, .routes] s (endClaim m i s) :=
  (endClaim_frame s m i).without (b := .restart) (endClaim_holdersOnly s m i).restart

/-- The claim part of an entry whose claim has ended. -/
theorem claimPart_ended {t : State} (h : ClaimEnded i s t) : claimPart i (t.actuator i) = [natByte i.val, 3] ++ sendNat16 0 := by
  obtain ⟨hentry, -⟩ := h
  rw [hentry]
  rfl

section noItems
variable (hh : (s.actuator i).holder = some p) (hn : NoItems p s) (hd : (s.actuator i).desc = some d)
include hh hn

/-- With no command to dismiss, the claim is freed and the release policy applied. -/
theorem endClaim_noItems (m : Nat) : endClaim m i s = applyPolicy m i (claimFreed i s) := by
  have none_left : NoItems p (claimFreed i s) := hn
  rw [endClaim_held s hh, dismissCommand_noItems none_left]

include hd

/-- A KEEP actuator has nothing queued (R147). -/
theorem endClaim_keep (hk : d.policy = .keep) (m : Nat) : endClaim m i s = claimFreed i s := by
  have freed : ((claimFreed i s).actuator i).desc = some d := by
    rw [claimFreed, setActuator_actuator_self]
    exact hd
  rw [endClaim_noItems hh hn, applyPolicy]
  simp only [freed]
  exact if_neg (by simp [hk])

/-- The POLICY WRITE of a SAFE actuator is queued at a moment later than the present one, and the next is later still
(notes/assumptions/10.md). -/
theorem endClaim_safe_now (hs : d.policy = .safe) (hp : .policy i ∉ s.acts.workList) {m : Nat} (hm : s.acts.moments.now < m) :
    (endClaim m i s).acts.moments.now = m + 1 := by
  have freed : ((claimFreed i s).actuator i).desc = some d := by
    rw [claimFreed, setActuator_actuator_self]
    exact hd
  have absent : .policy i ∉ (claimFreed i s).acts.workList := hp
  rw [endClaim_noItems hh hn, applyPolicy]
  simp only [freed, hs, if_true]
  rw [queuePolicy, if_neg absent, requestActuator_acts]
  exact if_pos hm

end noItems

/-- The former holder that waits with a COMMAND or EXCHANGE of the actuator is answered NOT_HOLDER. -/
theorem endClaim_answers (hh : (s.actuator i).holder = some p) {w : WorkItem} (hw : w ∈ s.acts.workList)
    (hc : isCommandOf p i w = true) (he : (s.port p).executor = .serving req)
    (hr : (s.port p).output.length < Config.outputPlaces) (m : Nat) :
    HeldAnswered p req .notHolder ([natByte i.val, 3] ++ sendNat16 0) (endClaim m i s) := by
  have waits : (claimFreed i s).acts.workList.any (isCommandOf p i) = true := List.any_eq_true.2 ⟨w, hw, hc⟩
  have part : claimPart i ((claimFreed i s).actuator i) = [natByte i.val, 3] ++ sendNat16 0 := by
    rw [claimFreed, setActuator_actuator_self]
    rfl
  have answered := respond_refuses
    ((claimFreed i s).setWorkList ((claimFreed i s).acts.workList.filter fun v => !isCommandOf p i v)) he hr
    (r := ⟨.notHolder, claimPart i ((claimFreed i s).actuator i)⟩) nofun
  rw [endClaim_held s hh, dismissCommand, if_pos waits]
  rw [part] at answered ⊢
  exact answered.of_frame (applyPolicy_frame _ m i)

/-- And no COMMAND or EXCHANGE of it for the actuator is left. -/
theorem endClaim_noCommand (hh : (s.actuator i).holder = some p) (m : Nat) {v : WorkItem}
    (hv : v ∈ (endClaim m i s).acts.workList) (hp : v.port = some p) : v.target ≠ i := fun ht => by
  obtain ⟨-, hno⟩ := (endClaim_items s hh m (by rw [hp]; rfl)).1 hv
  rw [isCommandOf_iff.2 ⟨hp, ht⟩] at hno
  cases hno

/-! ## CLAIM and RELEASE (R144, R145) -/

theorem natByte_actuator (hi : (byteAt req.body 0).toNat = i.val) : natByte i.val = byteAt req.body 0 := by
  rw [← hi, natByte_toNat]

section request
variable (hi : (byteAt req.body 0).toNat = i.val) (hx : expiryDue s i = false)
include hi hx

section defined
variable (hd : (s.actuator i).desc = some d)
include hd

theorem claim_granted (h : Asked .claim p s req) (hm : d.portMask.get p = true) (hl : p = .hut ∨ siteAsserted s = false)
    (hh : (s.actuator i).holder = none ∨ (s.actuator i).holder = some p) :
    ∃ t, exec (.claim p) s = .next t ∧ ChangesOnly [.acts, .ports, .routes, .hreq] s t
      ∧ Answered p req .ok ([byteAt req.body 0, Port.code p] ++ sendNat16 (clampLease (word16At req.body 1).toNat)) s t
      ∧ t.acts = (s.setActuator i { s.actuator i with
          holder := some p
          lease := clampLease (word16At req.body 1).toNat }).acts := by
  have admitted := checkActuator_claims_admits (k := .claim) (v := 0) hd rfl nofun hm hl hh nofun
  have claimed := takeClaim_frame (takeHead p s) i p (clampLease (word16At req.body 1).toNat)
  have served : serveClaim p (some p) req (takeHead p s) = (takeClaim i p (clampLease (word16At req.body 1).toNat) (takeHead p s),
      some ⟨.ok, [byteAt req.body 0, Port.code p] ++ sendNat16 (clampLease (word16At req.body 1).toNat)⟩) := by
    rw [serveClaim, serveActuator_admitted hi hx admitted]
    simp only [answer, takeClaim, setActuator_actuator_self, claimPart, natByte_actuator hi, holderCode]
  obtain ⟨t, ht, hans, hkept⟩ := serve_answered h.1 (ofKind_of_asked h) served claimed.ports
    (claimed.routes.trans (takeHead_frame s p).routes) (.inl (kind_ne_restart h.2 (by decide)))
  refine ⟨t, ht, ((takeHead_frame s p).comp claimed (n := [.acts, .ports])).comp hkept, hans, ?_⟩
  rw [hkept.acts]
  simp [takeClaim]

theorem release_accepted (h : Asked .release p s req) (hh : (s.actuator i).holder = some p) (hn : NoItems p s) :
    ∃ t, exec (.release p) s = .next t ∧ ChangesOnly [.acts, .arb, .ports, .routes, .hreq] s t
      ∧ Answered p req .ok ([byteAt req.body 0, 3] ++ sendNat16 0) s t
      ∧ t.acts = (endClaim (s.acts.moments.now + 1) i (takeHead p s)).acts
      ∧ t.arb = (endClaim (s.acts.moments.now + 1) i (takeHead p s)).arb := by
  have hh' : ((takeHead p s).actuator i).holder = some p := by rw [takeHead_actuator, hh]
  have moment : nextMoment (takeHead p s) = s.acts.moments.now + 1 := by rw [nextMoment, takeHead_acts]
  have admitted := checkActuator_needs_admits (k := .release) (v := 0) hd rfl hh nofun
  have ended := (endClaim_quietEnd (takeHead_noItems s hn) hh' (s.acts.moments.now + 1)).frame
  have served : serveRelease p (some p) req (takeHead p s) = (endClaim (s.acts.moments.now + 1) i (takeHead p s),
      some ⟨.ok, [byteAt req.body 0, 3] ++ sendNat16 0⟩) := by
    rw [serveRelease, serveActuator_admitted hi hx admitted]
    simp only [answer, moment, claimPart_ended (endClaim_ended hh' _), natByte_actuator hi]
  obtain ⟨t, ht, hans, hkept⟩ := serve_answered h.1 (ofKind_of_asked h) served ended.ports
    (ended.routes.trans (takeHead_frame s p).routes) (.inl (kind_ne_restart h.2 (by decide)))
  exact ⟨t, ht, ((takeHead_frame s p).comp ended (n := [.acts, .arb, .ports])).comp hkept, hans, hkept.acts, hkept.arb⟩

end defined

/-! ## READ ACTUATOR (R142) -/

theorem readActuator_defined (hd : (s.actuator i).desc = some d) (h : Asked .readActuator p s req) :
    AnswersOnly (.readActuator p) p req .ok ([1] ++ actDescriptorBytes d ++ actLiveBytes i s.acts.workList (s.actuator i)) s := by
  refine answersOnly_of_kind h (by decide) rfl ?_
  simp only [serveReadActuator, actIxOf_some hi, takeExpiry_none _ ((takeHead_expiryDue s p i).trans hx), takeHead_actuator, hd,
    takeHead_acts]
  rfl

theorem readActuator_undefined (hd : (s.actuator i).desc = none) (h : Asked .readActuator p s req) :
    AnswersOnly (.readActuator p) p req .ok [0] s := by
  refine answersOnly_of_kind h (by decide) rfl ?_
  simp only [serveReadActuator, actIxOf_some hi, takeExpiry_none _ ((takeHead_expiryDue s p i).trans hx), takeHead_actuator, hd]
  rfl

end request

/-! ## The expiry of a lease (R146) -/

theorem execLeaseExpiry_eq (i : ActIx) (s : State) : exec (.leaseExpiry i.val) s = event (expiryDue s i) (takeExpiry i) s :=
  dif_pos i.isLt

/-- A lease that the tick has taken to 0 ends its claim at the moment of the tick. -/
theorem leaseExpiry_next (hpor : s.por = false) (hh : (s.actuator i).holder = some p) (hl : (s.actuator i).lease = 0) :
    exec (.leaseExpiry i.val) s = .next (decideHreq (endClaim s.acts.moments.ticked i s)) := by
  have due : expiryDue s i = true := by simp [expiryDue, hh, hl]
  rw [execLeaseExpiry_eq, event_next hpor due, takeExpiry, if_pos due]

theorem leaseExpiry_ended (hpor : s.por = false) (hh : (s.actuator i).holder = some p) (hl : (s.actuator i).lease = 0) :
    ∃ t, exec (.leaseExpiry i.val) s = .next t ∧ ChangesOnly [.acts, .arb, .ports, .routes, .hreq] s t ∧ ClaimEnded i s t
      ∧ (∀ j, j ≠ i → t.actuator j = s.actuator j)
      ∧ (∀ d, (s.actuator i).desc = some d → d.policy = .safe → .policy i ∉ s.acts.workList →
        t.acts.moments.queuedAt.get i = s.acts.moments.ticked)
      ∧ (NoItems p s → t.ports = s.ports ∧ t.routes = s.routes)
      ∧ (∀ w req, w ∈ s.acts.workList → w.port = some p → w.target = i → (s.port p).executor = .serving req →
        (s.port p).output.length < 8 →
        HeldAnswered p req .notHolder ([natByte i.val, 3] ++ sendNat16 0) t
          ∧ ∀ v ∈ t.acts.workList, v.port = some p → v.target ≠ i) := by
  generalize hm : s.acts.moments.ticked = m
  have last := decideHreq_frame (endClaim m i s)
  refine ⟨_, hm ▸ leaseExpiry_next hpor hh hl, (endClaim_frame_noRestart m i).comp last,
    (endClaim_ended hh m).congr rfl last.acts, fun j hj => ?_, fun d hd hs hp => ?_, fun hn => ?_, fun w req hw hp ht he hr => ?_⟩
  · rw [last.actuator, endClaim_others m hj]
  · rw [last.acts, endClaim_moment s m hh hd hs hp]
  · have quiet := (endClaim_quietEnd hn hh m).frame
    exact ⟨last.ports.trans quiet.ports, last.routes.trans quiet.routes⟩
  · refine ⟨(endClaim_answers hh hw (isCommandOf_iff.2 ⟨hp, ht⟩) he hr m).of_frame last, fun v hv hvp => ?_⟩
    rw [last.acts] at hv
    exact endClaim_noCommand hh m hv hvp

/-- Settles O41: a claim is taken past the checks of R143, and every end of it is that of R147. -/
theorem claimsGrantedReadAndEnded : Obligations.ClaimsGrantedReadAndEnded := by
  refine ⟨fun p s req i d hi hx hd => ⟨fun h hm hl hh => ?_, fun h hh hn => ?_, fun h => ?_⟩,
    fun p s req i hi hx hd h => readActuator_undefined hi hx hd h, fun s i p hpor hh hl => leaseExpiry_ended hpor hh hl⟩
  · exact claim_granted hi hx hd h hm hl hh
  · obtain ⟨t, ht, hframe, hans, hacts, harb⟩ := release_accepted hi hx hd h hh hn
    have hh' : ((takeHead p s).actuator i).holder = some p := by rw [takeHead_actuator, hh]
    have hd' : ((takeHead p s).actuator i).desc = some d := by rw [takeHead_actuator, hd]
    have hn' : NoItems p (takeHead p s) := takeHead_noItems s hn
    refine ⟨t, ht, hframe, hans, (endClaim_ended hh' _).congr (takeHead_actuator s p i) hacts, fun j hj => ?_, ?_, fun hk => ?_,
      fun hs hp => ?_⟩
    · rw [State.actuator, hacts]
      exact (endClaim_others _ hj).trans (takeHead_actuator s p j)
    · rw [hacts, (endClaim_holdersOnly _ _ i).running, takeHead_acts]
    · rw [hacts, harb, endClaim_keep hh' hn' hd' hk]
      simp [claimFreed]
    · have hp' : .policy i ∉ (takeHead p s).acts.workList := by rwa [takeHead_acts]
      rw [hacts]
      refine ⟨endClaim_moment _ _ hh' hd' hs hp', endClaim_safe_now hh' hn' hd' hs hp' ?_⟩
      rw [takeHead_acts]
      exact Nat.lt_succ_self _
  · exact readActuator_defined hi hx hd h

end Sys2Proof.Machine
end
